-- ==== Sys2Proof/Word.lean ====
section
/-!
DEFINITION. The words of the SC28: station time and order numbers (32 bits, R1, R22), arrival numbers (16 bits,
R62), bytes of frames and records, and station addresses (6 bits, R4). Quantities that the manual counts or measures
are `Nat` or `Int`.
-/

namespace Sys2Proof

/-- Station time, stamps, instants and line order numbers: 32 bits, wrapping (R1, R2, R22). -/
abbrev Word := BitVec 32

/-- A 16-bit value: an arrival number (R62) or a check sequence (R15). -/
abbrev Half := BitVec 16

/-- One byte of a frame's payload or of the configuration record. -/
abbrev Byte := BitVec 8

/-- A station address, 0..63; 63 is the all-stations target (R4, R14). -/
abbrev Address := BitVec 6

end Sys2Proof
end

