-- ==== Sys2Proof/Config.lean ====
section
/-!
DEFINITION. The figures the manual fixes for every SC28: capacities, fixed durations in station time units of 100 µs,
counts and margins, each with the rule that gives it. The manual leaves no result of a command open, so there is no
free value among them.
-/

namespace Sys2Proof.Config

/-- Units of station time in one millisecond (R1). -/
def unitsPerMs : Nat := 10
/-- Units of station time in 100 ms (R1). -/
def unitsPer100ms : Nat := 1000
/-- Units of station time in one second (R126, R166). -/
def unitsPerSecond : Nat := 10000

/-- I2C device address of the configuration memory (R5). -/
def configDevice : Nat := 86
/-- Byte offset written before the read (R5). -/
def configOffset : Nat := 0
/-- Length of the configuration record in bytes (R5, R100). -/
def configLength : Nat := 40
/-- The configuration transfer must be complete within 50 ms (R5). -/
def configReadUnits : Nat := 500
/-- The looped frame must be back 10 ms after its send began (R9). -/
def selfLoopUnits : Nat := 100
/-- The join period, 15 s (R10). -/
def joinUnits : Nat := 150000

/-- Recessive bit periods that make the line idle (R17). -/
def idleBits : Nat := 11
/-- Equal bits after which a stuff bit stands (R88). -/
def stuffRun : Nat := 8
/-- Dominant bit periods of an abort run (R19). -/
def abortRunBits : Nat := 16
/-- Send collisions of one frame that report a duplicate address (R20). -/
def collisionLimit : Nat := 3
/-- Greatest number of payload bytes (R14). -/
def maxPayload : Nat := 8
/-- REPLY frames the transmit queue admits (R27). -/
def replyQuota : Nat := 10
/-- Frames the receive silo holds (R31). -/
def siloPlaces : Nat := 8
/-- Value at which the 8-bit counters stop (R7, R33, R40, R50, R183). -/
def counterTop : Nat := 255
/-- Value at which the 16-bit durations of a result stop (R97). -/
def durationTop : Nat := 65535

/-- The all-stations target (R4). -/
def allStations : Address := 63
/-- The first address that is not a bay's (R4). -/
def bayAddresses : Nat := 48
/-- Owner range in force while the configuration record is absent (R8). -/
def ownerLowDefault : Nat := 48
def ownerHighDefault : Nat := 62

/-- Greatest held or asked amount, FU (R37, R73). -/
def claimTop : Nat := 400
/-- Longest refresh period, 100 ms (R37). -/
def refreshTop : Nat := 50
/-- Refresh periods after which a peer view entry expires (R36). -/
def expiryPeriods : Nat := 3
/-- Refresh periods of the hold-stale interval (R53). -/
def stalePeriods : Nat := 2
/-- Doublings of the backoff (R50). -/
def backoffDoublings : Nat := 4

/-- The assembly deadline after an OPEN's arrival stamp, 500 ms (R67). -/
def assemblyUnits : Nat := 5000
/-- Slots of the slot table (R61). -/
def slotCount : Nat := 8
/-- Slot number that names all slots in a CANCEL (R64). -/
def allSlots : Nat := 15

/-- The sample watchdog's interval, 300 µs (R111). -/
def watchdogUnits : Nat := 3
/-- Greatest output current taken in, dA (R108). -/
def currentTop : Nat := 8000
/-- Greatest feeder voltage taken in, 0.1 V (R108). -/
def feederTop : Nat := 6000
/-- Greatest output voltage the converter's field carries, mV (R109). -/
def voltageTop : Nat := 65535
/-- Range of inlet temperatures taken in, 0.1 °C (R108). -/
def temperatureLow : Int := -400
def temperatureHigh : Int := 1500

/-- The rest timer, 2 s (R126). -/
def restUnits : Nat := 20000
/-- Sets at rest that show rest (R127). -/
def restSets : Nat := 64
/-- A set at rest reads below this current, dA (R127). -/
def restCurrent : Nat := 20
/-- Shed restarts a check may make (R133). -/
def restartLimit : Nat := 2
/-- Off-time and recover wait of a DERATE check (R175). -/
def derateOffUnits : Nat := 20000
def derateRecoverUnits : Nat := 600000

/-- Runs needed by the guard unit's monitors (R181). -/
def guardRunShort : Nat := 4
def guardRunLong : Nat := 64

/-- Lower ends of the guard limits' configured ranges, which a TIGHTEN cannot pass (R7, R180). -/
def guardCurrentLow : Nat := 100
def guardVoltageLow : Nat := 10000
def guardTemperatureLow : Int := 0

end Sys2Proof.Config
end

