-- ==== Sys2Proof/Syntax.lean ====
section
/-!
DEFINITION. The commands of the SC28: one constructor for each row of spec/opcode_table.json. The table gives the rows
no bits and no fields; an operand here is what the event brings from outside the part (log 7, log 10). A request or an
announcement is handed on from the receive silo (R32), so those rows carry nothing: their data are the frame's.
-/

namespace Sys2Proof

/-- The readings of one sample set as the converter reports them, before R109 brings them into range. -/
structure ReportedSet where
  /-- output voltage, mV; the field covers 0..65,535 -/
  voltage : Nat
  /-- output current, dA -/
  current : Nat
  /-- inlet temperature, 0.1 °C -/
  temperature : Int
  /-- feeder voltage, 0.1 V -/
  feeder : Nat
  /-- power-good present -/
  powerGood : Bool
  /-- shelf alert asserted -/
  alert : Bool
  deriving DecidableEq, Repr

/-- Which block takes a sample set first; R181 gives both outcomes and fixes neither (log 11). -/
inductive SetOrder where
  | guardFirst
  | engineFirst
  deriving DecidableEq, Repr

/-- The part's commands, one for each row of the opcode table, in the table's order. -/
inductive Instr where
  /-- POWER_RESET (R3), with the six strap pins as R4 reads them -/
  | powerReset (straps : Address)
  /-- STATION_TIME_TICK (R1) -/
  | stationTimeTick
  /-- CONFIG_READ_COMPLETE (R6), with the bytes received -/
  | configReadComplete (record : List Byte)
  /-- CONFIG_READ_NOT_ACKNOWLEDGED (R5) -/
  | configReadNotAcknowledged
  /-- CONFIG_READ_TIMEOUT (R5) -/
  | configReadTimeout
  /-- LOOPED_FRAME_RECEIVED (R9), with the bits that came back through the loop -/
  | loopedFrameReceived (bits : List Bool)
  /-- SELF_LOOP_TIMEOUT (R9) -/
  | selfLoopTimeout
  /-- JOIN_TIMER_EXPIRY (R10) -/
  | joinTimerExpiry
  /-- TRANSMIT_START (R18) -/
  | transmitStart
  /-- FRAME_SENT (R23) -/
  | frameSent
  /-- ARBITRATION_LOST (R18) -/
  | arbitrationLost
  /-- SEND_COLLISION (R19) -/
  | sendCollision
  /-- FRAME_RECEIVED (R30), with the station time of its start bit and its bits from start bit to last check bit -/
  | frameReceived (stamp : Word) (bits : List Bool)
  /-- RECEIVED_IN_ERROR (R29), with the bits heard until the error was known -/
  | receivedInError (bits : List Bool)
  /-- ABORT_RUN_SEEN (R21) -/
  | abortRunSeen
  /-- SHED (R59) -/
  | shed
  /-- ASK (R38) -/
  | ask
  /-- HOLD (R39) -/
  | hold
  /-- DROP (R39) -/
  | drop
  /-- OPEN (R67) -/
  | openSlot
  /-- PART (R68) -/
  | part
  /-- CANCEL (R77) -/
  | cancel
  /-- CLEAR (R80) -/
  | clear
  /-- FETCH (R82) -/
  | fetch
  /-- STATUS (R65) -/
  | status
  /-- TIGHTEN (R180) -/
  | tighten
  /-- CLEAR_FAULT (R184) -/
  | clearFault
  /-- BAY_RESET (R185) -/
  | bayReset
  /-- ASSEMBLY_DEADLINE_EXPIRY (R71) of one slot -/
  | assemblyDeadlineExpiry (slot : Fin 8)
  /-- CONTEST_TIMER_EXPIRY (R48) -/
  | contestTimerExpiry
  /-- CONTEST_DECISION (R48) -/
  | contestDecision
  /-- BACKOFF_TIMER_EXPIRY (R51) -/
  | backoffTimerExpiry
  /-- REFRESH_TIMER_EXPIRY (R52) -/
  | refreshTimerExpiry
  /-- HOLD_STALE_TIMER_EXPIRY (R53) -/
  | holdStaleTimerExpiry
  /-- PEER_ENTRY_EXPIRY (R40) of the entry of one address -/
  | peerEntryExpiry (address : Address)
  /-- RE_LISTEN_TIMER_EXPIRY (R41) -/
  | reListenTimerExpiry
  /-- SAMPLE_READ_BEGIN (R112) -/
  | sampleReadBegin
  /-- SAMPLE_SET_ARRIVAL (R108), with the readings as reported and the order in which two blocks take them -/
  | sampleSetArrival (reported : ReportedSet) (order : SetOrder)
  /-- SAMPLE_WATCHDOG_EXPIRY (R111) -/
  | sampleWatchdogExpiry
  /-- WRITE_BEGIN (R116) -/
  | writeBegin
  /-- WRITE_END (R116) -/
  | writeEnd
  /-- SETPOINT_ACKNOWLEDGEMENT (R117), with the value the load stage has applied -/
  | setpointAcknowledgement (value : Nat)
  /-- ACKNOWLEDGEMENT_TIMER_EXPIRY (R119) -/
  | acknowledgementTimerExpiry
  /-- EMERGENCY_STOP_CHANGE (R182), with the new level: true is asserted -/
  | emergencyStopChange (asserted : Bool)
  /-- START_WAIT_TIMER_EXPIRY (R126) -/
  | startWaitTimerExpiry
  /-- REST_TIMER_EXPIRY (R127) -/
  | restTimerExpiry
  /-- SOAK_MAXIMUM_TIMER_EXPIRY (R166) -/
  | soakMaximumTimerExpiry
  /-- SHED_HOLD_TIMER_EXPIRY (R134) -/
  | shedHoldTimerExpiry
  /-- TIME_OUT_TIMER_EXPIRY (R156) -/
  | timeOutTimerExpiry
  /-- OFF_TIME_TIMER_EXPIRY (R136) -/
  | offTimeTimerExpiry
  /-- RECOVER_WAIT_TIMER_EXPIRY (R136) -/
  | recoverWaitTimerExpiry
  /-- LINE_IDLE (R17) -/
  | lineIdle
  deriving DecidableEq, Repr

end Sys2Proof
end

