-- ==== Sys2Proof/WellFormed.lean ====
section
/-!
DEFINITION. Which commands carry operands that the event can bring (log 1): a complete configuration record, frame
bits that begin with the dominant start bit, an output voltage that the converter's field can hold, and a peer
address of a bay. The meanings take a command whose operands fail these checks as no event of the part.
-/

namespace Sys2Proof

/-- The bits of a frame begin with its dominant start bit (R87); dominant is 0, held as `false`. -/
def startsDominant (bits : List Bool) : Bool := bits.head? == some false

/-- The readings fit the converter's fields (R109: output voltage covers the whole range 0..65,535). -/
def ReportedSet.fits (r : ReportedSet) : Bool := decide (r.voltage ≤ Config.voltageTop)

/-- A peer view entry is keyed by a bay address, 0..47 (R36). -/
def isBay (a : Address) : Bool := decide (a.toNat < Config.bayAddresses)

/-- The operands are ones the event can bring. -/
def Instr.wellFormed : Instr → Bool
  | .configReadComplete record => record.length == Config.configLength
  | .frameReceived _ bits => startsDominant bits
  | .receivedInError bits => startsDominant bits
  | .peerEntryExpiry a => isBay a
  | .sampleSetArrival r _ => r.fits
  | .powerReset _ | .stationTimeTick | .configReadNotAcknowledged | .configReadTimeout | .loopedFrameReceived _
  | .selfLoopTimeout | .joinTimerExpiry | .transmitStart | .frameSent | .arbitrationLost | .sendCollision
  | .abortRunSeen | .shed | .ask | .hold | .drop | .openSlot | .part | .cancel | .clear | .fetch | .status
  | .tighten | .clearFault | .bayReset | .assemblyDeadlineExpiry _ | .contestTimerExpiry | .contestDecision
  | .backoffTimerExpiry | .refreshTimerExpiry | .holdStaleTimerExpiry | .reListenTimerExpiry | .sampleReadBegin
  | .sampleWatchdogExpiry | .writeBegin | .writeEnd | .setpointAcknowledgement _ | .acknowledgementTimerExpiry
  | .emergencyStopChange _ | .startWaitTimerExpiry | .restTimerExpiry | .soakMaximumTimerExpiry
  | .shedHoldTimerExpiry | .timeOutTimerExpiry | .offTimeTimerExpiry | .recoverWaitTimerExpiry | .lineIdle => true

end Sys2Proof
end

