-- ==== Sys2Proof/Decode.lean ====
section
/-!
DEFINITION. The commands that a word spells by the opcode table's bits. spec/opcode_table.json gives no row any bits
(its rows carry no "fixed" bits and no fields; they are events of the part), so no word spells a command.
-/

namespace Sys2Proof

/-- The command that an `nbits`-bit word spells: none, for the table gives no row any bits. -/
def decodeTableWord (_nbits _w : Nat) : Option Instr := none

end Sys2Proof
end

