-- ==== Sys2Proof/Machine/State.lean ====
section
/-!
DEFINITION. The state of the SC28: one structure for each of the eight blocks of spec/00, the queue of commands that
wait, and the machine right after power reset (R3). State is plain data. Fields the manual does not name are the
model's own and are marked MODEL; log 5 gives their values at reset.
-/

namespace Sys2Proof.Machine

/-- No command of the SC28 stops it: the manual gives every row of the table an effect, so there is no fault. The
part's own faults (station fault, fault latch) are state. -/
inductive Fault where
  deriving DecidableEq, Repr

/-- The one refusal is the host's; no arm of exec answers it, since every row has its meaning. -/
inductive Refusal where
  /-- an arm of exec that has no meaning yet; raised by nothing in this model (safe) -/
  | notModelled (mnemonic : String)
  deriving DecidableEq, Repr

/-- A timer is held as its expiry instant, and is absent while it is stopped (R2). -/
abbrev Timer := Option Word

/-! ### Codes -/

/-- Causes of aborts, NOT_RUN and the fault latch, in the order of their codes (R106). -/
inductive Cause where
  | none | cancelled | notAtRest | soakTimeout | holdStale | shedLimit | estop | guardV | guardI | guardT
  | loadStageSilent | loadStageMismatch | samplesLost | recoverFailed | stationSilenced
  deriving DecidableEq, Repr

/-- Verdicts, in the order of their codes (R105). -/
inductive Verdict where
  | pass | failLow | failHigh | noTrip | noFold | trippedInDerate | notRun | aborted
  deriving DecidableEq, Repr

/-- Refusal reasons, in the order of their codes from 1 (R107). -/
inductive Reason where
  | notOwner | notReady | slotBusy | slotLocked | badKind | badParam | assemblyBroken | claimTooLarge
  | claimExceedsFeeder | nothingToDo | faultPersists | noFault | resetting
  deriving DecidableEq, Repr

/-! ### Start-up controller (01) -/

/-- The six station states (R3 to R13). -/
inductive StationState where
  | loading | selfLoop | joining | onLine | degraded | offLine
  deriving DecidableEq, Repr

/-- The station faults (spec/01, Station States). -/
inductive StationFault where
  | strapInvalid | configUnreadable | configBad | loopFailed | dupAddress
  deriving DecidableEq, Repr

/-- The two start orders (R7, R74). -/
inductive StartOrder where
  | priorityThenArrival | slotNumber
  deriving DecidableEq, Repr

/-- The clamped configuration record in use (R7, R8, R100). -/
structure ConfigRecord where
  /-- F, FU -/
  capacity : Nat
  /-- R, FU -/
  reserve : Nat
  /-- eff, per mille -/
  efficiency : Nat
  /-- V_nom, mV -/
  nominalVoltage : Nat
  /-- W_c, ms -/
  contestWindow : Nat
  /-- p_own, 100 ms -/
  refreshPeriod : Nat
  /-- B, ms -/
  backoffBase : Nat
  startOrder : StartOrder
  ownerLow : Nat
  ownerHigh : Nat
  /-- I_guard, dA -/
  guardCurrent : Nat
  /-- V_guard, mV -/
  guardVoltage : Nat
  /-- T_guard, 0.1 °C -/
  guardTemperature : Int
  /-- 0.1 V -/
  sagThreshold : Nat
  /-- 0.1 V -/
  sagClear : Nat
  /-- sample sets -/
  sagCount : Nat
  /-- ms -/
  shedHold : Nat
  /-- s -/
  startWait : Nat
  /-- ms -/
  ackTimeout : Nat
  deriving DecidableEq, Repr

/-- The one transfer from the configuration memory (R5). -/
structure ConfigRead where
  device : Nat
  offset : Nat
  count : Nat
  due : Word
  deriving DecidableEq, Repr

/-- What the start-up controller holds (R3). -/
structure StartUp where
  station : StationState
  fault : Option StationFault
  address : Option Address
  config : Option ConfigRecord
  clampCount : Nat
  configRead : Option ConfigRead
  loopTimer : Timer
  joinTimer : Timer
  deriving DecidableEq, Repr

/-! ### Line unit (02) -/

/-- The contents of a frame without its check sequence; the length is the payload's (R14). -/
structure Frame where
  cls : BitVec 3
  urgency : BitVec 2
  source : Address
  target : Address
  kind : BitVec 5
  payload : List Byte
  deriving DecidableEq, Repr

/-- The blocks that queue frames (R16, R23). -/
inductive Block where
  | headroom | slotTable | guardUnit
  deriving DecidableEq, Repr

/-- An entry of the transmit queue (R24). -/
structure Entry where
  frame : Frame
  block : Block
  /-- the order in which frames were accepted into the queue -/
  entryOrder : Nat
  /-- an attempt to send it is in progress -/
  sending : Bool
  /-- a REPLY that was sending when BAY_RESET was taken: removed when its attempt fails (R28) -/
  removing : Bool
  deriving DecidableEq, Repr

/-- A frame in the receive silo (R22, R31). -/
structure Heard where
  frame : Frame
  stamp : Word
  order : Word
  deriving DecidableEq, Repr

/-- How the line unit stands to the line (R17, R18, R34). `sending` and `receiving` keep the station time of the start
bit the part sent; `receiving` follows a lost arbitration. -/
inductive LineState where
  | apart
  | looped
  | busy
  | idle
  | sending (start : Word)
  | receiving (start : Word)
  deriving DecidableEq, Repr

/-- What the line unit holds (R24 to R35). -/
structure Line where
  judgement : LineState
  /-- MODEL: the bits the part is putting on its driver -/
  driving : List Bool
  queue : List Entry
  waiting : Option Frame
  /-- MODEL: the entry order of the next frame accepted -/
  nextEntry : Nat
  silo : List Heard
  order : Word
  collisions : Nat
  /-- MODEL: the entry the collision count belongs to, by its entry order (R20) -/
  collided : Option Nat
  receiveErrors : Nat
  overruns : Nat
  foreign : Nat
  replyDrops : Nat
  deriving DecidableEq, Repr

/-! ### Headroom unit (03) -/

/-- State of a peer view entry; the asked amount is present in ASKING only (R36). -/
inductive PeerState where
  | holding
  | asking (asked : Nat)
  deriving DecidableEq, Repr

/-- An entry of the peer view (R36). -/
structure Peer where
  address : Address
  state : PeerState
  held : Nat
  order : Word
  heard : Word
  period : Nat
  expiry : Word
  deriving DecidableEq, Repr

/-- The own claim's states (R43). -/
inductive ClaimState where
  | barred | idle | askQueued | contest | holding | backoff
  deriving DecidableEq, Repr

/-- Kinds of CLAIM frames, in the order of their codes (R89). -/
inductive ClaimKind where
  | ask | hold | drop
  deriving DecidableEq, Repr

/-- The CLAIM the headroom unit last offered (R44). -/
structure ClaimFrame where
  kind : ClaimKind
  held : Nat
  asked : Nat
  deriving DecidableEq, Repr

/-- A need stated by the engine, with its check's priority (R45). -/
structure Need where
  amount : Nat
  priority : Nat
  deriving DecidableEq, Repr

/-- The newest frame in the receive silo at the contest timer's expiry (R48). -/
inductive Noted where
  | siloEmpty
  | upTo (order : Word)
  deriving DecidableEq, Repr

/-- What the headroom unit holds (R36 to R60). -/
structure Headroom where
  peers : List Peer
  aged : Nat
  suspect : Bool
  reListen : Timer
  claim : ClaimState
  held : Nat
  need : Option Need
  /-- MODEL: the priority of the need last stated, which a DROP after a withdrawal carries (R44) -/
  priority : Nat
  current : Option ClaimFrame
  /-- o_own (R45) -/
  own : Option Word
  /-- MODEL: the completion instant of the own ASK, from which a grant sets the hold-stale timer (R49) -/
  askCompleted : Option Word
  denial : Bool
  /-- MODEL: present from the contest timer's expiry to the decision (R48) -/
  note : Option Noted
  /-- MODEL: the own SHED that waited for the line at the contest timer's expiry, by its entry order (R60) -/
  lateShed : Option Nat
  yields : Nat
  target : Option Nat
  contestTimer : Timer
  backoffTimer : Timer
  refreshTimer : Timer
  staleTimer : Timer
  sagRun : Nat
  sagEpisode : Bool
  deriving DecidableEq, Repr

/-! ### Slot table (04, 05) -/

/-- The kinds of check (R91). -/
inductive CheckKind where
  | tripRamp | tripTime | derate
  deriving DecidableEq, Repr

/-- Collapse detection and recovery, part 2 of both trip kinds (R101). -/
structure TripTail where
  /-- V_col, mV -/
  collapseVoltage : Nat
  /-- C_col -/
  collapseCount : Nat
  /-- off-time, 100 ms -/
  offTime : Nat
  /-- recover wait, 100 ms -/
  recoverWait : Nat
  deriving DecidableEq, Repr

/-- Start current, step, dwell and ceiling of a ramp (R101, R102, R147). -/
structure Ramp where
  /-- Is, dA -/
  start : Nat
  /-- ΔI, dA -/
  rise : Nat
  /-- D, sample sets -/
  dwell : Nat
  /-- Ic, dA -/
  ceiling : Nat
  deriving DecidableEq, Repr

/-- Parameters of a TRIP_RAMP check (R101). -/
structure RampParams where
  ramp : Ramp
  /-- Imin, dA -/
  windowLow : Nat
  /-- Imax, dA -/
  windowHigh : Nat
  tail : TripTail
  deriving DecidableEq, Repr

/-- Parameters of a TRIP_TIME check (R101). -/
structure TimeParams where
  /-- Io, dA -/
  overload : Nat
  /-- tmin, 100 µs -/
  timeLow : Nat
  /-- tmax, 100 µs -/
  timeHigh : Nat
  /-- Ip, dA -/
  preload : Nat
  /-- pre-load dwell, sample sets -/
  preDwell : Nat
  /-- time-out, ms -/
  timeOut : Nat
  tail : TripTail
  deriving DecidableEq, Repr

/-- A point of a derating curve (R102). -/
structure Point where
  temperature : Int
  power : Nat
  deriving DecidableEq, Repr

/-- Parameters and curve of a DERATE check (R102). -/
structure DerateParams where
  tLow : Int
  tHigh : Int
  /-- soak maximum, s -/
  soakMaximum : Nat
  ramp : Ramp
  /-- V_fold, mV -/
  foldVoltage : Nat
  /-- C_fold -/
  foldCount : Nat
  /-- tol_lo, per mille -/
  tolLow : Nat
  /-- tol_hi, per mille -/
  tolHigh : Nat
  /-- stability limit, 0.1 °C -/
  stability : Nat
  /-- point count n as sent (R103) -/
  points : Nat
  /-- W_s, sample sets -/
  blockSets : Nat
  curve : List Point
  deriving DecidableEq, Repr

/-- The parameters of a check, by kind. -/
inductive Params where
  | tripRamp (p : RampParams)
  | tripTime (p : TimeParams)
  | derate (p : DerateParams)
  deriving DecidableEq, Repr

/-- What every slot but a VACANT one holds (R61). -/
structure SlotHead where
  owner : Address
  kind : CheckKind
  priority : Nat
  arrival : Half
  deriving DecidableEq, Repr

/-- What validation gives a slot (R61, R73). -/
structure Work where
  params : Params
  ceilingClamped : Bool
  dwellClamped : Bool
  need : Nat
  deriving DecidableEq, Repr

/-- A result record, bytes 0..23 of the result block (R96, R97). -/
structure ResultRecord where
  verdict : Verdict
  cause : Cause
  restarts : Nat
  clipped : Bool
  carried : Bool
  furtherFault : Bool
  measured : Nat
  expected : Nat
  bandLower : Nat
  bandUpper : Nat
  tUsed : Int
  claimAmount : Nat
  /-- 10 ms, saturated -/
  headroomWait : Nat
  /-- 10 ms, saturated -/
  runDuration : Nat
  endStamp : Word
  peakCurrent : Nat
  deriving DecidableEq, Repr

/-- A slot record (R61). The lock of a DONE slot is held as the entry order of its group's first RESULT frame
(log 19). The engine phase of an ACTIVE slot is the engine's own field. -/
inductive Slot where
  | vacant
  | assembling (head : SlotHead) (expected : Nat) (parts : List (List Byte)) (deadline : Word)
  | held (head : SlotHead) (work : Work)
  | active (head : SlotHead) (work : Work)
  | done (head : SlotHead) (work : Work) (result : ResultRecord) (lock : Option Nat)
  deriving DecidableEq, Repr

/-- What the slot table holds (R61, R62, R74). -/
structure SlotTable where
  slots : Vector Slot 8
  arrival : Half
  queue : List (Fin 8)
  deriving DecidableEq, Repr

/-! ### Check engine (07, 08, 09) -/

/-- The engine's phases, in the order of their codes (R94). -/
inductive Phase where
  | idle | quiet | soak | claiming | preload | ramp | step | frozen | settle | recover | release | aborting
  deriving DecidableEq, Repr

/-- What QUIET waits for (R126). -/
inductive QuietStage where
  | drop | powerGood | rest
  deriving DecidableEq, Repr

/-- The active check as handed over (R124). -/
structure Check where
  slot : Fin 8
  priority : Nat
  params : Params
  need : Nat
  deriving DecidableEq, Repr

/-- A determined verdict with its measured value (R124, R132). -/
structure Determined where
  verdict : Verdict
  measured : Nat
  deriving DecidableEq, Repr

/-- Origin of a collapse run (R146). The run is judged from `judgedFrom`; a premature run has none (R154, log 17). -/
structure CollapseOrigin where
  current : Nat
  stamp : Word
  judgedFrom : Option Word
  deriving DecidableEq, Repr

/-- The part of the trip record that is not shared with the derating record (R146). -/
structure TripRecord where
  lastCurrent : Nat
  origin : Option CollapseOrigin
  stepInstant : Option Word
  timeOut : Timer
  deriving DecidableEq, Repr

/-- The open soak block (R163). -/
structure OpenBlock where
  count : Nat
  sum : Int
  least : Option Int
  greatest : Option Int
  deriving DecidableEq, Repr

/-- A completed soak block (R163, R164). -/
structure SoakBlock where
  number : Nat
  average : Int
  spread : Nat
  good : Bool
  deriving DecidableEq, Repr

/-- T_used, the expected power and the band, fixed when RAMP begins (R163, R170). -/
structure Band where
  tUsed : Int
  expected : Nat
  lower : Nat
  upper : Nat
  deriving DecidableEq, Repr

/-- Origin of a fold run (R163): the power maximum before its first set, and whether a set of it showed power-good
absent. -/
structure FoldOrigin where
  power : Nat
  dark : Bool
  deriving DecidableEq, Repr

/-- The part of the derating record that is not shared with the trip record (R163). -/
structure DerateRecord where
  soakTimer : Timer
  openBlock : OpenBlock
  blockNumber : Nat
  latest : Option SoakBlock
  firstGood : Option Nat
  band : Option Band
  powerMaximum : Nat
  origin : Option FoldOrigin
  deriving DecidableEq, Repr

/-- What the check engine holds (R124, R146, R163). -/
structure Engine where
  phase : Phase
  check : Option Check
  startStamp : Word
  /-- MODEL: what QUIET waits for (R126) -/
  quiet : QuietStage
  restCount : Nat
  claimingSince : Word
  stepIndex : Option Nat
  /-- the stamp a dwell counts from; absent while its acknowledgement is awaited (R130) -/
  dwellStart : Option Word
  dwellCount : Nat
  /-- MODEL: the setpoint the engine wrote last is not yet acknowledged (R134) -/
  awaiting : Bool
  /-- MODEL: the loading phase that a shed event froze (R134) -/
  frozenFrom : Option Phase
  mark : Option Nat
  restarts : Nat
  tripped : Bool
  verdict : Option Determined
  /-- the first cause of an abort, or the cause recorded with NOT_RUN -/
  cause : Option Cause
  /-- MODEL: the check ends without a result, by BAY_RESET or silencing (R140, R141) -/
  noResult : Bool
  /-- MODEL: a second cause that opens the contactor has been taken (R139, R141) -/
  mustOpen : Bool
  /-- MODEL: a cause the engine took ahead of the guard unit's order for it (R138, R141) -/
  selfCause : Option Cause
  claimAmount : Nat
  /-- station time units (R97) -/
  headroomWait : Nat
  peakCurrent : Nat
  clipped : Bool
  carried : Bool
  furtherFault : Bool
  carry : Bool
  startWait : Timer
  rest : Timer
  shedHold : Timer
  offTime : Timer
  recoverWait : Timer
  /-- N of the ramp plan (R147) -/
  stepCount : Option Nat
  /-- sets of the collapse or fold run in progress -/
  runCount : Nat
  finalHold : Bool
  trip : TripRecord
  derate : DerateRecord
  deriving DecidableEq, Repr

/-! ### Instrument port (06) -/

/-- A sample set as brought into range (R108, R109). -/
structure SampleSet where
  voltage : Nat
  current : Nat
  temperature : Int
  feeder : Nat
  powerGood : Bool
  alert : Bool
  clipped : Bool
  deriving DecidableEq, Repr

/-- The last sample set with its arrival stamp (R108). -/
structure StampedSet where
  set : SampleSet
  stamp : Word
  deriving DecidableEq, Repr

/-- A setpoint of the path and whether it is a drop (spec/06, The Setpoint Path). -/
structure Setpoint where
  value : Nat
  drop : Bool
  deriving DecidableEq, Repr

/-- The setpoint ON_PORT, at its limited value, and whether it stands unanswered (R116, R119). -/
structure OnPort where
  setpoint : Setpoint
  unanswered : Bool
  deriving DecidableEq, Repr

/-- What the one transaction path carries (R112). -/
inductive PathUse where
  | free | reading | writing
  deriving DecidableEq, Repr

/-- The engine's standing request for the contactor (R120). -/
inductive Standing where
  | opened | closed
  deriving DecidableEq, Repr

/-- What the instrument port holds (R108 to R123). -/
structure Port where
  last : Option StampedSet
  watchdog : Timer
  samplesPresent : Bool
  path : PathUse
  /-- MODEL: the converter holds a ready set until the path is free (R112) -/
  readWaiting : Bool
  /-- PENDING -/
  pending : Option Setpoint
  onPort : Option OnPort
  ackTimer : Timer
  applied : Nat
  ceiling : Nat
  standing : Standing
  hold : Bool
  confirmedOpen : Bool
  /-- the level of the emergency-stop input -/
  estop : Bool
  deriving DecidableEq, Repr

/-! ### Guard unit (10) -/

/-- The three guard limits (R179). -/
structure Limits where
  current : Nat
  voltage : Nat
  temperature : Int
  deriving DecidableEq, Repr

/-- The request of a BAY_RESET in progress (R185). -/
structure ResetRequest where
  source : Address
  target : Address
  deriving DecidableEq, Repr

/-- What the guard unit holds (spec/10); the contactor hold stands in `Port`, and the configured limits in
`ConfigRecord`. -/
structure GuardUnit where
  effective : Option Limits
  runVoltage : Nat
  runCurrent : Nat
  runTemperature : Nat
  latch : Option Cause
  further : Nat
  resetting : Option ResetRequest
  deriving DecidableEq, Repr

/-- The state of the SC28 and the queue of commands that wait for it. -/
structure State where
  /-- the commands that wait, first in, first out -/
  pending : List Instr
  /-- station time (R1) -/
  time : Word
  startup : StartUp
  line : Line
  headroom : Headroom
  slotTable : SlotTable
  engine : Engine
  port : Port
  guardUnit : GuardUnit
  deriving DecidableEq, Repr

/-! ### Power reset values -/

/-- The start-up controller at power reset (R3). -/
def StartUp.reset : StartUp :=
  { station := .loading, fault := none, address := none, config := none, clampCount := 0, configRead := none,
    loopTimer := none, joinTimer := none }

/-- The line unit at power reset (R34). -/
def Line.reset : Line :=
  { judgement := .apart, driving := [], queue := [], waiting := none, nextEntry := 0, silo := [], order := 0,
    collisions := 0, collided := none, receiveErrors := 0, overruns := 0, foreign := 0, replyDrops := 0 }

/-- The headroom unit at power reset (R36, R40, R42, R43, R57). -/
def Headroom.reset : Headroom :=
  { peers := [], aged := 0, suspect := false, reListen := none, claim := .barred, held := 0, need := none,
    priority := 0, current := none, own := none, askCompleted := none, denial := false, note := none, lateShed := none, yields := 0,
    target := none, contestTimer := none, backoffTimer := none, refreshTimer := none, staleTimer := none,
    sagRun := 0, sagEpisode := false }

/-- The slot table at power reset (R61, R62, R74). -/
def SlotTable.reset : SlotTable :=
  { slots := Vector.replicate 8 Slot.vacant, arrival := 0, queue := [] }

/-- A trip record as created at the hand-over (R146). -/
def TripRecord.reset : TripRecord :=
  { lastCurrent := 0, origin := none, stepInstant := none, timeOut := none }

/-- An empty open block (R163). -/
def OpenBlock.empty : OpenBlock := { count := 0, sum := 0, least := none, greatest := none }

/-- A derating record as created at the hand-over (R163). -/
def DerateRecord.reset : DerateRecord :=
  { soakTimer := none, openBlock := OpenBlock.empty, blockNumber := 0, latest := none, firstGood := none,
    band := none, powerMaximum := 0, origin := none }

/-- The check engine at power reset, and after every check (R124). -/
def Engine.reset : Engine :=
  { phase := .idle, check := none, startStamp := 0, quiet := .drop, restCount := 0, claimingSince := 0,
    stepIndex := none, dwellStart := none, dwellCount := 0, awaiting := false, frozenFrom := none, mark := none,
    restarts := 0, tripped := false, verdict := none, cause := none, noResult := false, mustOpen := false,
    selfCause := none, claimAmount := 0, headroomWait := 0, peakCurrent := 0, clipped := false, carried := false,
    furtherFault := false, carry := false, startWait := none, rest := none, shedHold := none, offTime := none,
    recoverWait := none, stepCount := none, runCount := 0, finalHold := false, trip := TripRecord.reset,
    derate := DerateRecord.reset }

/-- The instrument port at power reset (R108, R111, R113, R120, R121), with the level of the emergency-stop input,
which is the input's own (R122). -/
def Port.reset (estop : Bool) : Port :=
  { last := none, watchdog := none, samplesPresent := true, path := .free, readWaiting := false, pending := none,
    onPort := none, ackTimer := none, applied := 0, ceiling := 0, standing := .opened, hold := false,
    confirmedOpen := false, estop := estop }

/-- The guard unit at power reset (R179, R181, R183). -/
def GuardUnit.reset : GuardUnit :=
  { effective := none, runVoltage := 0, runCurrent := 0, runTemperature := 0, latch := none, further := 0,
    resetting := none }

/-- Every block at its power reset values (R1, R3), with a given queue and level of the emergency-stop input. -/
def State.atPowerReset (pending : List Instr) (estop : Bool) : State :=
  { pending := pending, time := 0, startup := StartUp.reset, line := Line.reset, headroom := Headroom.reset,
    slotTable := SlotTable.reset, engine := Engine.reset, port := Port.reset estop, guardUnit := GuardUnit.reset }

/-- The machine right after power reset, before the straps are read (R3: "station address not yet taken"): no command
waits, and the emergency-stop input is clear (log 3, log 4, log 5). -/
def State.reset : State := State.atPowerReset [] false

/-! ### Setters, one for each block -/

def State.setTime (s : State) (t : Word) : State := { s with time := t }
def State.setStartup (s : State) (b : StartUp) : State := { s with startup := b }
def State.setLine (s : State) (b : Line) : State := { s with line := b }
def State.setHeadroom (s : State) (b : Headroom) : State := { s with headroom := b }
def State.setSlotTable (s : State) (b : SlotTable) : State := { s with slotTable := b }
def State.setEngine (s : State) (b : Engine) : State := { s with engine := b }
def State.setPort (s : State) (b : Port) : State := { s with port := b }
def State.setGuardUnit (s : State) (b : GuardUnit) : State := { s with guardUnit := b }

end Sys2Proof.Machine
end

