-- ==== Sys2Proof/Machine/Flags.lean ====
section
/-!
DEFINITION. Tests and small arithmetic that every block uses: modulo comparison and timers (R2), saturating counts,
what a station state permits (R11), the contactor command (R120), the need of a setpoint (R54), and the configuration
figures in force (R8).
-/

namespace Sys2Proof.Machine

/-! ### Station time (R1, R2) -/

/-- Stamp or order number `a` is earlier than `b` (R2). -/
def earlier (a b : Word) : Bool := b - a != 0 && decide ((b - a).toNat < 2 ^ 31)

/-- Arrival number `a` is earlier than `b` (R62). -/
def arrivalEarlier (a b : Half) : Bool := b - a != 0 && decide ((b - a).toNat < 2 ^ 15)

/-- Station time has reached the instant (R2). -/
def reached (now instant : Word) : Bool := decide ((now - instant).toNat < 2 ^ 31)

/-- The timer is running and station time has reached its instant; a stopped timer never expires (R2). -/
def due (now : Word) (t : Timer) : Bool :=
  match t with
  | none => false
  | some instant => reached now instant

/-- A limit set as a timer has been passed: station time is later than its instant (R2, R5, R9, log 34). -/
def overdue (now : Word) (t : Timer) : Bool :=
  match t with
  | none => false
  | some instant => earlier instant now

/-- The instant `units` after a stamp, modulo 2^32 (R2). -/
def later (stamp : Word) (units : Nat) : Word := stamp + BitVec.ofNat 32 units

/-- The time elapsed since a stamp, modulo 2^32 (R2). -/
def elapsed (now stamp : Word) : Nat := (now - stamp).toNat

/-! ### Counts -/

/-- An 8-bit counter raised by `n`, stopping at 255 (R33). -/
def countUp (c n : Nat) : Nat := min (c + n) Config.counterTop

/-- A duration in station time units as a result reports it: 10 ms, saturating (R97, R161). -/
def tenMs (units : Nat) : Nat := min (units / 100) Config.durationTop

/-- Division rounded up, for a positive divisor. -/
def ceilDiv (a b : Nat) : Nat := (a + b - 1) / b

/-! ### Station state (R11, R34) -/

/-- The line unit is connected to the line (R34). -/
def StationState.connected : StationState → Bool
  | .joining | .onLine | .degraded => true
  | .loading | .selfLoop | .offLine => false

/-- The headroom unit takes CLAIM and SHED frames and the line unit's reports (R10, R12, R41). -/
def StationState.builds : StationState → Bool
  | .joining | .onLine => true
  | .loading | .selfLoop | .degraded | .offLine => false

/-- The port writes setpoints (R112, R123). -/
def StationState.writes : StationState → Bool
  | .joining | .onLine | .offLine => true
  | .loading | .selfLoop | .degraded => false

/-- The station state. -/
def State.station (s : State) : StationState := s.startup.station

/-- The part's own address; 0 before it is taken. -/
def State.address (s : State) : Address := s.startup.address.getD 0

/-! ### Configuration in force (R8) -/

/-- What the fields read as while the record is absent: zero, and the owner range 48..62 (R8). -/
def ConfigRecord.absent : ConfigRecord :=
  { capacity := 0, reserve := 0, efficiency := 0, nominalVoltage := 0, contestWindow := 0, refreshPeriod := 0,
    backoffBase := 0, startOrder := .priorityThenArrival, ownerLow := Config.ownerLowDefault,
    ownerHigh := Config.ownerHighDefault, guardCurrent := 0, guardVoltage := 0, guardTemperature := 0,
    sagThreshold := 0, sagClear := 0, sagCount := 0, shedHold := 0, startWait := 0, ackTimeout := 0 }

/-- The configuration figures in force (R8). -/
def State.config (s : State) : ConfigRecord := s.startup.config.getD ConfigRecord.absent

/-- The source lies in the owner range (R63). -/
def State.ownsRequests (s : State) (source : Address) : Bool :=
  decide (s.config.ownerLow ≤ source.toNat) && decide (source.toNat ≤ s.config.ownerHigh)

/-- The configured guard limits (R179). -/
def ConfigRecord.limits (c : ConfigRecord) : Limits :=
  { current := c.guardCurrent, voltage := c.guardVoltage, temperature := c.guardTemperature }

/-- The need of a setpoint of `i` dA, in FU: ceil(i × V_nom / (eff × 1000)) (R54). -/
def ConfigRecord.needOf (c : ConfigRecord) (i : Nat) : Nat :=
  ceilDiv (i * c.nominalVoltage) (c.efficiency * 1000)

/-- Feeder headroom, F − R (spec/03). -/
def ConfigRecord.headroom (c : ConfigRecord) : Nat := c.capacity - c.reserve

/-! ### Contactor, path and checks -/

/-- The contactor is commanded closed (R120). -/
def Port.commandedClosed (p : Port) : Bool := p.standing == .closed && !p.hold

/-- The setpoint path holds nothing (R113). -/
def Port.pathEmpty (p : Port) : Bool := p.pending.isNone && p.onPort.isNone

/-- The kind of a parameter set. -/
def Params.kind : Params → CheckKind
  | .tripRamp _ => .tripRamp
  | .tripTime _ => .tripTime
  | .derate _ => .derate

/-- A trip check, which alone keeps its need standing at its end (R137). -/
def Params.isTrip : Params → Bool
  | .tripRamp _ | .tripTime _ => true
  | .derate _ => false

/-- A check's ceiling: Ic, or Io for TRIP_TIME (R101, R125). -/
def Params.ceiling : Params → Nat
  | .tripRamp p => p.ramp.ceiling
  | .tripTime p => p.overload
  | .derate p => p.ramp.ceiling

/-- The mark: Is, or Ip for TRIP_TIME (R131). -/
def Params.mark : Params → Nat
  | .tripRamp p => p.ramp.start
  | .tripTime p => p.preload
  | .derate p => p.ramp.start

/-- Causes that latch (R183). -/
def Cause.latching : Cause → Bool
  | .estop | .guardV | .guardI | .guardT | .loadStageSilent | .loadStageMismatch | .samplesLost
  | .recoverFailed => true
  | .none | .cancelled | .notAtRest | .soakTimeout | .holdStale | .shedLimit | .stationSilenced => false

/-- Causes for which the abort requests the contactor open (R139). -/
def Cause.opens : Cause → Bool
  | .estop | .guardV | .guardI | .loadStageSilent | .loadStageMismatch | .samplesLost | .recoverFailed => true
  | .none | .cancelled | .notAtRest | .soakTimeout | .holdStale | .shedLimit | .guardT | .stationSilenced => false

/-! ### Ramp, curve and band arithmetic (R147, R169, R170, R171) -/

/-- N = ceil((Ic − Is) / ΔI) (R147). -/
def Ramp.steps (r : Ramp) : Nat := ceilDiv (r.ceiling - r.start) r.rise

/-- The setpoint of step k: min(Is + k × ΔI, Ic) (R147). -/
def Ramp.setpoint (r : Ramp) (k : Nat) : Nat := min (r.start + k * r.rise) r.ceiling

/-- The expected power of a curve at a temperature (R169). Between two points the fraction is rounded by floor; beyond
its ends the curve is flat. -/
def curveAt : List Point → Int → Int
  | [], _ => 0
  | [p], _ => p.power
  | p :: q :: rest, t =>
    if t ≤ p.temperature then p.power
    else if t < q.temperature then
      p.power + Int.fdiv (((q.power : Int) - p.power) * (t - p.temperature)) (q.temperature - p.temperature)
    else curveAt (q :: rest) t

/-- The band about an expected power (R170). -/
def bandAt (p : DerateParams) (t : Int) : Band :=
  let e := (curveAt p.curve t).toNat
  { tUsed := t, expected := e, lower := e - e * p.tolLow / 1000,
    upper := min (e + e * p.tolHigh / 1000) 65535 }

/-- The power of a sample set, W (R171). -/
def SampleSet.power (x : SampleSet) : Nat := x.voltage * x.current / 10000

/-- Where a value lies in a window, both ends included (R151, R155, R174). -/
def judge (low high x : Nat) : Verdict :=
  if x < low then .failLow else if x ≤ high then .pass else .failHigh

end Sys2Proof.Machine
end

