-- ==== Sys2Proof/Machine/Operands.lean ====
section
/-!
DEFINITION. The layouts of spec/05: fields and bytes, the check sequence (R15), the frame on the line with its stuff
bits (R87, R88), what a receiver reads from bits heard (R14, R29), the configuration record (R100) with its clamping
(R7), the part data of checks (R101, R102) with their tests and clamps (R103, R104), and the codes of R105 to R107.
-/

namespace Sys2Proof.Machine

/-! ### Fields -/

/-- The `n` low bits of a value, most significant bit first; a 1 is recessive and held as `true`. -/
def fieldBits : Nat → Nat → List Bool
  | 0, _ => []
  | n + 1, v => v.testBit n :: fieldBits n v

/-- The number that bits spell, most significant bit first. -/
def bitsValue (bits : List Bool) : Nat := bits.foldl (fun v b => 2 * v + b.toNat) 0

/-- Byte `i` of a payload or record; 0 beyond its end. -/
def byteAt (bytes : List Byte) (i : Nat) : Nat := (bytes.getD i 0).toNat

/-- A little-endian 16-bit field at an offset. -/
def field16 (bytes : List Byte) (i : Nat) : Nat := byteAt bytes i + 256 * byteAt bytes (i + 1)

/-- A signed little-endian 16-bit field at an offset, in two's complement. -/
def signed16 (bytes : List Byte) (i : Nat) : Int := (BitVec.ofNat 16 (field16 bytes i)).toInt

/-- A value as one byte. -/
def byte (v : Nat) : Byte := BitVec.ofNat 8 v

/-- A value as two bytes, least significant first. -/
def bytes16 (v : Nat) : List Byte := [byte v, byte (v / 256)]

/-- A signed value as two bytes, least significant first. -/
def bytesSigned16 (v : Int) : List Byte := bytes16 (BitVec.ofInt 16 v).toNat

/-- A 32-bit value as four bytes, least significant first. -/
def bytes32 (v : Word) : List Byte :=
  [byte v.toNat, byte (v.toNat / 2 ^ 8), byte (v.toNat / 2 ^ 16), byte (v.toNat / 2 ^ 24)]

/-! ### Check sequence (R6, R15) -/

/-- One bit through the generator x^16 + x^12 + x^5 + 1. -/
def checkStep (c : Half) (b : Bool) : Half :=
  if c.msb != b then (c <<< 1) ^^^ 0x1021#16 else c <<< 1

/-- The check sequence of bits: from all ones, not inverted. -/
def checkSequence (bits : List Bool) : Half := bits.foldl checkStep 0xFFFF#16

/-- The bits of bytes in ascending offset, each most significant bit first. -/
def bytesBits (bytes : List Byte) : List Bool := bytes.flatMap (fun b => fieldBits 8 b.toNat)

/-! ### The frame on the line (R14, R87, R88) -/

/-- The header read as one number: class × 256 + urgency × 64 + source (R14). -/
def Frame.header (f : Frame) : Nat := f.cls.toNat * 256 + f.urgency.toNat * 64 + f.source.toNat

/-- The contents from class to the last payload bit, in the order sent (R87, orders 2 to 8). -/
def Frame.contents (f : Frame) : List Bool :=
  fieldBits 3 f.cls.toNat ++ (fieldBits 2 f.urgency.toNat ++ (fieldBits 6 f.source.toNat
    ++ (fieldBits 6 f.target.toNat ++ (fieldBits 5 f.kind.toNat ++ (fieldBits 4 f.payload.length
    ++ bytesBits f.payload)))))

/-- Start bit, contents and check sequence, before stuffing (R87). -/
def Frame.unstuffed (f : Frame) : List Bool :=
  false :: (f.contents ++ fieldBits 16 (checkSequence f.contents).toNat)

/-- Stuff bits after every run of eight equal bits, but none after the last bit (R88). `last` and `run` are the value
and the length of the run sent so far. -/
def stuff : Bool → Nat → List Bool → List Bool
  | _, _, [] => []
  | last, run, b :: rest =>
    let n := if b == last then run + 1 else 1
    if n == Config.stuffRun && !rest.isEmpty then b :: (!b) :: stuff (!b) 1 rest else b :: stuff b n rest

/-- The bits a frame puts on the line, from start bit to last check bit. -/
def Frame.coded (f : Frame) : List Bool := stuff true 0 f.unstuffed

/-- Contents read after the stuff bits are removed, or the bit that broke the frame (R88). -/
inductive Unstuffed where
  | read (bits : List Bool)
  | ninthDominant
  | ninthRecessive
  deriving DecidableEq, Repr

/-- A bit put before what is read after it. -/
def Unstuffed.cons (b : Bool) : Unstuffed → Unstuffed
  | .read bits => .read (b :: bits)
  | .ninthDominant => .ninthDominant
  | .ninthRecessive => .ninthRecessive

/-- Stuff bits removed by a receiver (R88): a ninth equal bit in a stuff bit's place breaks the frame. -/
def unstuff : Bool → Nat → List Bool → Unstuffed
  | _, _, [] => .read []
  | _, _, [b] => .read [b]
  | last, run, b :: c :: rest =>
    let n := if b == last then run + 1 else 1
    if n == Config.stuffRun then
      if c == b then (if b then .ninthRecessive else .ninthDominant) else (unstuff c 1 rest).cons b
    else (unstuff b n (c :: rest)).cons b

/-- The payload bytes that bits spell, eight bits to a byte. -/
def bitsBytes : Nat → List Bool → List Byte
  | 0, _ => []
  | n + 1, bits => BitVec.ofNat 8 (bitsValue (bits.take 8)) :: bitsBytes n (bits.drop 8)

/-- The kinds defined for classes 0..3 (R89); classes 4..7 define none. -/
def kindDefined (cls : BitVec 3) (kind : BitVec 5) : Bool :=
  match cls.toNat with
  | 0 => kind.toNat == 0
  | 1 => decide (kind.toNat ≤ 2)
  | 2 => decide (kind.toNat ≤ 8)
  | 3 => decide (kind.toNat ≤ 9)
  | _ => false

/-- A frame of class 4..7, whose kind and source are not examined (R14). -/
def Frame.foreign (f : Frame) : Bool := decide (4 ≤ f.cls.toNat)

/-- Source and kind are ones R14 admits; the check sequence and the length are examined when the bits are read. -/
def Frame.admitted (f : Frame) : Bool :=
  f.foreign || (f.source != 63 && kindDefined f.cls f.kind)

/-- The frame is one that R14 calls valid, its check sequence apart. -/
def Frame.valid (f : Frame) : Bool := decide (f.payload.length ≤ Config.maxPayload) && f.admitted

/-- What a receiver makes of the bits heard from a start bit on. -/
inductive Reading where
  /-- a valid frame, complete at its last check bit (R14) -/
  | valid (f : Frame)
  /-- received-in-error: check sequence, length, kind, source or a ninth recessive bit (R29, R88) -/
  | inError
  /-- broken off before its last check bit (R17, R29) -/
  | incomplete
  /-- the beginning of an abort run (R21, R88) -/
  | abortRun
  /-- more bits than one frame, or no start bit: nothing a receiver takes as one frame -/
  | notOneFrame
  deriving DecidableEq, Repr

/-- A value of `w` bits read at offset `i` of the contents. -/
def contentField (bits : List Bool) (i w : Nat) : Nat := bitsValue ((bits.drop i).take w)

/-- The frame whose contents, from class on, are given, with a payload of `len` bytes. -/
def frameOfContents (len : Nat) (bits : List Bool) : Frame :=
  { cls := BitVec.ofNat 3 (contentField bits 0 3), urgency := BitVec.ofNat 2 (contentField bits 3 2),
    source := BitVec.ofNat 6 (contentField bits 5 6), target := BitVec.ofNat 6 (contentField bits 11 6),
    kind := BitVec.ofNat 5 (contentField bits 17 5), payload := bitsBytes len (bits.drop 26) }

/-- What the unstuffed bits after the start bit spell (R14, R29, R87). -/
def readContents (bits : List Bool) : Reading :=
  if bits.length < 26 then .incomplete
  else
    let len := contentField bits 22 4
    let size := 26 + 8 * len
    if Config.maxPayload < len then .inError
    else if bits.length < size + 16 then .incomplete
    else if size + 16 < bits.length then .notOneFrame
    else
      let f := frameOfContents len (bits.take size)
      if checkSequence (bits.take size) == BitVec.ofNat 16 (contentField bits size 16) && f.admitted then .valid f
      else .inError

/-- What a receiver makes of bits heard (R14, R21, R29, R88). -/
def readBits (bits : List Bool) : Reading :=
  match unstuff true 0 bits with
  | .ninthDominant => .abortRun
  | .ninthRecessive => .inError
  | .read [] => .notOneFrame
  | .read (true :: _) => .notOneFrame
  | .read (false :: contents) => readContents contents

/-- The test frame of the self-loop (R9). -/
def testFrame (own : Address) : Frame :=
  { cls := 3, urgency := 3, source := own, target := own, kind := 0,
    payload := [85, 170, 85, 170, 15, 240, 0, 255] }

/-! ### Codes (R94, R99, R105, R106, R107) -/

def Cause.code : Cause → Nat
  | .none => 0 | .cancelled => 1 | .notAtRest => 2 | .soakTimeout => 3 | .holdStale => 4 | .shedLimit => 5
  | .estop => 6 | .guardV => 7 | .guardI => 8 | .guardT => 9 | .loadStageSilent => 10 | .loadStageMismatch => 11
  | .samplesLost => 12 | .recoverFailed => 13 | .stationSilenced => 14

def Verdict.code : Verdict → Nat
  | .pass => 0 | .failLow => 1 | .failHigh => 2 | .noTrip => 3 | .noFold => 4 | .trippedInDerate => 5
  | .notRun => 6 | .aborted => 7

def Reason.code : Reason → Nat
  | .notOwner => 1 | .notReady => 2 | .slotBusy => 3 | .slotLocked => 4 | .badKind => 5 | .badParam => 6
  | .assemblyBroken => 7 | .claimTooLarge => 8 | .claimExceedsFeeder => 9 | .nothingToDo => 10
  | .faultPersists => 11 | .noFault => 12 | .resetting => 13

def Phase.code : Phase → Nat
  | .idle => 0 | .quiet => 1 | .soak => 2 | .claiming => 3 | .preload => 4 | .ramp => 5 | .step => 6
  | .frozen => 7 | .settle => 8 | .recover => 9 | .release => 10 | .aborting => 11

def StationState.code : StationState → Nat
  | .loading => 0 | .selfLoop => 1 | .joining => 2 | .onLine => 3 | .degraded => 4 | .offLine => 5

/-- The code of the station fault; 0 when it is absent (R99). -/
def StationFault.code : Option StationFault → Nat
  | none => 0
  | some .strapInvalid => 1 | some .configUnreadable => 2 | some .configBad => 3 | some .loopFailed => 4
  | some .dupAddress => 5

def ClaimState.code : ClaimState → Nat
  | .idle => 0 | .askQueued => 1 | .contest => 2 | .holding => 3 | .backoff => 4 | .barred => 5

def ClaimKind.code : ClaimKind → Nat
  | .ask => 0 | .hold => 1 | .drop => 2

def StartOrder.code : StartOrder → Nat
  | .priorityThenArrival => 0 | .slotNumber => 1

/-- The check kind codes of R91. -/
def CheckKind.code : CheckKind → Nat
  | .tripRamp => 1 | .tripTime => 2 | .derate => 3

/-- The check kind an OPEN names (R91). -/
def CheckKind.ofCode : Nat → Option CheckKind
  | 1 => some .tripRamp | 2 => some .tripTime | 3 => some .derate | _ => none

/-! ### The configuration record (R6, R7, R100) -/

/-- The check sequence over bytes 0..37 agrees with bytes 38 and 39 (R6). -/
def recordAgrees (bytes : List Byte) : Bool :=
  (checkSequence (bytesBits (bytes.take 38))).toNat == field16 bytes 38

/-- A value brought into a range, with the count raised when it changed (R7). -/
def clampNat (low high v count : Nat) : Nat × Nat :=
  if v < low then (low, countUp count 1) else if high < v then (high, countUp count 1) else (v, count)

/-- A signed value brought into a range, with the count raised when it changed (R7). -/
def clampInt (low high v : Int) (count : Nat) : Int × Nat :=
  if v < low then (low, countUp count 1) else if high < v then (high, countUp count 1) else (v, count)

/-- The owner pair adjustment of R7. -/
def ownerPair (low high count : Nat) : (Nat × Nat) × Nat :=
  if high < low then ((Config.ownerLowDefault, Config.ownerHighDefault), countUp count 1) else ((low, high), count)

/-- The sag pair adjustment of R7. -/
def sagPair (threshold clear count : Nat) : (Nat × Nat) × Nat :=
  if clear ≤ threshold then
    if threshold + 50 ≤ Config.feederTop then ((threshold, threshold + 50), countUp count 1)
    else ((Config.feederTop - 50, Config.feederTop), countUp count 1)
  else ((threshold, clear), count)

/-- The fields of an accepted record, clamped in the order of R7's table, with the clamp count. -/
def clampRecord (b : List Byte) : ConfigRecord × Nat :=
  let (capacity, n) := clampNat 100 8000 (field16 b 0) 0
  let (reserve, n) := clampNat 0 (capacity - 100) (field16 b 2) n
  let (efficiency, n) := clampNat 800 990 (field16 b 4) n
  let (nominalVoltage, n) := clampNat 10000 60000 (field16 b 6) n
  let (contestWindow, n) := clampNat 5 200 (byteAt b 8) n
  let (refreshPeriod, n) := clampNat 1 50 (byteAt b 9) n
  let (backoffBase, n) := clampNat 10 1000 (field16 b 10) n
  let (startOrder, n) := clampNat 0 1 (byteAt b 12) n
  let (ownerLow, n) := clampNat 48 62 (byteAt b 13) n
  let (ownerHigh, n) := clampNat 48 62 (byteAt b 14) n
  let (guardCurrent, n) := clampNat 100 8000 (field16 b 16) n
  let (guardVoltage, n) := clampNat 10000 65000 (field16 b 18) n
  let (guardTemperature, n) := clampInt 0 1200 (signed16 b 20) n
  let (sagThreshold, n) := clampNat 0 Config.feederTop (field16 b 22) n
  let (sagClear, n) := clampNat 0 Config.feederTop (field16 b 24) n
  let (sagCount, n) := clampNat 1 64 (byteAt b 15) n
  let (shedHold, n) := clampNat 100 5000 (field16 b 26) n
  let (startWait, n) := clampNat 1 30 (byteAt b 28) n
  let (ackTimeout, n) := clampNat 1 50 (byteAt b 29) n
  let ((ownerLow, ownerHigh), n) := ownerPair ownerLow ownerHigh n
  let ((sagThreshold, sagClear), n) := sagPair sagThreshold sagClear n
  ({ capacity, reserve, efficiency, nominalVoltage, contestWindow, refreshPeriod, backoffBase,
     startOrder := if startOrder == 0 then .priorityThenArrival else .slotNumber,
     ownerLow, ownerHigh, guardCurrent, guardVoltage, guardTemperature, sagThreshold, sagClear, sagCount,
     shedHold, startWait, ackTimeout }, n)

/-! ### Parameter sets (R101, R102) -/

/-- Part `i` of a slot's part data. -/
def partAt (parts : List (List Byte)) (i : Nat) : List Byte := parts.getD i []

/-- Part 2 of both trip kinds (R101). -/
def tripTail (p : List Byte) : TripTail :=
  { collapseVoltage := field16 p 0, collapseCount := byteAt p 2, offTime := byteAt p 3, recoverWait := field16 p 4 }

/-- The curve points of a DERATE check, from part 4 on (R102). -/
def curvePoints (parts : List (List Byte)) : List Point :=
  (parts.drop 4).map (fun p => { temperature := signed16 p 0, power := field16 p 2 })

/-- The part data read as the parameters of a kind (R73 step 1, R101, R102). -/
def readParams (kind : CheckKind) (parts : List (List Byte)) : Params :=
  let p0 := partAt parts 0
  let p1 := partAt parts 1
  let p2 := partAt parts 2
  let p3 := partAt parts 3
  match kind with
  | .tripRamp => .tripRamp
    { ramp := { start := field16 p0 0, rise := field16 p0 2, dwell := field16 p0 4, ceiling := field16 p1 4 },
      windowLow := field16 p1 0, windowHigh := field16 p1 2, tail := tripTail p2 }
  | .tripTime => .tripTime
    { overload := field16 p0 0, timeLow := field16 p0 2, timeHigh := field16 p0 4, preload := field16 p1 0,
      preDwell := field16 p1 2, timeOut := field16 p1 4, tail := tripTail p2 }
  | .derate => .derate
    { tLow := signed16 p0 0, tHigh := signed16 p0 2, soakMaximum := field16 p0 4,
      ramp := { start := field16 p1 0, rise := field16 p1 2, dwell := field16 p1 4, ceiling := field16 p3 0 },
      foldVoltage := field16 p2 0, foldCount := byteAt p2 2, tolLow := byteAt p2 3, tolHigh := byteAt p2 4,
      stability := byteAt p2 5, points := byteAt p3 2, blockSets := field16 p3 3, curve := curvePoints parts }

/-! ### Validation and clamps (R103, R104) -/

/-- A test of R103 that refuses: the part index where it stands. -/
def failsAt (index : Nat) (refused : Bool) : Option Nat := if refused then some index else none

/-- Part 2 of the trip kinds is refused (R103). -/
def TripTail.refused (t : TripTail) : Bool :=
  t.collapseCount == 0 || decide (16 < t.collapseCount) || t.offTime == 0 || decide (100 < t.offTime)
    || t.recoverWait == 0 || decide (600 < t.recoverWait)

/-- The first curve point that R103 refuses, by its part index. -/
def curveFails : Nat → Option Int → List Point → Option Nat
  | _, _, [] => none
  | index, before, p :: rest =>
    let falls := match before with
      | none => false
      | some t => decide (p.temperature ≤ t)
    if falls || decide (60000 < p.power) then some index else curveFails (index + 1) (some p.temperature) rest

/-- The part index of the first failing test of R103, for a slot of `count` parts. -/
def Params.failingPart (count : Nat) : Params → Option Nat
  | .tripRamp p =>
    (failsAt 0 (decide (1000 < p.ramp.dwell))).or <|
    (failsAt 1 (p.ramp.ceiling == 0 || decide (p.windowHigh < p.windowLow) || decide (p.ramp.ceiling < p.windowHigh)
      || decide (p.ramp.ceiling < p.ramp.start))).or <|
    failsAt 2 p.tail.refused
  | .tripTime p =>
    (failsAt 0 (p.overload == 0 || decide (p.timeHigh < p.timeLow) || decide (65534 < p.timeHigh))).or <|
    (failsAt 1 (decide (p.overload ≤ p.preload) || p.timeOut == 0 || decide (60000 < p.timeOut))).or <|
    failsAt 2 p.tail.refused
  | .derate p =>
    (failsAt 0 (decide (p.tHigh < p.tLow) || p.soakMaximum == 0)).or <|
    (failsAt 1 (decide (1000 < p.ramp.dwell))).or <|
    (failsAt 2 (p.foldCount == 0 || decide (16 < p.foldCount))).or <|
    (failsAt 3 (p.ramp.ceiling == 0 || decide (p.ramp.ceiling < p.ramp.start) || p.points + 4 != count
      || decide (p.blockSets < 1000) || decide (60000 < p.blockSets))).or <|
    curveFails 4 none p.curve

/-- A ramp with its ceiling brought down to the guard current and its zero step and dwell raised (R104). -/
def Ramp.clamp (guard : Nat) (r : Ramp) : Ramp :=
  let ceiling := min r.ceiling guard
  { start := min r.start ceiling, rise := max r.rise 1, dwell := max r.dwell 1, ceiling := ceiling }

/-- The clamped parameters with the ceiling-clamped and dwell-clamped flags (R104). -/
def Params.clamp (guard : Nat) : Params → Params × Bool × Bool
  | .tripRamp p =>
    let ramp := p.ramp.clamp guard
    (.tripRamp { p with ramp := ramp, windowLow := min p.windowLow ramp.ceiling,
                        windowHigh := min p.windowHigh ramp.ceiling },
      decide (guard < p.ramp.ceiling), p.ramp.rise == 0 || p.ramp.dwell == 0)
  | .tripTime p =>
    let overload := min p.overload guard
    (.tripTime { p with overload := overload, preload := min p.preload overload, preDwell := max p.preDwell 1 },
      decide (guard < p.overload), p.preDwell == 0)
  | .derate p =>
    (.derate { p with ramp := p.ramp.clamp guard }, decide (guard < p.ramp.ceiling),
      p.ramp.rise == 0 || p.ramp.dwell == 0)

end Sys2Proof.Machine

namespace Sys2Proof

/-! ### Readings (R109) -/

/-- A reported set brought into range (R109). -/
def ReportedSet.taken (r : ReportedSet) : Machine.SampleSet :=
  { voltage := r.voltage, current := min r.current Config.currentTop,
    temperature := max Config.temperatureLow (min r.temperature Config.temperatureHigh),
    feeder := min r.feeder Config.feederTop, powerGood := r.powerGood, alert := r.alert,
    clipped := decide (Config.currentTop < r.current) }

end Sys2Proof
end

