-- ==== Sys2Proof/Machine/Ops.lean ====
section
/-!
DEFINITION. Operations shared by the commands over the line unit's transmit queue (R24 to R28), the setpoint path
(R114, R115) and the contactor command (R120).
-/

namespace Sys2Proof.Machine

/-! ### Frames the part sends (R16, R90, R93) -/

/-- The part's own CLAIM of a kind, with the priority that its urgency shows (R16, R44, R90). -/
def State.claimFrame (s : State) (kind : ClaimKind) (held asked : Nat) : Frame :=
  { cls := 1, urgency := BitVec.ofNat 2 (3 - s.headroom.priority), source := s.address, target := Config.allStations,
    kind := BitVec.ofNat 5 kind.code,
    payload := bytes16 held ++ bytes16 asked ++ [byte s.config.refreshPeriod] }

/-- The part's own SHED with the feeder voltage that completed the run (R58, R90). -/
def State.shedFrame (s : State) (feeder : Nat) : Frame :=
  { cls := 0, urgency := 0, source := s.address, target := Config.allStations, kind := 0,
    payload := byte s.address.toNat :: bytes16 feeder }

/-- A REPLY frame of the part (R16). -/
def State.replyFrame (s : State) (target : Address) (kind : Nat) (payload : List Byte) : Frame :=
  { cls := 3, urgency := 3, source := s.address, target := target, kind := BitVec.ofNat 5 kind, payload := payload }

/-- A REFUSE frame (R93). -/
def State.refuseFrame (s : State) (target : Address) (kind first : Nat) (reason : Reason) (detail : Nat) : Frame :=
  s.replyFrame target 0 [byte kind, byte first, byte reason.code, byte detail]

/-! ### The transmit queue (R24 to R28) -/

def Entry.isShed (e : Entry) : Bool := e.frame.cls == 0
def Entry.isClaim (e : Entry) : Bool := e.frame.cls == 1
def Entry.isReply (e : Entry) : Bool := e.frame.cls == 3

/-- An entry's place: after every entry of lower or equal header value, before every entry of higher (R24). -/
def insertEntry (e : Entry) : List Entry → List Entry
  | [] => [e]
  | x :: rest => if e.frame.header < x.frame.header then e :: x :: rest else x :: insertEntry e rest

/-- A frame accepted into the queue (R24). -/
def Line.accept (block : Block) (l : Line) (f : Frame) : Line :=
  { l with
    queue := insertEntry
      { frame := f, block := block, entryOrder := l.nextEntry, sending := false, removing := false } l.queue
    nextEntry := l.nextEntry + 1 }

/-- The collision count's frame is among the entries that a test names. -/
def Line.counts (l : Line) (p : Entry → Bool) : Bool :=
  l.queue.any (fun e => p e && l.collided == some e.entryOrder)

/-- Entries taken out of the queue; a counted frame takes the collision count with it (R20). -/
def Line.dropEntries (p : Entry → Bool) (l : Line) : Line :=
  { l with
    queue := l.queue.filter (fun e => !p e)
    collisions := if l.counts p then 0 else l.collisions
    collided := if l.counts p then none else l.collided }

/-- A CLAIM offered by the headroom unit (R25). -/
def Line.offerClaim (f : Frame) (l : Line) : Line :=
  match l.queue.find? Entry.isClaim with
  | none => l.accept .headroom f
  | some e => if e.sending then { l with waiting := some f } else (l.dropEntries Entry.isClaim).accept .headroom f

/-- The newest CLAIM removed at the headroom unit's word, if it has not begun on the line (R46). -/
def Line.withdrawClaim (l : Line) : Line :=
  if l.waiting.isSome then { l with waiting := none } else l.dropEntries (fun e => e.isClaim && !e.sending)

/-- A SHED offered by the headroom unit; not accepted while one is held (R26). -/
def Line.offerShed (f : Frame) (l : Line) : Line :=
  if l.queue.any Entry.isShed then l else l.accept .headroom f

/-- A reply group of `n` frames fits the REPLY quota (R27). -/
def Line.admits (l : Line) (n : Nat) : Bool :=
  decide (l.queue.countP Entry.isReply + n ≤ Config.replyQuota)

/-- A reply group: accepted whole in its order, or dropped and counted (R27). -/
def Line.offerReplies (block : Block) (group : List Frame) (l : Line) : Line :=
  if l.admits group.length then group.foldl (Line.accept block) l
  else { l with replyDrops := countUp l.replyDrops group.length }

/-- The entry whose attempt is in progress (R24). -/
def Line.sendingEntry (l : Line) : Option Entry := l.queue.find? Entry.sending

/-- The queue with its head sending (R18, R24). -/
def startHead : List Entry → List Entry
  | [] => []
  | e :: rest => { e with sending := true } :: rest

/-- No entry is sending any more. -/
def stopSending (queue : List Entry) : List Entry := queue.map (fun e => { e with sending := false })

/-- The end of an attempt by lost arbitration or send collision: a CLAIM gives way to a waiting CLAIM (R25), a REPLY
that BAY_RESET marked is removed (R28), and any other frame stays in its place (R18, R19). -/
def Line.attemptFailed (e : Entry) (l : Line) : Line :=
  let same := fun x : Entry => x.entryOrder == e.entryOrder
  match e.isClaim, l.waiting with
  | true, some w => Line.accept .headroom { l.dropEntries same with waiting := none } w
  | _, _ => if e.removing then l.dropEntries same else { l with queue := stopSending l.queue }

/-- BAY_RESET's removal: queued REPLY entries leave, a sending one is marked (R28). A counted entry that leaves takes the
collision count with it, as R20 says, although R35 has BAY_RESET keep the count (log 36). -/
def Line.removeReplies (l : Line) : Line :=
  let m := l.dropEntries (fun e => e.isReply && !e.sending)
  { m with queue := m.queue.map (fun e => if e.isReply then { e with removing := true } else e) }

/-- A frame that passes R30 enters the silo, or is dropped and counted when the silo is full (R31). -/
def Line.intoSilo (h : Heard) (l : Line) : Line :=
  if l.silo.length < Config.siloPlaces then { l with silo := l.silo ++ [h] }
  else { l with overruns := countUp l.overruns 1 }

/-! ### Offers at the level of the part -/

/-- A reply group offered by a block; nothing is queued while the part is apart from the line (R13, R24). -/
def State.offerReplies (s : State) (block : Block) (group : List Frame) : State :=
  if s.station.connected then s.setLine (s.line.offerReplies block group) else s

/-- A CLAIM offered by the headroom unit, which keeps it as its current claim frame (R44). -/
def State.offerClaim (s : State) (kind : ClaimKind) (held asked : Nat) : State :=
  if s.station.connected then
    (s.setLine (s.line.offerClaim (s.claimFrame kind held asked))).setHeadroom
      { s.headroom with current := some { kind := kind, held := held, asked := asked } }
  else s

/-! ### The setpoint path (R114, R115) -/

/-- The engine writes a non-drop setpoint (R114). -/
def Port.writeSetpoint (v : Nat) (p : Port) : Port :=
  let placed := { p with pending := some { value := v, drop := false } }
  match p.pending, p.onPort with
  | some u, _ => if u.drop then p else placed
  | none, some o => if o.setpoint.drop then p else placed
  | none, none => placed

/-- A drop written by the engine or by the port itself (R115). -/
def Port.writeDrop (p : Port) : Port :=
  let placed := { p with pending := some { value := 0, drop := true } }
  match p.pending, p.onPort with
  | some u, _ => if u.drop then p else placed
  | none, some o => if o.setpoint.drop then p else placed
  | none, none => placed

/-- The engine writes a setpoint and awaits its acknowledgement; in OFF_LINE every non-drop setpoint is discarded
(R114, R130). -/
def State.writeSetpoint (s : State) (v : Nat) : State :=
  (if s.station == .offLine then s else s.setPort (s.port.writeSetpoint v)).setEngine
    { s.engine with awaiting := true }

/-- A drop written into the path (R115). -/
def State.writeDrop (s : State) : State := s.setPort s.port.writeDrop

/-! ### The contactor (R120, R181) -/

/-- The guard unit's run counts return to 0 when the contactor becomes commanded open (R181). -/
def GuardUnit.clearRuns (g : GuardUnit) : GuardUnit :=
  { g with runVoltage := 0, runCurrent := 0, runTemperature := 0 }

/-- The contactor command changes to open, as the port reports it to the guard unit. -/
def State.openContactor (s : State) (p : Port) : State :=
  (s.setPort p).setGuardUnit (if s.port.commandedClosed then s.guardUnit.clearRuns else s.guardUnit)

/-- A request to open, always accepted (R120). -/
def State.requestOpen (s : State) : State := s.openContactor { s.port with standing := .opened }

/-- A request to close is refused while the hold is set (R120). -/
def State.closeRefused (s : State) : Bool := s.port.hold

/-- An accepted request to close: the contactor is commanded closed and no longer confirmed open (R120, R121). -/
def State.closeContactor (s : State) : State :=
  s.setPort { s.port with standing := .closed, confirmedOpen := false }

/-- The guard unit sets its hold, which also sets the standing request to OPEN (R120). -/
def State.setHold (s : State) : State := s.openContactor { s.port with standing := .opened, hold := true }

/-- The guard unit releases its hold; the standing request stays OPEN (R120, R184). -/
def State.releaseHold (s : State) : State := s.setPort { s.port with hold := false }

end Sys2Proof.Machine
end

