-- ==== Sys2Proof/Machine/HeadroomOps.lean ====
section
/-!
DEFINITION. Operations of the headroom unit that other blocks reach: taking a CLAIM into the peer view (R37 to R39),
the SUSPECT flag (R41), stating and withdrawing a need (R45 to R47, R51), lowering a hold (R54 to R56), and what a
shed event does to a contest (R47, R59).
-/

namespace Sys2Proof.Machine

/-! ### The peer view (R36 to R41) -/

/-- The entry of an address removed. -/
def removePeer (a : Address) (peers : List Peer) : List Peer := peers.filter (fun p => p.address != a)

/-- An entry put in its place in a view ordered by address, in place of the entry its address had. -/
def putPeer (e : Peer) : List Peer → List Peer
  | [] => [e]
  | p :: rest =>
    if e.address.toNat < p.address.toNat then e :: p :: rest
    else if e.address == p.address then e :: rest
    else p :: putPeer e rest

/-- The entry of an address. -/
def peerAt (a : Address) (peers : List Peer) : Option Peer := peers.find? (fun p => p.address == a)

/-- A refresh period brought into range (R37). -/
def takenPeriod (p : Nat) : Nat := if p == 0 || decide (Config.refreshTop < p) then Config.refreshTop else p

/-- The entry that a CLAIM heard sets (R36, R38, R39). -/
def peerOf (h : Heard) (state : PeerState) (held period : Nat) : Peer :=
  { address := h.frame.source, state := state, held := held, order := h.order, heard := h.stamp, period := period,
    expiry := later h.stamp (Config.expiryPeriods * period * Config.unitsPer100ms) }

/-- A HOLD or DROP of a held amount, as corrected, on the view (R39). -/
def applyHold (h : Heard) (held period : Nat) (peers : List Peer) : List Peer :=
  if held == 0 then removePeer h.frame.source peers else putPeer (peerOf h .holding held period) peers

/-- An ASK, as corrected, on the view; one that asks no more than it holds is taken as a HOLD (R37, R38). -/
def applyAsk (h : Heard) (held asked period : Nat) (peers : List Peer) : List Peer :=
  if asked ≤ held then applyHold h held period peers else putPeer (peerOf h (.asking asked) held period) peers

/-- The refresh period that the re-listen interval is measured by (R41). -/
def Headroom.longestPeriod (u : Headroom) (own : Nat) : Nat :=
  if u.peers.isEmpty then own else u.peers.foldl (fun m p => max m p.period) 0

/-- The peer view becomes SUSPECT, in JOINING and ON_LINE alone (R41, R42). -/
def State.markSuspect (s : State) : State :=
  if s.station.builds then
    s.setHeadroom { s.headroom with
      suspect := true
      reListen := some (later s.time
        (3 * s.headroom.longestPeriod s.config.refreshPeriod * Config.unitsPer100ms)) }
  else s

/-- S of R48: every held amount, and what earlier asks ask above it. -/
def contestSum (own : Word) (peers : List Peer) : Nat :=
  (peers.map (fun p => p.held + match p.state with
    | .holding => 0
    | .asking a => if earlier p.order own then a - p.held else 0)).sum

/-! ### Lowering a hold (R54, R55, R56) -/

/-- The applied setpoint's need is at most the amount, or the contactor is confirmed open (R54). -/
def State.loadWithin (s : State) (amount : Nat) : Bool :=
  decide (s.config.needOf s.port.applied ≤ amount) || s.port.confirmedOpen

/-- The claim when a withdrawal's lowering is announced (R54). -/
def Headroom.lowered (u : Headroom) (amount : Nat) : Headroom :=
  if amount == 0 then
    { u with held := 0, target := none, claim := .idle, refreshTimer := none, staleTimer := none, yields := 0 }
  else { u with held := amount, target := none }

/-- The headroom unit acts on a reduction target when its condition holds: a withdrawal is announced by DROP, a
carry-over by HOLD once the applied setpoint is zero (R54, R55). -/
def State.tryLower (s : State) : State :=
  match s.headroom.claim, s.headroom.target with
  | .holding, some amount =>
    if s.headroom.need.isNone then
      if s.loadWithin amount then
        let s1 := s.offerClaim .drop amount amount
        s1.setHeadroom (s1.headroom.lowered amount)
      else s
    else if s.port.applied == 0 then
      let s1 := s.offerClaim .hold amount amount
      s1.setHeadroom { s1.headroom with held := amount, target := none }
    else s
  | _, _ => s

/-- The claim in BARRED: no hold, no need and nothing running (R43, R56). -/
def Headroom.barred (u : Headroom) : Headroom :=
  { u with claim := .barred, held := 0, need := none, target := none, refreshTimer := none, staleTimer := none }

/-- In OFF_LINE a claim still HOLDING enters BARRED when the load is off (R56). -/
def State.tryBar (s : State) : State :=
  if s.station == .offLine && s.headroom.claim == .holding && (s.port.applied == 0 || s.port.confirmedOpen) then
    s.setHeadroom s.headroom.barred
  else s

/-- The port's report of a new applied setpoint or of a contactor confirmed open (R54, R56). -/
def State.portReport (s : State) : State := if s.station == .offLine then s.tryBar else s.tryLower

/-- The hold is to come down to zero (R54). -/
def State.lowerToZero (s : State) : State :=
  (s.setHeadroom { s.headroom with claim := .holding, target := some 0 }).tryLower

/-! ### Stating and withdrawing a need (R45 to R47, R51) -/

/-- The engine withdraws its need; nothing happens where none stands (R46, R47, R51, R54, R140). An ASK withdrawn from
the waiting place stays the CLAIM last offered (R51, log 32). -/
def State.withdrawNeed (s : State) : State :=
  if s.headroom.need.isNone then s
  else
    let u := { s.headroom with need := none }
    match u.claim with
    | .askQueued =>
      let s1 := (s.setLine s.line.withdrawClaim).setHeadroom { u with
        yields := 0, claim := .idle, current := if s.line.waiting.isSome then u.current else none }
      if u.held == 0 then s1 else s1.lowerToZero
    | .contest =>
      let s1 := (s.setHeadroom { u with
        yields := 0, contestTimer := none, note := none, lateShed := none, own := none, denial := false
        askCompleted := none, claim := .idle }).offerClaim .drop 0 0
      if u.held == 0 then s1 else s1.lowerToZero
    | .backoff =>
      let s1 := s.setHeadroom { u with yields := 0, backoffTimer := none, claim := .idle }
      if u.held == 0 then s1 else s1.lowerToZero
    | .holding => (s.setHeadroom u).lowerToZero
    | .idle | .barred => s.setHeadroom u

/-- A stated need is granted at once from the hold that stands (R45). -/
def Headroom.grantsAtOnce (u : Headroom) (amount : Nat) : Bool := u.claim == .holding && decide (amount ≤ u.held)

/-- The engine states a need (R45). A need above the hold is asked for; a need within it is granted at once, which
`Headroom.grantsAtOnce` tells, and the hold is lowered to it (R55). In BARRED, and while another need is being asked
for, it is not taken. -/
def State.stateNeed (s : State) (amount priority : Nat) : State :=
  let u := { s.headroom with need := some { amount := amount, priority := priority }, priority := priority }
  match s.headroom.claim with
  | .idle => (s.setHeadroom { u with claim := .askQueued }).offerClaim .ask 0 amount
  | .holding =>
    if amount ≤ u.held then
      (s.setHeadroom { u with target := if amount < u.held then some amount else none }).tryLower
    else
      (s.setHeadroom { u with claim := .askQueued, target := none, refreshTimer := none, staleTimer := none
                              }).offerClaim .ask u.held amount
  | .barred | .askQueued | .contest | .backoff => s

/-! ### Reports from the line unit (R45, R51, R52, R53) -/

/-- The completion report of a CLAIM of the part. `newest` says that no CLAIM was offered after it. A report for an
earlier CLAIM does nothing; a completed ASK that was withdrawn while it was being sent is set right by a DROP (R45,
R51, R52, R53). -/
def State.claimCompleted (s : State) (kind : BitVec 5) (order : Word) (newest : Bool) : State :=
  let u := s.headroom
  if !newest then s
  else if u.current.isNone then
    if kind.toNat == ClaimKind.ask.code && (u.claim == .idle || u.claim == .holding) then
      s.offerClaim .drop u.held u.held
    else s
  else if kind.toNat == ClaimKind.ask.code && u.claim == .askQueued then
    s.setHeadroom { u with
      claim := .contest, own := some order, denial := false, askCompleted := some s.time
      contestTimer := some (later s.time (s.config.contestWindow * Config.unitsPerMs)) }
  else if kind.toNat == ClaimKind.hold.code && u.claim == .holding then
    s.setHeadroom { u with
      refreshTimer := some (later s.time (s.config.refreshPeriod * Config.unitsPer100ms))
      staleTimer := some (later s.time (Config.stalePeriods * s.config.refreshPeriod * Config.unitsPer100ms)) }
  else s

/-- A shed event numbered later than the own ASK, taken in CONTEST, sets the shed denial (R47, R59). -/
def Headroom.shedEvent (u : Headroom) (order : Word) : Headroom :=
  match u.claim, u.own with
  | .contest, some own => if earlier own order then { u with denial := true } else u
  | _, _ => u

/-! ### The sag detector (R57, R58) -/

/-- The sag detector takes a feeder voltage: the unit after it, and whether an episode begins (R57). -/
def Headroom.sag (u : Headroom) (c : ConfigRecord) (feeder : Nat) : Headroom × Bool :=
  if u.sagEpisode then
    if c.sagClear ≤ feeder then ({ u with sagEpisode := false, sagRun := 0 }, false) else (u, false)
  else if feeder < c.sagThreshold then
    if c.sagCount ≤ u.sagRun + 1 then ({ u with sagRun := c.sagCount, sagEpisode := true }, true)
    else ({ u with sagRun := u.sagRun + 1 }, false)
  else ({ u with sagRun := 0 }, false)

/-- The headroom unit takes a sample set: in ON_LINE the sag detector runs, and an episode offers one SHED (R57,
R58). -/
def State.headroomSet (s : State) (x : SampleSet) : State :=
  if s.station == .onLine then
    let (u, begins) := s.headroom.sag s.config x.feeder
    let s1 := s.setHeadroom u
    if begins then s1.setLine (s1.line.offerShed (s1.shedFrame x.feeder)) else s1
  else s

end Sys2Proof.Machine
end

