-- ==== Sys2Proof/Machine/SlotOps.lean ====
section
/-!
DEFINITION. Operations over the slot table: the start queue (R74), the replies that show a slot or the part (R94 to
R99), the result lock (R82, R83), vacating (R84, R85), validation (R73), and the tests every request passes first
(R63, R64).
-/

namespace Sys2Proof.Machine

/-! ### Slots and the start queue -/

/-- Slot `n` of the table. -/
def SlotTable.slot (t : SlotTable) (n : Fin 8) : Slot := t.slots[n]

/-- The table with slot `n` replaced. -/
def SlotTable.put (t : SlotTable) (n : Fin 8) (x : Slot) : SlotTable := { t with slots := t.slots.set n x }

/-- The part with slot `n` replaced. -/
def State.putSlot (s : State) (n : Fin 8) (x : Slot) : State := s.setSlotTable (s.slotTable.put n x)

/-- What every slot but a VACANT one holds. -/
def Slot.head : Slot → Option SlotHead
  | .vacant => none
  | .assembling h _ _ _ | .held h _ | .active h _ | .done h _ _ _ => some h

/-- What validation gave the slot. -/
def Slot.work : Slot → Option Work
  | .vacant | .assembling _ _ _ _ => none
  | .held _ w | .active _ w | .done _ w _ _ => some w

def Slot.isHeld : Slot → Bool
  | .held _ _ => true
  | _ => false

def Slot.isActive : Slot → Bool
  | .active _ _ => true
  | _ => false

/-- Slot state codes (R94). -/
def Slot.code : Slot → Nat
  | .vacant => 0 | .assembling _ _ _ _ => 1 | .held _ _ => 2 | .active _ _ => 3 | .done _ _ _ _ => 4

/-- Priority and arrival number by which the start queue orders a slot (R74). -/
def SlotTable.startKey (t : SlotTable) (n : Fin 8) : Nat × Half :=
  match (t.slot n).head with
  | some h => (h.priority, h.arrival)
  | none => (0, 0)

/-- Slot `a` precedes slot `b` in the configured start order (R74). -/
def SlotTable.precedes (t : SlotTable) (order : StartOrder) (a b : Fin 8) : Bool :=
  match order with
  | .slotNumber => decide (a < b)
  | .priorityThenArrival =>
    let (pa, ra) := t.startKey a
    let (pb, rb) := t.startKey b
    if pa != pb then decide (pa < pb)
    else if arrivalEarlier ra rb then true
    else if arrivalEarlier rb ra then false
    else decide (a < b)

/-- A slot entering the queue stands immediately before the first slot it precedes (R74). -/
def enqueueSlot (precedes : Fin 8 → Fin 8 → Bool) (n : Fin 8) : List (Fin 8) → List (Fin 8)
  | [] => [n]
  | m :: rest => if precedes n m then n :: m :: rest else m :: enqueueSlot precedes n rest

/-- A slot taken out of the queue; the others keep their order (R77). -/
def dequeueSlot (n : Fin 8) (queue : List (Fin 8)) : List (Fin 8) := queue.filter (fun m => m != n)

/-- A slot vacated, with its place in the start queue (R69, R71, R72, R77, R80). -/
def State.vacate (s : State) (n : Fin 8) : State :=
  s.setSlotTable { s.slotTable.put n .vacant with queue := dequeueSlot n s.slotTable.queue }

/-- BAY_RESET vacates every slot and empties the queue; the arrival counter stays (R84). -/
def SlotTable.vacateAll (t : SlotTable) : SlotTable :=
  { t with slots := Vector.replicate 8 Slot.vacant, queue := [] }

/-- Silencing vacates every slot that is not ACTIVE (R85). -/
def SlotTable.vacateIdle (t : SlotTable) : SlotTable :=
  { t with slots := t.slots.map (fun x => if x.isActive then x else .vacant), queue := [] }

/-- A slot whose lock a report releases: the completion of its group's part 3, or the removal of one of its four
RESULT frames (R83, log 19). -/
def Slot.release (hits : Nat → Bool) : Slot → Slot
  | .done h w r (some first) => if hits first then .done h w r none else .done h w r (some first)
  | x => x

/-- The locks that a report releases (R83). -/
def State.releaseLocks (s : State) (hits : Nat → Bool) : State :=
  s.setSlotTable { s.slotTable with slots := s.slotTable.slots.map (Slot.release hits) }

/-- The completion report of a REPLY entry: RESULT part 3 releases its group's lock (R83). -/
def State.replyCompleted (s : State) (e : Entry) : State := s.releaseLocks (fun first => e.entryOrder == first + 3)

/-- The removal report of a REPLY entry: any RESULT frame of a group releases its lock (R28, R83). -/
def State.replyRemoved (s : State) (e : Entry) : State :=
  s.releaseLocks (fun first => decide (first ≤ e.entryOrder) && decide (e.entryOrder ≤ first + 3))

/-! ### Replies that show a slot (R94, R95, R96) -/

/-- The progress byte of a SLOT_REPLY (R81, R94). -/
def State.progress (s : State) (n : Fin 8) : Nat :=
  match s.slotTable.slot n with
  | .vacant => 0
  | .assembling _ _ parts _ => parts.length
  | .held _ _ => s.slotTable.queue.idxOf n
  | .active _ _ => s.engine.phase.code
  | .done _ _ _ _ => 0

/-- The clamp flags of a slot as bits 4 and 5, clear when absent (R94, R96). -/
def clampBits (w : Option Work) : Nat :=
  match w with
  | none => 0
  | some w => 16 * w.ceilingClamped.toNat + 32 * w.dwellClamped.toNat

/-- The payload of a SLOT_REPLY (R94). -/
def State.slotReply (s : State) (n : Fin 8) : List Byte :=
  let x := s.slotTable.slot n
  let clamps := clampBits x.work
  match x.head with
  | none => [byte (n.val + 16 * x.code), 0, byte clamps, 0, 0, byte (s.progress n)]
  | some h =>
    [byte (n.val + 16 * x.code), byte h.owner.toNat, byte (h.kind.code + 4 * h.priority + clamps)]
      ++ bytes16 h.arrival.toNat ++ [byte (s.progress n)]

/-- A SLOT_REPLY showing a slot, offered to a station (R81). -/
def State.replySlot (s : State) (target : Address) (n : Fin 8) : State :=
  s.offerReplies .slotTable [s.replyFrame target 1 (s.slotReply n)]

/-- The result block (R96). -/
def resultBlock (h : SlotHead) (w : Work) (r : ResultRecord) : List Byte :=
  [byte (r.verdict.code + 8 * r.cause.code),
   byte (r.restarts + 4 * r.clipped.toNat + 8 * r.carried.toNat + 16 * r.furtherFault.toNat)]
    ++ bytes16 r.measured ++ bytes16 r.expected ++ bytes16 r.bandLower ++ bytes16 r.bandUpper
    ++ bytesSigned16 r.tUsed ++ bytes16 r.claimAmount ++ bytes16 r.headroomWait ++ bytes16 r.runDuration
    ++ bytes32 r.endStamp ++ bytes16 r.peakCurrent
    ++ [byte h.owner.toNat, byte (h.kind.code + clampBits (some w))] ++ bytes16 h.arrival.toNat

/-- RESULT part `p` of a slot (R96). -/
def State.resultFrame (s : State) (target : Address) (n : Fin 8) (block : List Byte) (p : Nat) : Frame :=
  s.replyFrame target (4 + p) (byte (n.val + 16 * p) :: (block.drop (7 * p)).take 7)

/-- The four RESULT frames of a slot (R82, R96). -/
def State.resultGroup (s : State) (target : Address) (n : Fin 8) (h : SlotHead) (w : Work) (r : ResultRecord) :
    List Frame :=
  [0, 1, 2, 3].map (s.resultFrame target n (resultBlock h w r))

/-- A DONE_NOTE for the slot's owner (R76, R95). -/
def State.doneNote (s : State) (n : Fin 8) (h : SlotHead) (r : ResultRecord) : Frame :=
  s.replyFrame h.owner 3 ([byte n.val, byte r.verdict.code] ++ bytes16 h.arrival.toNat)

/-! ### STATUS_REPLY (R65, R99) -/

/-- STATUS_REPLY part 0 (R99). -/
def State.statusPart0 (s : State) : List Byte :=
  let latch : Nat := (s.guardUnit.latch.map Cause.code).getD 0
  [byte (s.station.code + 8 * StationFault.code s.startup.fault + 64 * s.config.startOrder.code
      + 128 * s.startup.config.isSome.toNat),
   byte s.startup.clampCount]
    ++ bytes32 s.time
    ++ [byte (latch + 16 * s.headroom.sagEpisode.toNat + 32 * s.headroom.suspect.toNat), byte s.guardUnit.further]

/-- STATUS_REPLY part 1 (R99). -/
def State.statusPart1 (s : State) : List Byte :=
  [byte s.line.receiveErrors, byte s.line.overruns, byte s.line.foreign, byte s.line.replyDrops, byte s.headroom.aged,
   byte s.headroom.peers.length]
    ++ bytes16 (s.headroom.held + 512 * s.headroom.claim.code + 4096 * s.engine.phase.code)

/-- A STATUS_REPLY group reporting the part as it stands (R65). -/
def State.statusGroup (s : State) (target : Address) : List Frame :=
  [s.replyFrame target 8 s.statusPart0, s.replyFrame target 9 s.statusPart1]

/-- A STATUS_REPLY group offered by a block. -/
def State.replyStatus (s : State) (block : Block) (target : Address) : State :=
  s.offerReplies block (s.statusGroup target)

/-! ### Taking requests (R63, R64, R180) -/

/-- The detail that names the request itself (R93). -/
def detailRequest : Nat := 255
/-- The detail that marks an assembly ended by its deadline (R93). -/
def detailTimeout : Nat := 254

/-- The payload length of each REQUEST kind (R89). -/
def requestLength : Nat → Nat
  | 0 => 4
  | 1 => 8
  | 2 | 3 | 4 => 1
  | 6 => 3
  | _ => 0

/-- A request that would be refused: answered by a REFUSE when addressed to the part, discarded at target 63 (R63,
R64, R180). Its byte 1 is the first payload byte if the request had one, as R93 says, also for a STATUS, CLEAR_FAULT or
BAY_RESET sent with a payload, where R63 and R180 say zero (log 29). -/
def State.refuse (s : State) (block : Block) (f : Frame) (reason : Reason) (detail : Nat) : State :=
  if f.target == Config.allStations then s
  else
    s.offerReplies block [s.refuseFrame f.source f.kind.toNat (byteAt f.payload 0) reason detail]

/-- The first three tests of R63, which the guard unit makes as well (R180). -/
def State.requestFails (s : State) (f : Frame) : Option Reason :=
  if !s.ownsRequests f.source then some .notOwner
  else if s.guardUnit.resetting.isSome then some .resetting
  else if f.payload.length != requestLength f.kind.toNat then some .badParam
  else none

/-- The slot a request names, when its number is 0..7 (R63 test 4). -/
def requestSlot (f : Frame) : Option (Fin 8) :=
  if h : byteAt f.payload 0 < 8 then some ⟨byteAt f.payload 0, h⟩ else none

/-- The oldest frame of the silo, if it is of a class and kind, with the line unit after it has left (R32). -/
def State.handOn (s : State) (cls kind : Nat) : Option (Heard × State) :=
  if s.station.connected then
    match s.line.silo with
    | [] => none
    | h :: rest =>
      if h.frame.cls.toNat == cls && h.frame.kind.toNat == kind then
        some (h, s.setLine { s.line with silo := rest })
      else none
  else none

/-! ### Validation (R73) -/

/-- What validation makes of a slot's part data. -/
inductive Validated where
  | refused (reason : Reason) (detail : Nat)
  | held (work : Work)
  deriving DecidableEq, Repr

/-- The steps of R73: tests, clamps, claim need, claim tests. -/
def validate (c : ConfigRecord) (guard : Nat) (kind : CheckKind) (parts : List (List Byte)) : Validated :=
  let params := readParams kind parts
  match params.failingPart parts.length with
  | some index => .refused .badParam index
  | none =>
    let clamped := params.clamp guard
    let need := c.needOf clamped.1.ceiling
    if Config.claimTop < need then .refused .claimTooLarge detailRequest
    else if c.headroom < need then .refused .claimExceedsFeeder detailRequest
    else .held { params := clamped.1, ceilingClamped := clamped.2.1, dwellClamped := clamped.2.2, need := need }

/-- The effective guard current (R179); 0 while it is unset. -/
def State.effectiveCurrent (s : State) : Nat := (s.guardUnit.effective.map Limits.current).getD 0

end Sys2Proof.Machine
end

