-- ==== Sys2Proof/Machine/EngineOps.lean ====
section
/-!
DEFINITION. Operations of the check engine that several commands share: entering its phases (R126 to R137), the grant
(R129, R168), the determination of a verdict (R132, R135), the end of a check and what follows it (R76, R137, R140,
R185), the start of the next slot (R75, R125) and the abort procedure (R138 to R143).
-/

namespace Sys2Proof.Machine

/-! ### Small steps of the engine -/

/-- The time spent in CLAIMING is added to the headroom wait on every exit from it (R129). -/
def Engine.leaveClaiming (e : Engine) (now : Word) : Engine :=
  if e.phase == .claiming then { e with headroomWait := e.headroomWait + elapsed now e.claimingSince } else e

/-- Loading is over: plan, dwell, mark, shed hold, final hold and the run in progress are gone (R131, R146, R151,
R155, R174). On entry to ABORTING run, final hold and step count go here too, a choice of the model (log 39). -/
def Engine.endLoading (e : Engine) : Engine :=
  { e with
    stepIndex := none, dwellStart := none, dwellCount := 0, frozenFrom := none, mark := none, shedHold := none
    stepCount := none, runCount := 0, finalHold := false
    trip := { e.trip with origin := none, stepInstant := none, timeOut := none }
    derate := { e.derate with origin := none } }

/-- Every timer of the engine's record and of the kind's record is stopped (R138). -/
def Engine.stopTimers (e : Engine) : Engine :=
  { e with
    startWait := none, rest := none, shedHold := none, offTime := none, recoverWait := none
    trip := { e.trip with timeOut := none }, derate := { e.derate with soakTimer := none } }

/-- A verdict is determined: the engine keeps it, enters SETTLE and writes a zero that is no drop (R132, R135). -/
def State.settle (s : State) (d : Determined) : State :=
  (s.setEngine { s.engine.endLoading with phase := .settle, verdict := some d }).writeSetpoint 0

/-! ### Loading begins (R129, R147, R152, R168) -/

/-- A ramp begins: mark, plan and step 0 (R131, R147, R148). -/
def State.beginRamp (s : State) (r : Ramp) : State :=
  (s.setEngine { s.engine with
    phase := .ramp, mark := some r.start, stepCount := some r.steps, stepIndex := some 0, dwellStart := none
    dwellCount := 0, runCount := 0, finalHold := false }).writeSetpoint r.start

/-- A pre-load begins: mark and Ip (R129, R152). -/
def State.beginPreload (s : State) (p : TimeParams) : State :=
  (s.setEngine { s.engine with
    phase := .preload, mark := some p.preload, dwellStart := none, dwellCount := 0, runCount := 0
    finalHold := false }).writeSetpoint p.preload

/-- The block that lets RAMP begin: the latest, if it is good and completed after the first good block (R168). -/
def DerateRecord.fitBlock (d : DerateRecord) : Option SoakBlock :=
  match d.latest, d.firstGood with
  | some b, some first => if b.good && decide (first < b.number) then some b else none
  | _, _ => none

/-- The derating record when RAMP begins: T_used and the band fixed, the soak summary discarded (R168 to R170). -/
def DerateRecord.begin (d : DerateRecord) (p : DerateParams) (b : SoakBlock) : DerateRecord :=
  { d with
    soakTimer := none, openBlock := OpenBlock.empty, blockNumber := 0, latest := none, firstGood := none
    band := some (bandAt p b.average), powerMaximum := 0, origin := none }

/-- The headroom unit tells the engine granted (R129). In another phase than CLAIMING nothing waits on it. -/
def State.granted (s : State) (atOnce : Bool) : State :=
  match s.engine.phase, s.engine.check with
  | .claiming, some c =>
    let s1 := s.setEngine { s.engine.leaveClaiming s.time with
      claimAmount := c.need, carried := s.engine.carried || (atOnce && c.params.isTrip) }
    match c.params with
    | .tripRamp p => s1.beginRamp p.ramp
    | .tripTime p => s1.beginPreload p
    | .derate p =>
      match s1.engine.derate.fitBlock with
      | some b => (s1.setEngine { s1.engine with derate := s1.engine.derate.begin p b }).beginRamp p.ramp
      | none => (s1.setEngine { s1.engine with phase := .soak }).withdrawNeed
  | _, _ => s

/-- The engine enters CLAIMING and states its need (R129); a carry is kept no longer than this (R137). -/
def State.enterClaiming (s : State) (c : Check) : State :=
  let s1 := s.setEngine { s.engine with phase := .claiming, claimingSince := s.time, carry := false }
  let s2 := s1.stateNeed c.need c.priority
  if s1.headroom.grantsAtOnce c.need then s2.granted true else s2

/-- Rest has been shown (R127): DERATE enters SOAK for the first time and its soak maximum begins (R166); the trip
kinds enter CLAIMING. -/
def State.restShown (s : State) (c : Check) : State :=
  let s1 := s.setEngine { s.engine with rest := none, restCount := 0 }
  match c.params with
  | .derate p =>
    s1.setEngine { s1.engine with
      phase := .soak
      derate := { s1.engine.derate with
        soakTimer := some (later s1.time (p.soakMaximum * Config.unitsPerSecond)) } }
  | .tripRamp _ | .tripTime _ => s1.enterClaiming c

/-! ### QUIET (R126) -/

/-- An abort enters ABORTING: cause, timers, loading fields, and a drop written into the path (R138). With dwell count,
step index and mark the run in progress, the final hold, the step count and the step instant are discarded here already,
which R146 and R163 discard with the record at the abort's completion (log 39). -/
def State.enterAbort (s : State) (cause : Option Cause) (noResult : Bool) : State :=
  (s.setEngine { (s.engine.leaveClaiming s.time).endLoading.stopTimers with
    phase := .aborting, cause := cause, noResult := noResult, mustOpen := false, carry := false }).writeDrop

/-- The engine takes a refused close for an abort with the latched cause (R126, R136, R138). -/
def State.closeWasRefused (s : State) : State :=
  let s1 := s.enterAbort s.guardUnit.latch false
  s1.setEngine { s1.engine with selfCause := s.guardUnit.latch }

/-- With the applied setpoint zero and the path empty, QUIET looks at the contactor command (R126). -/
def State.quietContactor (s : State) : State :=
  if s.port.commandedClosed then
    s.setEngine { s.engine with
      quiet := .rest, restCount := 0, rest := some (later s.time Config.restUnits) }
  else if s.closeRefused then s.closeWasRefused
  else
    (s.setEngine { s.engine with
      quiet := .powerGood, restCount := 0
      startWait := some (later s.time (s.config.startWait * Config.unitsPerSecond)) }).closeContactor

/-- Entry to QUIET: a load that may still stand is brought down by a drop first (R126). -/
def State.enterQuiet (s : State) : State :=
  if s.port.applied != 0 || !s.port.pathEmpty then
    (s.setEngine { s.engine with phase := .quiet, quiet := .drop }).writeDrop
  else (s.setEngine { s.engine with phase := .quiet }).quietContactor

/-! ### Starting a slot (R75, R125, R137) -/

/-- The conditions under which the head of the start queue starts (R75). -/
def State.mayStart (s : State) : Bool :=
  s.engine.phase == .idle && s.station == .onLine && s.guardUnit.latch.isNone && s.guardUnit.resetting.isNone

/-- A carry standing at the hand-over is kept for a trip check whose need the hold covers, and is otherwise withdrawn
(R137). -/
def State.settleCarry (s : State) (w : Work) : State :=
  if s.engine.carry then
    if w.params.isTrip && decide (w.need ≤ s.headroom.held) then s
    else (s.setEngine { s.engine with carry := false }).withdrawNeed
  else s

/-- The engine takes a check over and enters QUIET (R125). -/
def State.handOver (s : State) (n : Fin 8) (h : SlotHead) (w : Work) : State :=
  let s1 := s.settleCarry w
  let s2 := s1.setEngine { Engine.reset with
    phase := .quiet, carry := s1.engine.carry, startStamp := s1.time
    check := some { slot := n, priority := h.priority, params := w.params, need := w.need } }
  (s2.setPort { s2.port with ceiling := w.params.ceiling }).enterQuiet

/-- The slot that the start conditions let start: the head of the queue with what it holds (R75). -/
def State.startable (s : State) : Option (Fin 8 × SlotHead × Work) :=
  if s.mayStart then
    match s.slotTable.queue with
    | [] => none
    | n :: _ =>
      match s.slotTable.slot n with
      | .held h w => some (n, h, w)
      | _ => none
  else none

/-- The slot table examines the start conditions; the head becomes ACTIVE when they hold (R75). -/
def State.examineStart (s : State) : State :=
  match s.startable with
  | none => s
  | some (n, h, w) =>
    (s.setSlotTable { s.slotTable.put n (.active h w) with queue := dequeueSlot n s.slotTable.queue }).handOver n h w

/-! ### The end of a check (R76, R97, R137, R140, R185) -/

/-- The BAY_RESET in progress completes at the engine's idle report; one addressed to the part is answered (R185). -/
def State.completeReset (s : State) : State :=
  match s.guardUnit.resetting with
  | none => s
  | some r =>
    let s1 := s.setGuardUnit { s.guardUnit with resetting := none }
    if r.target == Config.allStations then s1 else s1.replyStatus .guardUnit r.source

/-- The engine withdraws a carried need when no slot starts (R137). -/
def State.dropCarry (s : State) : State :=
  if s.engine.carry then (s.setEngine { s.engine with carry := false }).withdrawNeed else s

/-- The engine reports idle: a BAY_RESET completes, and the slot table starts the next head or reports that no slot
starts (R75, R137, R185). -/
def State.reportIdle (s : State) : State :=
  let s1 := s.completeReset
  if s1.startable.isSome then s1.examineStart else s1.dropCarry

/-- The engine's record returns to its reset values, the port's ceiling to 0, and the engine reports idle (R124, R137,
R140). -/
def State.finishCheck (s : State) (carry : Bool) : State :=
  ((s.setEngine { Engine.reset with carry := carry }).setPort { s.port with ceiling := 0 }).reportIdle

/-- The band fields of a result by kind (R98, R161, R178): expected, lower, upper, T_used. -/
def Engine.bandFields (e : Engine) : Nat × Nat × Nat × Int :=
  match e.check.map Check.params with
  | some (.tripRamp p) => (0, p.windowLow, p.windowHigh, 0)
  | some (.tripTime p) => (0, p.timeLow, p.timeHigh, 0)
  | some (.derate _) =>
    match e.derate.band with
    | some b => (b.expected, b.lower, b.upper, b.tUsed)
    | none => (0, 0, 0, 0)
  | none => (0, 0, 0, 0)

/-- The result record as the check ends (R97, R98, R137, R140, R161, R178). -/
def Engine.resultRecord (e : Engine) (now : Word) : ResultRecord :=
  let d := e.verdict.getD { verdict := .aborted, measured := 0 }
  let (expected, lower, upper, tUsed) := e.bandFields
  { verdict := d.verdict, cause := e.cause.getD .none, restarts := e.restarts, clipped := e.clipped,
    carried := e.carried, furtherFault := e.furtherFault, measured := d.measured, expected := expected,
    bandLower := lower, bandUpper := upper, tUsed := tUsed, claimAmount := e.claimAmount,
    headroomWait := tenMs e.headroomWait, runDuration := tenMs (elapsed now e.startStamp), endStamp := now,
    peakCurrent := e.peakCurrent }

/-- The slot table takes the end of a check: the ACTIVE slot becomes DONE, unlocked, and a DONE_NOTE is offered to its
owner (R76). -/
def State.slotDone (s : State) (n : Fin 8) (r : ResultRecord) : State :=
  match s.slotTable.slot n with
  | .active h w => (s.putSlot n (.done h w r none)).offerReplies .slotTable [s.doneNote n h r]
  | _ => s

/-- The result goes back to the slot table. -/
def State.handBack (s : State) (r : ResultRecord) : State :=
  match s.engine.check with
  | none => s
  | some c => s.slotDone c.slot r

/-- A trip check that was granted and whose claim is HOLDING keeps its need standing (R137). -/
def State.keepsNeed (s : State) : Bool :=
  (s.engine.check.any fun c => c.params.isTrip) && s.engine.claimAmount != 0 && s.headroom.claim == .holding

/-- RELEASE: result, need or carry, hand-back, idle (R137). -/
def State.release (s : State) : State :=
  let s1 := s.setEngine (s.engine.leaveClaiming s.time)
  let r := s1.engine.resultRecord s1.time
  let s2 := if s1.keepsNeed then s1 else s1.withdrawNeed
  (s2.handBack r).finishCheck s1.keepsNeed

/-- A check ends NOT_RUN with a cause and passes to RELEASE (R126, R127, R128, R167). -/
def State.notRun (s : State) (cause : Cause) : State :=
  (s.setEngine { s.engine with
    verdict := some { verdict := .notRun, measured := 0 }, cause := some cause }).release

/-! ### The abort procedure (R138 to R143) -/

/-- The contactor step is taken for the first cause, a second cause or a mismatch of the drop (R139). -/
def Engine.abortOpens (e : Engine) (mismatched : Bool) : Bool :=
  (e.cause.any Cause.opens) || e.mustOpen || mismatched

/-- An ACTIVE slot whose abort ends without a result is vacated (R85, R140). -/
def State.vacateActive (s : State) : State :=
  match s.engine.check with
  | none => s
  | some c => if (s.slotTable.slot c.slot).isActive then s.putSlot c.slot .vacant else s

/-- The wait for the drop has ended: contactor, need, result or none, idle (R139, R140). -/
def State.finishAbort (s : State) (mismatched : Bool) : State :=
  let s1 := if s.engine.abortOpens mismatched then s.requestOpen else s
  let r := s1.engine.resultRecord s1.time
  let s2 := s1.withdrawNeed
  (if s2.engine.noResult then s2.vacateActive else s2.handBack r).finishCheck false

/-- An abort begins; with first cause LOAD_STAGE_SILENT the engine does not wait for its drop (R138, R139). -/
def State.beginAbort (s : State) (cause : Option Cause) (noResult : Bool) : State :=
  let s1 := s.enterAbort cause noResult
  if cause == some .loadStageSilent then s1.finishAbort false else s1

/-- A second cause taken while ABORTING (R141). -/
def State.secondCause (s : State) (cause : Cause) : State :=
  if cause == .stationSilenced then s.setEngine { s.engine with noResult := true }
  else if s.engine.selfCause == some cause then s.setEngine { s.engine with selfCause := none }
  else if cause.latching then
    let s1 := s.setEngine { s.engine with
      furtherFault := true, mustOpen := s.engine.mustOpen || cause.opens }
    if cause == .loadStageSilent then s1.finishAbort false else s1
  else s

/-- An abort order with a cause, taken by phase (R138, R143, R144). -/
def State.orderAbort (s : State) (cause : Cause) : State :=
  match s.engine.phase with
  | .idle => if cause == .holdStale || cause == .stationSilenced then s.dropCarry else s
  | .quiet | .soak | .claiming | .preload | .ramp | .step | .frozen =>
    s.beginAbort (some cause) (cause == .stationSilenced)
  | .settle => if cause == .cancelled then s else s.beginAbort (some cause) (cause == .stationSilenced)
  | .recover =>
    if cause == .cancelled || cause == .holdStale then s
    else s.beginAbort (some cause) (cause == .stationSilenced)
  | .release => s
  | .aborting => s.secondCause cause

/-- BAY_RESET tells the engine that its check has no slot (R142). -/
def State.resetEngine (s : State) : State :=
  match s.engine.phase with
  | .idle => s.dropCarry.reportIdle
  | .aborting => s.setEngine { s.engine with noResult := true }
  | .quiet | .soak | .claiming | .preload | .ramp | .step | .frozen | .settle | .recover | .release =>
    s.beginAbort none true

/-! ### Shed events (R133, R134, R157) -/

/-- The engine falls back to its mark and is FROZEN (R133, R148, R157). -/
def State.freeze (s : State) : State :=
  let e := s.engine
  (s.setEngine { e with
    phase := .frozen, frozenFrom := some e.phase, restarts := e.restarts + 1
    shedHold := some (later s.time (s.config.shedHold * Config.unitsPerMs)), dwellStart := none, dwellCount := 0
    finalHold := false, trip := { e.trip with timeOut := none } }).writeSetpoint (e.mark.getD 0)

/-- The engine takes a shed event by phase (R133, R134). -/
def State.engineShed (s : State) : State :=
  match s.engine.phase with
  | .preload | .ramp | .step =>
    if s.engine.restarts < Config.restartLimit then s.freeze else s.beginAbort (some .shedLimit) false
  | .frozen =>
    s.setEngine { s.engine with
      shedHold := some (later s.time (s.config.shedHold * Config.unitsPerMs))
      trip := { s.engine.trip with timeOut := none } }
  | .idle | .quiet | .soak | .claiming | .settle | .recover | .release | .aborting => s

/-- A shed event: the own contest and the engine (R59, R60). -/
def State.shedEvent (s : State) (order : Word) : State :=
  (s.setHeadroom (s.headroom.shedEvent order)).engineShed

/-- The completion of the part's own SHED is a shed event; one that still waited for the line at the contest timer's
expiry does not deny that contest, and reaches the engine all the same (R60, log 35). -/
def State.ownShed (s : State) (e : Entry) (order : Word) : State :=
  if s.headroom.lateShed == some e.entryOrder then s.engineShed else s.shedEvent order

end Sys2Proof.Machine
end

