-- ==== Sys2Proof/Machine/EngineSets.lean ====
section
/-!
DEFINITION. What the check engine does with one sample set (R125, R127, R132, R136, R148 to R158, R164 to R167, R171
to R175), and with the port's report of one answered setpoint (R130, R135, R139, R153).
-/

namespace Sys2Proof.Machine

/-! ### Rest (R126, R127) -/

/-- The set is at rest (R127). -/
def SampleSet.atRest (x : SampleSet) (nominal : Nat) : Bool :=
  decide (x.current < Config.restCurrent) && decide (nominal - nominal / 10 ≤ x.voltage)
    && decide (x.voltage ≤ nominal + nominal / 10) && x.powerGood && !x.alert

/-- The rest count takes a set; at 64 rest is shown (R127). -/
def State.countRest (s : State) (c : Check) (x : SampleSet) : State :=
  let n := if x.atRest s.config.nominalVoltage then s.engine.restCount + 1 else 0
  if n == Config.restSets then s.restShown c else s.setEngine { s.engine with restCount := n }

/-- QUIET takes a set (R126, R127). -/
def State.quietSet (s : State) (c : Check) (x : SampleSet) : State :=
  match s.engine.quiet with
  | .drop => s
  | .powerGood =>
    if x.powerGood then
      (s.setEngine { s.engine with
        quiet := .rest, startWait := none, rest := some (later s.time Config.restUnits) }).countRest c x
    else s
  | .rest => s.countRest c x

/-! ### Soak (R164 to R167) -/

/-- The open block with one more temperature (R164). -/
def OpenBlock.add (b : OpenBlock) (t : Int) : OpenBlock :=
  { count := b.count + 1, sum := b.sum + t
    least := some (match b.least with | none => t | some l => min l t)
    greatest := some (match b.greatest with | none => t | some g => max g t) }

/-- The summary of a completed block (R164, R165). -/
def OpenBlock.complete (b : OpenBlock) (p : DerateParams) (number : Nat) : SoakBlock :=
  let average := Int.tdiv b.sum p.blockSets
  let spread := (b.greatest.getD 0 - b.least.getD 0).toNat
  { number := number, average := average, spread := spread
    good := decide (p.tLow ≤ average) && decide (average ≤ p.tHigh) && decide (spread ≤ p.stability) }

/-- The derating record after a set of the soak; a completed block becomes the latest, and the check's first good
block is recorded once (R164, R165). -/
def DerateRecord.soak (d : DerateRecord) (p : DerateParams) (t : Int) : DerateRecord :=
  let b := d.openBlock.add t
  if b.count < p.blockSets then { d with openBlock := b }
  else
    let done := b.complete p (d.blockNumber + 1)
    { d with
      openBlock := OpenBlock.empty, blockNumber := d.blockNumber + 1, latest := some done
      firstGood := if d.firstGood.isNone && done.good then some done.number else d.firstGood }

/-- The set completes a good block (R165). -/
def DerateRecord.goodBlock (d : DerateRecord) (p : DerateParams) (t : Int) : Bool :=
  let b := d.openBlock.add t
  decide (p.blockSets ≤ b.count) && (b.complete p (d.blockNumber + 1)).good

/-- A set taken in SOAK, or in the CLAIMING of a DERATE check (R164, R165, R167). -/
def State.soakSet (s : State) (c : Check) (p : DerateParams) (x : SampleSet) : State :=
  if !x.powerGood && s.port.commandedClosed then s.requestOpen.notRun .notAtRest
  else
    let s1 := s.setEngine { s.engine with derate := s.engine.derate.soak p x.temperature }
    if s.engine.phase == .soak && s.engine.derate.goodBlock p x.temperature then s1.enterClaiming c else s1

/-! ### Dwell (R130, R148, R152, R156, R173) -/

/-- The plan has reached its end: with no run in progress the verdict falls, otherwise the final hold is set (R148,
R156, R173). -/
def State.planEnd (s : State) (d : Determined) : State :=
  if s.engine.runCount == 0 then s.settle d else s.setEngine { s.engine with finalHold := true }

/-- The verdict at the end of a plan without a run: NO_TRIP with measured value 0, or NO_FOLD with the power maximum
as it stands (R148, R156, R173). -/
def State.noRunVerdict (s : State) (p : Params) : Determined :=
  match p with
  | .tripRamp _ | .tripTime _ => { verdict := .noTrip, measured := 0 }
  | .derate _ => { verdict := .noFold, measured := s.engine.derate.powerMaximum }

/-- The dwell of a step ends: the next step is written, or the plan has reached its end (R148, R173). -/
def State.rampDwellEnd (s : State) (p : Params) (r : Ramp) : State :=
  let k := s.engine.stepIndex.getD 0
  if k < s.engine.stepCount.getD 0 then
    (s.setEngine { s.engine with stepIndex := some (k + 1), dwellStart := none, dwellCount := 0 }).writeSetpoint
      (r.setpoint (k + 1))
  else (s.setEngine { s.engine with dwellStart := none, dwellCount := 0 }).planEnd (s.noRunVerdict p)

/-- The pre-load dwell ends: Io is written and STEP entered (R152). -/
def State.preloadDwellEnd (s : State) (p : TimeParams) : State :=
  (s.setEngine { s.engine with phase := .step, dwellStart := none, dwellCount := 0 }).writeSetpoint p.overload

/-- The set's stamp is later than the acknowledgement that began the dwell (R130). -/
def State.inDwell (s : State) : Bool := s.engine.dwellStart.any (fun start => earlier start s.time)

/-- A set counted towards the dwell (R124, R130). -/
def State.dwellCounted (s : State) : State := s.setEngine { s.engine with dwellCount := s.engine.dwellCount + 1 }

/-- A dwell of a length takes a set, and what its end does (R130). -/
def State.countDwell (s : State) (length : Nat) (atEnd : State → State) : State :=
  if s.inDwell then
    (if length ≤ s.engine.dwellCount + 1 then atEnd s.dwellCounted else s.dwellCounted)
  else s

/-- The dwell of the phase takes a set (R124, R130, R132). In STEP, which holds Io until a collapse or the time-out, the
sets since Io's acknowledgement are counted to no end; FROZEN has no dwell. -/
def State.dwellSet (s : State) (p : Params) : State :=
  match s.engine.phase, p with
  | .ramp, .tripRamp q => s.countDwell q.ramp.dwell (fun s => s.rampDwellEnd p q.ramp)
  | .ramp, .derate q => s.countDwell q.ramp.dwell (fun s => s.rampDwellEnd p q.ramp)
  | .preload, .tripTime q => s.countDwell q.preDwell (fun s => s.preloadDwellEnd q)
  | .step, .tripTime _ => if s.inDwell then s.dwellCounted else s
  | _, _ => s

/-- A set that is not collapsed or folded: the run is broken, and with the final hold set the verdict falls; otherwise
the dwell takes the set (R148, R149, R156, R172, R173). -/
def State.runBroken (s : State) (p : Params) : State :=
  let s1 := s.setEngine { s.engine with
    runCount := 0, trip := { s.engine.trip with origin := none }, derate := { s.engine.derate with origin := none } }
  if s.engine.finalHold then s1.settle (s1.noRunVerdict p) else s1.dwellSet p

/-! ### Collapse runs (R149 to R155) -/

/-- The phase in which the load was last written, FROZEN standing for the phase it froze. -/
def Engine.loadingPhase (e : Engine) : Phase := if e.phase == .frozen then e.frozenFrom.getD .frozen else e.phase

/-- The step instant a run that begins at this stamp is judged from; none makes it premature (R154, R157). -/
def Engine.judgedFrom (e : Engine) (stamp : Word) : Option Word :=
  match e.loadingPhase, e.trip.stepInstant with
  | .step, some instant => if earlier instant stamp then some instant else none
  | _, _ => none

/-- The verdict of a completed collapse run (R151, R155). -/
def CollapseOrigin.verdict (o : CollapseOrigin) (p : Params) : Determined :=
  match p with
  | .tripRamp q => { verdict := judge q.windowLow q.windowHigh o.current, measured := o.current }
  | .tripTime q =>
    match o.judgedFrom with
    | none => { verdict := .failLow, measured := 0 }
    | some instant =>
      let t := elapsed o.stamp instant
      { verdict := judge q.timeLow q.timeHigh t, measured := min t 65535 }
  | .derate _ => { verdict := .failLow, measured := 0 }

/-- The origin of the run that a collapsed set begins or continues (R149, R150). -/
def Engine.collapseOrigin (e : Engine) (before : Nat) (stamp : Word) : CollapseOrigin :=
  match e.trip.origin with
  | some o => o
  | none => { current := before, stamp := stamp, judgedFrom := e.judgedFrom stamp }

/-- A trip check examines a set for a collapse run; `before` is the current of the set before it (R149). -/
def State.collapseSet (s : State) (p : Params) (t : TripTail) (before : Nat) (x : SampleSet) : State :=
  if x.voltage < t.collapseVoltage then
    let o := s.engine.collapseOrigin before s.time
    if t.collapseCount ≤ s.engine.runCount + 1 then s.settle (o.verdict p)
    else
      (s.setEngine { s.engine with
        runCount := s.engine.runCount + 1, trip := { s.engine.trip with origin := some o } }).dwellSet p
  else s.runBroken p

/-! ### Fold runs and power (R171 to R174) -/

/-- The origin of the run that a folded set begins or continues (R172). -/
def Engine.foldOrigin (e : Engine) (x : SampleSet) : FoldOrigin :=
  match e.derate.origin with
  | some o => { o with dark := o.dark || !x.powerGood }
  | none => { power := e.derate.powerMaximum, dark := !x.powerGood }

/-- The verdict of a completed fold run (R174). -/
def FoldOrigin.verdict (o : FoldOrigin) (band : Option Band) : Determined :=
  { verdict := if o.dark then .trippedInDerate
      else judge ((band.map Band.lower).getD 0) ((band.map Band.upper).getD 0) o.power
    measured := o.power }

/-- The power maximum takes in the sets of RAMP, after the examination for a fold (R171). -/
def State.raisePower (s : State) (x : SampleSet) : State :=
  if s.engine.phase == .ramp then
    s.setEngine { s.engine with
      derate := { s.engine.derate with powerMaximum := max s.engine.derate.powerMaximum x.power } }
  else s

/-- A DERATE check examines a set for a fold run (R172, R173, R174). -/
def State.foldSet (s : State) (p : DerateParams) (x : SampleSet) : State :=
  if x.voltage < p.foldVoltage then
    let o := s.engine.foldOrigin x
    let s1 := s.raisePower x
    if p.foldCount ≤ s.engine.runCount + 1 then s1.settle (o.verdict s.engine.derate.band)
    else
      (s1.setEngine { s1.engine with
        runCount := s.engine.runCount + 1, derate := { s1.engine.derate with origin := some o } }).dwellSet (.derate p)
  else (s.raisePower x).runBroken (.derate p)

/-! ### One set (R125, R132) -/

/-- What every set does while a check is active: peak current, CLIPPED and last current (R125, R146). -/
def Engine.takeIn (e : Engine) (x : SampleSet) : Engine :=
  { e with
    peakCurrent := max e.peakCurrent x.current, clipped := e.clipped || x.clipped
    trip := { e.trip with lastCurrent := x.current } }

/-- The tripped flag: power-good absent with the contactor commanded closed (R132, R158, R175). -/
def State.markTripped (s : State) (x : SampleSet) : State :=
  s.setEngine { s.engine with tripped := s.engine.tripped || (!x.powerGood && s.port.commandedClosed) }

/-- A set taken in a loading phase or in FROZEN (R132). -/
def State.loadingSet (s : State) (c : Check) (before : Nat) (x : SampleSet) : State :=
  let s1 := s.markTripped x
  match c.params with
  | .tripRamp p => s1.collapseSet c.params p.tail before x
  | .tripTime p => s1.collapseSet c.params p.tail before x
  | .derate p => s1.foldSet p x

/-- The check engine takes a sample set. -/
def State.engineSet (s : State) (x : SampleSet) : State :=
  match s.engine.check with
  | none => s
  | some c =>
    let before := s.engine.trip.lastCurrent
    let s1 := s.setEngine (s.engine.takeIn x)
    match s1.engine.phase, c.params with
    | .quiet, _ => s1.quietSet c x
    | .soak, .derate p => s1.soakSet c p x
    | .claiming, .derate p => s1.soakSet c p x
    | .preload, _ | .ramp, _ | .step, _ | .frozen, _ => s1.loadingSet c before x
    | .settle, _ => s1.markTripped x
    | .recover, _ => if s1.engine.recoverWait.isSome && x.powerGood then s1.release else s1
    | _, _ => s1

/-! ### Answers to setpoints (R130, R135, R136, R139, R153) -/

/-- Off-time and recover wait of a check, in station time units (R101, R136, R175). -/
def Params.offUnits : Params → Nat
  | .tripRamp p => p.tail.offTime * Config.unitsPer100ms
  | .tripTime p => p.tail.offTime * Config.unitsPer100ms
  | .derate _ => Config.derateOffUnits

def Params.recoverUnits : Params → Nat
  | .tripRamp p => p.tail.recoverWait * Config.unitsPer100ms
  | .tripTime p => p.tail.recoverWait * Config.unitsPer100ms
  | .derate _ => Config.derateRecoverUnits

/-- RECOVER begins: the contactor is requested open for the off-time (R136). -/
def State.enterRecover (s : State) (p : Params) : State :=
  (s.setEngine { s.engine with
    phase := .recover, offTime := some (later s.time p.offUnits) }).requestOpen

/-- The acknowledgement of Io fixes the step instant and the time-out (R153). -/
def State.stepAcknowledged (s : State) (p : TimeParams) : State :=
  s.setEngine { s.engine with
    trip := { s.engine.trip with
      stepInstant := some s.time, timeOut := some (later s.time (p.timeOut * Config.unitsPerMs)) } }

/-- The newest setpoint the engine wrote is acknowledged in a loading phase, in FROZEN or in SETTLE (R130, R134, R135,
R153). -/
def State.newestAcknowledged (s : State) (c : Check) : State :=
  let s1 := s.setEngine { s.engine with awaiting := false }
  let begun := s1.setEngine { s1.engine with dwellStart := some s.time, dwellCount := 0 }
  match s.engine.phase, c.params with
  | .preload, _ | .ramp, _ => begun
  | .step, .tripTime p => begun.stepAcknowledged p
  | .settle, _ => if s.engine.tripped then s1.enterRecover c.params else s1.release
  | _, _ => s1

/-- The port reports a setpoint of the engine acknowledged. An answer that leaves PENDING empty is the answer to the
newest setpoint written; one that leaves the mark waiting behind it in a FROZEN entered from STEP is the answer to Io
(R130, R153, log 16). -/
def State.setpointAcknowledged (s : State) (c : Check) : State :=
  if s.port.pending.isNone then s.newestAcknowledged c
  else
    match s.engine.phase, s.engine.frozenFrom, c.params with
    | .frozen, some .step, .tripTime p => s.stepAcknowledged p
    | _, _, _ => s

/-- The port reports a drop acknowledged: QUIET goes on to the contactor, and an abort's wait ends (R126, R139). -/
def State.dropAcknowledged (s : State) : State :=
  match s.engine.phase with
  | .quiet =>
    if s.engine.quiet == .drop then
      let s1 := s.quietContactor
      if s1.engine.phase == .aborting && s1.engine.cause == some .loadStageSilent then s1.finishAbort false else s1
    else s
  | .aborting => s.finishAbort false
  | _ => s

/-- The engine takes the port's report of an acknowledged setpoint (R117, R130). -/
def State.engineAcknowledged (s : State) (sp : Setpoint) : State :=
  if sp.drop then s.dropAcknowledged
  else
    match s.engine.check with
    | none => s
    | some c => s.setpointAcknowledged c

end Sys2Proof.Machine
end

