-- ==== Sys2Proof/Machine/GuardOps.lean ====
section
/-!
DEFINITION. The guard unit's shared operations: latching a fault (R183), the monitors of one sample set (R181), what a
CLEAR_FAULT finds (R184), and the silencing of the part (R13, R56, R85, R123, R143).
-/

namespace Sys2Proof.Machine

/-! ### The fault latch (R183) -/

/-- A latching cause reported to the guard unit: the latch, the hold, and the order to the engine (R183). -/
def State.latchFault (s : State) (cause : Cause) : State :=
  match s.guardUnit.latch with
  | none => (s.setGuardUnit { s.guardUnit with latch := some cause, further := 0 }).setHold.orderAbort cause
  | some _ => (s.setGuardUnit { s.guardUnit with further := countUp s.guardUnit.further 1 }).orderAbort cause

/-! ### Monitoring (R181) -/

/-- One monitor takes a set: its run count after it, and whether the run is complete. -/
def monitor (counts : Bool) (run needed : Nat) : Nat × Bool :=
  if counts then (if needed ≤ run + 1 then (0, true) else (run + 1, false)) else (0, false)

/-- The faults that a set's completed runs latch, in the order of R181's table. -/
def completedRuns (v i t : Bool) : List Cause :=
  (if v then [Cause.guardV] else []) ++ (if i then [Cause.guardI] else []) ++ (if t then [Cause.guardT] else [])

/-- The guard unit takes a sample set (R181). -/
def State.guardSet (s : State) (x : SampleSet) : State :=
  match s.guardUnit.effective with
  | none => s
  | some l =>
    if s.port.commandedClosed then
      let (nv, fv) := monitor (decide (l.voltage < x.voltage)) s.guardUnit.runVoltage Config.guardRunShort
      let (ni, fi) := monitor (decide (l.current * 21 / 20 < x.current)) s.guardUnit.runCurrent Config.guardRunShort
      let (nt, ft) := monitor (decide (l.temperature < x.temperature)) s.guardUnit.runTemperature Config.guardRunLong
      (completedRuns fv fi ft).foldl State.latchFault
        (s.setGuardUnit { s.guardUnit with runVoltage := nv, runCurrent := ni, runTemperature := nt })
    else s

/-! ### What CLEAR_FAULT finds (R184) -/

/-- A write ON_PORT stands unanswered: from the expiry of its timer to its answer, at which R119 ends that state (log 38). -/
def Port.unanswered (p : Port) : Bool := p.onPort.any OnPort.unanswered

/-- The last set's temperature is above the effective limit, or no set has arrived (R184). -/
def State.tooHot (s : State) : Bool :=
  match s.port.last, s.guardUnit.effective with
  | none, _ => true
  | some x, some l => decide (l.temperature < x.set.temperature)
  | some _, none => false

/-- The condition of a first cause still stands (R184). -/
def State.conditionStands (s : State) (cause : Cause) : Bool :=
  match cause with
  | .estop => s.port.estop
  | .samplesLost => !s.port.samplesPresent
  | .guardT => s.tooHot
  | .loadStageSilent => s.port.unanswered
  | .none | .cancelled | .notAtRest | .soakTimeout | .holdStale | .shedLimit | .guardV | .guardI
  | .loadStageMismatch | .recoverFailed | .stationSilenced => false

/-- The conditions that outlast their reports and stand at this moment (R184). -/
def State.standingConditions (s : State) : List Cause :=
  [Cause.estop, Cause.samplesLost, Cause.loadStageSilent].filter s.conditionStands

/-- An accepted CLEAR_FAULT: latch and hold released, start conditions examined, standing conditions latched anew
(R184). -/
def State.clearLatch (s : State) : State :=
  let s1 := (s.setGuardUnit { s.guardUnit with latch := none, further := 0 }).releaseHold.examineStart
  s1.standingConditions.foldl State.latchFault s1

/-! ### Silencing (R13) -/

/-- The line unit apart from the line: queue, waiting CLAIM and silo emptied, counters as they stand (R13, R34). -/
def Line.silenced (l : Line) : Line :=
  { l with judgement := .apart, driving := [], queue := [], waiting := none, silo := [] }

/-- The headroom unit on silencing: view emptied, timers stopped, contest and need gone; a claim that carries no load
enters BARRED (R56, R57). -/
def Headroom.silenced (u : Headroom) : Headroom :=
  { u with
    peers := [], suspect := false, reListen := none, need := none, current := none, own := none
    askCompleted := none, denial := false, note := none, lateShed := none, yields := 0, target := none, contestTimer := none
    backoffTimer := none, refreshTimer := none, staleTimer := none, sagRun := 0, sagEpisode := false
    claim := if u.claim == .holding then .holding else .barred
    held := if u.claim == .holding then u.held else 0 }

/-- The port on silencing from JOINING or ON_LINE: a drop, the standing request open, no watchdog, ceiling 0 (R123). -/
def State.silencePort (s : State) : State :=
  let s1 := s.writeDrop.requestOpen
  s1.setPort { s1.port with watchdog := none, ceiling := 0 }

/-- Entry to OFF_LINE with a station fault from a state in which nothing has been written or assembled (R13, R123). -/
def State.goOffLine (s : State) (fault : StationFault) : State :=
  (s.setStartup { s.startup with
    station := .offLine, fault := some fault, configRead := none, loopTimer := none, joinTimer := none
    }).setLine s.line.silenced

/-- Silencing on a duplicate address (R13): from JOINING or ON_LINE with every effect of R13, from DEGRADED with nothing
to abort, to vacate or to write. -/
def State.silence (s : State) : State :=
  let s1 := s.goOffLine .dupAddress
  let s2 := s1.setHeadroom s1.headroom.silenced
  if s.station.builds then
    let s3 := s2.silencePort
    let s4 := (s3.setSlotTable s3.slotTable.vacateIdle).setGuardUnit s3.guardUnit.clearRuns
    (s4.orderAbort .stationSilenced).tryBar
  else s2

end Sys2Proof.Machine
end

