-- ==== Sys2Proof/Machine/AnnouncementEvents.lean ====
section
/-!
DEFINITION. The announcements between bays as the line unit hands them on from the silo (spec/03): SHED, ASK, HOLD and
DROP (R32, R37 to R39, R59, R90).
-/

namespace Sys2Proof.Machine

/-- SHED (R59): a shed event, whatever its length and payload (R89); discarded in DEGRADED (R12). -/
def execShed (s : State) : Host.Outcome State Fault Refusal :=
  .next (match s.handOn 0 0 with
    | none => s
    | some (h, s1) => if s1.station.builds then s1.shedEvent h.order else s1)

/-- The amounts and the period of a CLAIM payload, brought into range (R37, R90): held, asked, period. -/
def claimFields (f : Frame) : Nat × Nat × Nat :=
  (min (field16 f.payload 0) Config.claimTop, min (field16 f.payload 2) Config.claimTop,
    takenPeriod (byteAt f.payload 4))

/-- A CLAIM handed to the headroom unit: discarded in DEGRADED; of a wrong length, discarded and the view SUSPECT;
otherwise applied to the view (R37, R41, R89). -/
def State.takeClaim (s : State) (h : Heard) (apply : Nat × Nat × Nat → List Peer → List Peer) : State :=
  if s.station.builds then
    if h.frame.payload.length == 5 then
      s.setHeadroom { s.headroom with peers := apply (claimFields h.frame) s.headroom.peers }
    else s.markSuspect
  else s

/-- ASK (R38). -/
def execAsk (s : State) : Host.Outcome State Fault Refusal :=
  .next (match s.handOn 1 0 with
    | none => s
    | some (h, s1) => s1.takeClaim h (fun f => applyAsk h f.1 f.2.1 f.2.2))

/-- HOLD (R39). -/
def execHold (s : State) : Host.Outcome State Fault Refusal :=
  .next (match s.handOn 1 1 with
    | none => s
    | some (h, s1) => s1.takeClaim h (fun f => applyHold h f.1 f.2.2))

/-- DROP (R39). -/
def execDrop (s : State) : Host.Outcome State Fault Refusal :=
  .next (match s.handOn 1 2 with
    | none => s
    | some (h, s1) => s1.takeClaim h (fun f => applyHold h f.1 f.2.2))

end Sys2Proof.Machine
end

