-- ==== Sys2Proof/Machine/EngineEvents.lean ====
section
/-!
DEFINITION. The timers of the check engine (spec/07 to spec/09): start wait, rest, soak maximum, shed hold, time-out,
off-time and recover wait.
-/

namespace Sys2Proof.Machine

/-- START_WAIT_TIMER_EXPIRY (R126): the shelf has not come up. -/
def execStartWaitTimerExpiry (s : State) : Host.Outcome State Fault Refusal :=
  .next (if s.engine.phase == .quiet && due s.time s.engine.startWait then
      (s.setEngine { s.engine with startWait := none }).requestOpen.notRun .notAtRest
    else s)

/-- REST_TIMER_EXPIRY (R127). -/
def execRestTimerExpiry (s : State) : Host.Outcome State Fault Refusal :=
  .next (if s.engine.phase == .quiet && due s.time s.engine.rest then
      (s.setEngine { s.engine with rest := none }).requestOpen.notRun .notAtRest
    else s)

/-- SOAK_MAXIMUM_TIMER_EXPIRY (R128, R166): the contactor stays as commanded. -/
def execSoakMaximumTimerExpiry (s : State) : Host.Outcome State Fault Refusal :=
  .next (if (s.engine.phase == .soak || s.engine.phase == .claiming) && due s.time s.engine.derate.soakTimer then
      s.notRun .soakTimeout
    else s)

/-- Loading resumes from the mark (R134, R148, R157): a ramp at step 0, TRIP_TIME in PRELOAD with its step instant
discarded. The dwell counts from now when the mark has been acknowledged. -/
def Engine.resume (e : Engine) (now : Word) : Engine :=
  let r := { e with
    shedHold := none, frozenFrom := none, dwellStart := if e.awaiting then none else some now, dwellCount := 0 }
  if e.frozenFrom == some .ramp then { r with phase := .ramp, stepIndex := some 0 }
  else { r with phase := .preload, trip := { e.trip with stepInstant := none } }

/-- SHED_HOLD_TIMER_EXPIRY (R134). -/
def execShedHoldTimerExpiry (s : State) : Host.Outcome State Fault Refusal :=
  .next (if s.engine.phase == .frozen && due s.time s.engine.shedHold then s.setEngine (s.engine.resume s.time) else s)

/-- TIME_OUT_TIMER_EXPIRY (R156): in STEP the plan has reached its end. In another phase the timer only stops (log
16). -/
def execTimeOutTimerExpiry (s : State) : Host.Outcome State Fault Refusal :=
  .next (if due s.time s.engine.trip.timeOut then
      let s1 := s.setEngine { s.engine with trip := { s.engine.trip with timeOut := none } }
      if s.engine.phase == .step then s1.planEnd { verdict := .noTrip, measured := 0 } else s1
    else s)

/-- The off-time is over: the contactor is requested closed, and a refused close is an abort that keeps the verdict
(R136, R138). -/
def State.offTimeOver (s : State) (c : Check) : State :=
  if s.closeRefused then
    let s1 := s.closeWasRefused
    if s1.engine.cause == some .loadStageSilent then s1.finishAbort false else s1
  else
    (s.setEngine { s.engine with recoverWait := some (later s.time c.params.recoverUnits) }).closeContactor

/-- OFF_TIME_TIMER_EXPIRY (R136). -/
def execOffTimeTimerExpiry (s : State) : Host.Outcome State Fault Refusal :=
  .next (match s.engine.check with
    | none => s
    | some c =>
      if s.engine.phase == .recover && due s.time s.engine.offTime then
        (s.setEngine { s.engine with offTime := none }).offTimeOver c
      else s)

/-- RECOVER_WAIT_TIMER_EXPIRY (R136): the recovery has failed. The engine aborts with its verdict kept, and the guard
unit's order for the fault it reports is no second cause (R138, R141). -/
def execRecoverWaitTimerExpiry (s : State) : Host.Outcome State Fault Refusal :=
  .next (if s.engine.phase == .recover && due s.time s.engine.recoverWait then
      let s1 := s.requestOpen.enterAbort (some .recoverFailed) false
      (s1.setEngine { s1.engine with selfCause := some .recoverFailed }).latchFault .recoverFailed
    else s)

end Sys2Proof.Machine
end

