-- ==== Sys2Proof/Machine/GuardRequests.lean ====
section
/-!
DEFINITION. The requests that act on the bay as a whole, taken by the guard unit (spec/10): TIGHTEN (R180),
CLEAR_FAULT (R184) and BAY_RESET (R185).
-/

namespace Sys2Proof.Machine

/-! ### TIGHTEN (R180) -/

/-- The effective limits after a TIGHTEN of a limit code 0..2, with the value raised to its range's lower end (R180). -/
def Limits.tighten (effective configured : Limits) (payload : List Byte) : Limits :=
  match byteAt payload 0 with
  | 0 => { effective with current := min (max (field16 payload 1) Config.guardCurrentLow) configured.current }
  | 1 => { effective with voltage := min (max (field16 payload 1) Config.guardVoltageLow) configured.voltage }
  | _ => { effective with
           temperature := min (max (signed16 payload 1) Config.guardTemperatureLow) configured.temperature }

/-- The value of a limit code as two bytes (R95). -/
def Limits.field (l : Limits) (code : Nat) : List Byte :=
  match code with
  | 0 => bytes16 l.current
  | 1 => bytes16 l.voltage
  | _ => bytesSigned16 l.temperature

/-- TIGHTEN_REPLY (R95). -/
def State.tightenReply (s : State) (target : Address) (code : Nat) (effective : Limits) : Frame :=
  s.replyFrame target 2 (byte code :: (effective.field code ++ s.config.limits.field code))

/-- A TIGHTEN handed on (R180). -/
def State.takeTighten (s : State) (f : Frame) : State :=
  match s.requestFails f with
  | some r => s.refuse .guardUnit f r detailRequest
  | none =>
    match s.station, s.guardUnit.effective with
    | .degraded, _ | _, none => s.refuse .guardUnit f .notReady detailRequest
    | _, some l =>
      if 2 < byteAt f.payload 0 then s.refuse .guardUnit f .badParam detailRequest
      else
        let l' := l.tighten s.config.limits f.payload
        (s.setGuardUnit { s.guardUnit with effective := some l' }).offerReplies .guardUnit
          [s.tightenReply f.source (byteAt f.payload 0) l']

/-- TIGHTEN (R180). -/
def execTighten (s : State) : Host.Outcome State Fault Refusal :=
  .next (match s.handOn 2 6 with
    | none => s
    | some (h, s1) => s1.takeTighten h.frame)

/-! ### CLEAR_FAULT (R184) -/

/-- A CLEAR_FAULT handed on (R180, R184). -/
def State.takeClearFault (s : State) (f : Frame) : State :=
  match s.requestFails f with
  | some r => s.refuse .guardUnit f r detailRequest
  | none =>
    match s.guardUnit.latch with
    | none => s.refuse .guardUnit f .noFault detailRequest
    | some cause =>
      if s.conditionStands cause then s.refuse .guardUnit f .faultPersists detailRequest
      else s.clearLatch.replyStatus .guardUnit f.source

/-- CLEAR_FAULT (R184). -/
def execClearFault (s : State) : Host.Outcome State Fault Refusal :=
  .next (match s.handOn 2 7 with
    | none => s
    | some (h, s1) => s1.takeClearFault h.frame)

/-! ### BAY_RESET (R84, R142, R185) -/

/-- The guard unit takes a BAY_RESET: it marks it in progress and returns the effective limits to the configured ones,
leaving them unset where they are unset (R185). -/
def State.markReset (s : State) (f : Frame) : State :=
  s.setGuardUnit { s.guardUnit with
    resetting := some { source := f.source, target := f.target }
    effective := s.guardUnit.effective.map (fun _ => s.config.limits) }

/-- A BAY_RESET handed on (R180, R185). The reports of the removed REPLY frames find every slot vacated (R66). -/
def State.takeBayReset (s : State) (f : Frame) : State :=
  match s.requestFails f with
  | some r => s.refuse .guardUnit f r detailRequest
  | none =>
    let s1 := s.markReset f
    ((s1.setSlotTable s1.slotTable.vacateAll).setLine s1.line.removeReplies).resetEngine

/-- BAY_RESET (R185). -/
def execBayReset (s : State) : Host.Outcome State Fault Refusal :=
  .next (match s.handOn 2 8 with
    | none => s
    | some (h, s1) => s1.takeBayReset h.frame)

end Sys2Proof.Machine
end

