-- ==== Sys2Proof/Machine/HeadroomEvents.lean ====
section
/-!
DEFINITION. The timers and the decision of the headroom unit (spec/03): contest (R48 to R50), backoff (R51), refresh
(R52), hold-stale (R53), peer view entries (R40) and re-listening (R41).
-/

namespace Sys2Proof.Machine

/-- The newest frame in the receive silo (R48). -/
def Line.newest (l : Line) : Noted :=
  match l.silo.getLast? with
  | none => .siloEmpty
  | some h => .upTo h.order

/-- The own SHED that waits for the line: queued, and no attempt of it in progress (R60, log 35). -/
def Line.waitingShed (l : Line) : Option Nat :=
  (l.queue.find? (fun e => e.isShed && !e.sending)).map Entry.entryOrder

/-- CONTEST_TIMER_EXPIRY (R48, R60). -/
def execContestTimerExpiry (s : State) : Host.Outcome State Fault Refusal :=
  .next (if s.headroom.claim == .contest && due s.time s.headroom.contestTimer then
      s.setHeadroom { s.headroom with
        contestTimer := none, note := some s.line.newest, lateShed := s.line.waitingShed }
    else s)

/-- Every frame up to the noted one has been handed on (R48). -/
def Line.handedOn (l : Line) : Noted → Bool
  | .siloEmpty => true
  | .upTo order => !l.silo.any (fun h => h.order == order)

/-- The contest is granted (R48). -/
def State.contestFits (s : State) (own : Word) (amount : Nat) : Bool :=
  decide (contestSum own s.headroom.peers + amount ≤ s.config.headroom) && !s.headroom.suspect && !s.headroom.denial

/-- A grant: HOLD(A) offered, HOLDING, the hold-stale timer from the winning ASK, and the engine told (R49). -/
def State.grantContest (s : State) (amount : Nat) : State :=
  let u := s.headroom
  let stale := u.askCompleted.map fun t =>
    later t (Config.stalePeriods * s.config.refreshPeriod * Config.unitsPer100ms)
  ((s.setHeadroom { u with
      claim := .holding, held := amount, denial := false, own := none, askCompleted := none, note := none
      lateShed := none, yields := 0, contestTimer := none, staleTimer := stale }).offerClaim .hold amount amount).granted false

/-- The wait of a yield, in ms (R50). -/
def backoffMs (c : ConfigRecord) (own : Address) (yields : Nat) : Nat :=
  c.backoffBase * 2 ^ min yields Config.backoffDoublings + own.toNat % 8 * (c.backoffBase / 8)

/-- A yield: DROP(H) offered and BACKOFF entered (R50); the engine, told yielded, writes nothing (R129). -/
def State.yieldContest (s : State) : State :=
  let u := s.headroom
  (s.setHeadroom { u with
      claim := .backoff, denial := false, own := none, askCompleted := none, note := none, lateShed := none
      contestTimer := none
      yields := countUp u.yields 1
      backoffTimer := some (later s.time (backoffMs s.config s.address u.yields * Config.unitsPerMs))
      }).offerClaim .drop u.held u.held

/-- CONTEST_DECISION (R48), once the noted frames have been handed on. -/
def execContestDecision (s : State) : Host.Outcome State Fault Refusal :=
  .next (match s.headroom.claim, s.headroom.note, s.headroom.own, s.headroom.need with
    | .contest, some noted, some own, some need =>
      if s.line.handedOn noted then
        (if s.contestFits own need.amount then s.grantContest need.amount else s.yieldContest)
      else s
    | _, _, _, _ => s)

/-- BACKOFF_TIMER_EXPIRY (R51). -/
def execBackoffTimerExpiry (s : State) : Host.Outcome State Fault Refusal :=
  .next (match s.headroom.claim, s.headroom.need with
    | .backoff, some need =>
      if due s.time s.headroom.backoffTimer then
        (s.setHeadroom { s.headroom with claim := .askQueued, backoffTimer := none }).offerClaim .ask s.headroom.held
          need.amount
      else s
    | _, _ => s)

/-- REFRESH_TIMER_EXPIRY (R52). -/
def execRefreshTimerExpiry (s : State) : Host.Outcome State Fault Refusal :=
  .next (if s.headroom.claim == .holding && due s.time s.headroom.refreshTimer then
      (s.setHeadroom { s.headroom with refreshTimer := none }).offerClaim .hold s.headroom.held s.headroom.held
    else s)

/-- HOLD_STALE_TIMER_EXPIRY (R53). -/
def execHoldStaleTimerExpiry (s : State) : Host.Outcome State Fault Refusal :=
  .next (if s.headroom.claim == .holding && due s.time s.headroom.staleTimer then
      (s.setHeadroom { s.headroom with staleTimer := none }).orderAbort .holdStale
    else s)

/-- PEER_ENTRY_EXPIRY (R40) of the entry of an address. -/
def execPeerEntryExpiry (address : Address) (s : State) : Host.Outcome State Fault Refusal :=
  .next (match peerAt address s.headroom.peers with
    | none => s
    | some e =>
      if s.station.builds && reached s.time e.expiry then
        s.setHeadroom { s.headroom with
          peers := removePeer address s.headroom.peers, aged := countUp s.headroom.aged 1 }
      else s)

/-- RE_LISTEN_TIMER_EXPIRY (R41). -/
def execReListenTimerExpiry (s : State) : Host.Outcome State Fault Refusal :=
  .next (if due s.time s.headroom.reListen then
      s.setHeadroom { s.headroom with reListen := none, suspect := false }
    else s)

end Sys2Proof.Machine
end

