-- ==== Sys2Proof/Machine/LineEvents.lean ====
section
/-!
DEFINITION. The commands of the bay line (spec/02): a frame of the part sent, lost or in collision, a frame heard, and
the line judged idle.
-/

namespace Sys2Proof.Machine

/-! ### Sending (R18 to R23) -/

/-- TRANSMIT_START (R18): on an idle line the queue's head begins, with its start bit at this station time. -/
def execTransmitStart (s : State) : Host.Outcome State Fault Refusal :=
  .next (match s.line.judgement, s.line.queue with
    | .idle, e :: _ =>
      if s.station.connected then
        s.setLine { s.line with
          judgement := .sending s.time, driving := e.frame.coded, queue := startHead s.line.queue }
      else s
    | _, _ => s)

/-- The attempt in progress: the start bit's station time and the entry. -/
def Line.attempt (l : Line) : Option (Word × Entry) :=
  match l.judgement, l.sendingEntry with
  | .sending start, some e => some (start, e)
  | _, _ => none

/-- The line unit when its own frame completes: order number, no collision count, the entry gone, the line busy until
the next idle (R20, R22, R23). -/
def Line.completed (e : Entry) (l : Line) : Line :=
  { l.dropEntries (fun x => x.entryOrder == e.entryOrder) with
    judgement := .busy, driving := [], order := l.order + 1, collisions := 0, collided := none }

/-- A waiting CLAIM accepted once the sending one has been reported completed (R25). -/
def Line.admitWaiting (l : Line) : Line :=
  match l.waiting with
  | none => l
  | some w => Line.accept .headroom { l with waiting := none } w

/-- The completion report to the block that queued the frame (R23). -/
def State.reportCompleted (s : State) (e : Entry) (order : Word) : State :=
  if e.isClaim then
    let s1 := s.claimCompleted e.frame.kind order s.line.waiting.isNone
    s1.setLine s1.line.admitWaiting
  else if e.isShed then s.ownShed e order
  else s.replyCompleted e

/-- FRAME_SENT (R23). -/
def execFrameSent (s : State) : Host.Outcome State Fault Refusal :=
  .next (match s.line.attempt with
    | none => s
    | some (_, e) =>
      (s.setLine (s.line.completed e)).reportCompleted e (s.line.order + 1))

/-- The report of a REPLY removed because its attempt failed after a BAY_RESET (R28). -/
def State.reportFailed (s : State) (e : Entry) : State := if e.removing then s.replyRemoved e else s

/-- ARBITRATION_LOST (R18): the part stops driving and receives the frame in progress, stamped from the start bit. -/
def execArbitrationLost (s : State) : Host.Outcome State Fault Refusal :=
  .next (match s.line.attempt with
    | none => s
    | some (start, e) =>
      (s.setLine { s.line.attemptFailed e with judgement := .receiving start, driving := [] }).reportFailed e)

/-- The collision count after a send collision of an entry (R20). -/
def Line.countCollision (e : Entry) (l : Line) : Line :=
  { l with
    collisions := if l.collided == some e.entryOrder then l.collisions + 1 else 1
    collided := some e.entryOrder }

/-- SEND_COLLISION (R19, R20): an abort run, and the third collision of one frame silences the part (R13), also a frame
that a waiting CLAIM would replace (R25) or that BAY_RESET marked for removal (R28): the collision is counted first
(log 21). -/
def execSendCollision (s : State) : Host.Outcome State Fault Refusal :=
  .next (match s.line.attempt with
    | none => s
    | some (_, e) =>
      let l := s.line.countCollision e
      if Config.collisionLimit ≤ l.collisions then (s.setLine l).silence
      else
        (s.setLine { l.attemptFailed e with
          judgement := .busy, driving := List.replicate Config.abortRunBits false }).reportFailed e)

/-! ### Hearing (R21, R22, R29 to R31) -/

/-- The stamp of a frame that may be heard now: the part's own start bit after a lost arbitration, or the start bit
read on an idle line. No frame is taken from a line that is busy until its next idle (R17, R22). -/
def State.hearing (s : State) (stamp : Word) : Option Word :=
  if s.station.connected then
    match s.line.judgement with
    | .idle => some stamp
    | .receiving start => some start
    | .apart | .looped | .busy | .sending _ => none
  else none

/-- What R30 does with a valid frame. -/
inductive Filter where
  | enters | counted | discarded
  deriving DecidableEq, Repr

/-- The test of each class (R30). -/
def filterFrame (own : Address) (f : Frame) : Filter :=
  match f.cls.toNat with
  | 0 => .enters
  | 1 => if isBay f.source && f.source != own then .enters else .counted
  | 2 =>
    if f.target == own then .enters
    else if f.target == Config.allStations then
      (if f.kind.toNat == 2 || f.kind.toNat == 5 || f.kind.toNat == 8 then .enters else .counted)
    else .discarded
  | 3 => .discarded
  | _ => .counted

/-- The line unit at the completion of a frame it heard (R20, R22). -/
def Line.heard (l : Line) : Line :=
  { l with judgement := .busy, order := l.order + 1, collisions := 0, collided := none }

/-- A frame that passes R30: into the silo, or an overrun that makes the peer view SUSPECT (R31, R41). -/
def State.siloFrame (s : State) (h : Heard) : State :=
  let s1 := s.setLine (s.line.intoSilo h)
  if s.line.silo.length < Config.siloPlaces then s1 else s1.markSuspect

/-- A valid frame heard (R22, R30). -/
def State.hearFrame (s : State) (f : Frame) (stamp : Word) : State :=
  let s1 := s.setLine s.line.heard
  match filterFrame s.address f with
  | .enters => s1.siloFrame { frame := f, stamp := stamp, order := s1.line.order }
  | .counted => s1.setLine { s1.line with foreign := countUp s1.line.foreign 1 }
  | .discarded => s1

/-- FRAME_RECEIVED (R30): the bits heard spell a valid frame. -/
def execFrameReceived (stamp : Word) (bits : List Bool) (s : State) : Host.Outcome State Fault Refusal :=
  .next (match s.hearing stamp, readBits bits with
    | some start, .valid f => s.hearFrame f start
    | _, _ => s)

/-- The bits heard are those of a frame received in error (R29). -/
def Reading.isError : Reading → Bool
  | .inError | .incomplete => true
  | .valid _ | .abortRun | .notOneFrame => false

/-- RECEIVED_IN_ERROR (R29, R41). -/
def execReceivedInError (bits : List Bool) (s : State) : Host.Outcome State Fault Refusal :=
  .next (match s.hearing 0 with
    | none => s
    | some _ =>
      if (readBits bits).isError then
        (s.setLine { s.line with
          judgement := .busy, receiveErrors := countUp s.line.receiveErrors 1 }).markSuspect
      else s)

/-- ABORT_RUN_SEEN (R21): the frame in progress is discarded and counted nowhere. -/
def execAbortRunSeen (s : State) : Host.Outcome State Fault Refusal :=
  .next (match s.hearing 0 with
    | none => s
    | some _ => s.setLine { s.line with judgement := .busy })

/-- LINE_IDLE (R17). -/
def execLineIdle (s : State) : Host.Outcome State Fault Refusal :=
  .next (if s.station.connected && s.line.judgement == .busy then
      s.setLine { s.line with judgement := .idle, driving := [] }
    else s)

end Sys2Proof.Machine
end

