-- ==== Sys2Proof/Machine/PortEvents.lean ====
section
/-!
DEFINITION. The commands of the instrument port (spec/06): sample sets and their watchdog, the writes to the load
stage and their answers, and the emergency-stop input.
-/

namespace Sys2Proof.Machine

/-! ### Reads (R108 to R112, R121) -/

/-- SAMPLE_READ_BEGIN (R112): a ready set is read when the path is free, and is otherwise held until it is. The converter
holds one set: a further one that becomes ready meanwhile is absorbed, and one read follows (log 14). -/
def execSampleReadBegin (s : State) : Host.Outcome State Fault Refusal :=
  .next (if s.port.path == .free then s.setPort { s.port with path := .reading }
    else s.setPort { s.port with readWaiting := true })

/-- The path at the end of a transaction: a waiting read goes before a waiting write (R112). -/
def Port.endTransaction (p : Port) : Port :=
  { p with path := if p.readWaiting then .reading else .free, readWaiting := false }

/-- The confirmed-open flag after a set (R121). -/
def Port.confirms (p : Port) (x : SampleSet) : Bool :=
  if x.powerGood then false else if p.commandedClosed then p.confirmedOpen else true

/-- The port takes a set in: stamp, last set, present mark, watchdog, confirmed-open flag and the path (R108, R111,
R112, R121). -/
def State.takeSet (s : State) (x : SampleSet) : State :=
  let p := s.port.endTransaction
  s.setPort { p with
    last := some { set := x, stamp := s.time }, samplesPresent := true, confirmedOpen := p.confirms x
    watchdog := if s.station.builds then some (later s.time Config.watchdogUnits) else p.watchdog }

/-- A set is offered to the guard unit, the check engine and the headroom unit; the first two in the order the command
names (R108, R181, log 11). -/
def State.offerSet (s : State) (x : SampleSet) (order : SetOrder) : State :=
  match order with
  | .guardFirst => ((s.guardSet x).engineSet x).headroomSet x
  | .engineFirst => ((s.engineSet x).guardSet x).headroomSet x

/-- SAMPLE_SET_ARRIVAL (R108), at the end of its read. A contactor newly confirmed open is reported to the headroom unit
before the set is offered to the blocks; the spec gives no order (R121, log 37). -/
def execSampleSetArrival (reported : ReportedSet) (order : SetOrder) (s : State) : Host.Outcome State Fault Refusal :=
  .next (if s.port.path == .reading && reported.fits then
      let s1 := s.takeSet reported.taken
      let s2 := if s1.port.confirmedOpen && !s.port.confirmedOpen then s1.portReport else s1
      s2.offerSet reported.taken order
    else s)

/-- SAMPLE_WATCHDOG_EXPIRY (R111). -/
def execSampleWatchdogExpiry (s : State) : Host.Outcome State Fault Refusal :=
  .next (if s.station.builds && due s.time s.port.watchdog then
      (s.setPort { s.port with watchdog := none, samplesPresent := false }).latchFault .samplesLost
    else s)

/-! ### Writes (R112, R116) -/

/-- A write may begin: PENDING holds a setpoint, ON_PORT is empty, the path is free and the station state writes (R112,
R123). -/
def State.mayWrite (s : State) : Bool :=
  s.station.writes && s.port.pending.isSome && s.port.onPort.isNone && s.port.path == .free && !s.port.readWaiting

/-- The value sent: limited to the smaller of the check ceiling and the effective guard current (R116). -/
def State.limited (s : State) (sp : Setpoint) : Setpoint :=
  { sp with value := min sp.value (min s.port.ceiling s.effectiveCurrent) }

/-- WRITE_BEGIN (R116). -/
def execWriteBegin (s : State) : Host.Outcome State Fault Refusal :=
  .next (match s.port.pending with
    | none => s
    | some sp =>
      if s.mayWrite then
        s.setPort { s.port with
          pending := none, onPort := some { setpoint := s.limited sp, unanswered := false }, path := .writing }
      else s)

/-- WRITE_END (R116): the acknowledgement timer runs for a setpoint that is still ON_PORT. -/
def execWriteEnd (s : State) : Host.Outcome State Fault Refusal :=
  .next (if s.port.path == .writing then
      let p := s.port.endTransaction
      s.setPort { p with
        ackTimer := if p.onPort.isSome then some (later s.time (s.config.ackTimeout * Config.unitsPerMs))
          else p.ackTimer }
    else s)

/-! ### Answers (R117 to R119) -/

/-- A matching answer: applied setpoint, then the reports to the engine and to the headroom unit (R117). -/
def State.answerMatches (s : State) (sp : Setpoint) : State :=
  ((s.setPort { s.port with applied := sp.value }).engineAcknowledged sp).portReport

/-- A mismatch: the fault to the guard unit, then the report to the engine, whose wait ends when the drop it was waiting
for is the one answered (R118, R139, log 12). -/
def State.answerDiffers (s : State) (sp : Setpoint) : State :=
  let s1 := s.latchFault .loadStageMismatch
  if sp.drop && s.engine.phase == .aborting && s1.engine.phase == .aborting then s1.finishAbort true else s1

/-- SETPOINT_ACKNOWLEDGEMENT (R117, R118, R119). A late answer to an unanswered setpoint empties ON_PORT and so ends the
unanswered state at once, as R119 says; the worked example of the chapter ends it later (log 38). -/
def execSetpointAcknowledgement (value : Nat) (s : State) : Host.Outcome State Fault Refusal :=
  .next (match s.port.onPort with
    | none => s.latchFault .loadStageMismatch
    | some o =>
      let s1 := s.setPort { s.port with onPort := none, ackTimer := none }
      if value == o.setpoint.value then s1.answerMatches o.setpoint else s1.answerDiffers o.setpoint)

/-- ACKNOWLEDGEMENT_TIMER_EXPIRY (R119). -/
def execAcknowledgementTimerExpiry (s : State) : Host.Outcome State Fault Refusal :=
  .next (match s.port.onPort with
    | none => s
    | some o =>
      if due s.time s.port.ackTimer then
        (s.setPort { s.port with ackTimer := none, onPort := some { o with unanswered := true } }).latchFault
          .loadStageSilent
      else s)

/-! ### The emergency-stop input (R122, R182) -/

/-- EMERGENCY_STOP_CHANGE (R122, R182): a change to asserted latches ESTOP, a change to clear latches nothing. -/
def execEmergencyStopChange (asserted : Bool) (s : State) : Host.Outcome State Fault Refusal :=
  .next (if asserted == s.port.estop then s
    else
      let s1 := s.setPort { s.port with estop := asserted }
      if asserted then s1.latchFault .estop else s1)

end Sys2Proof.Machine
end

