-- ==== Sys2Proof/Machine/SlotRequests.lean ====
section
/-!
DEFINITION. The requests on slots as the line unit hands them on (spec/04): OPEN, PART, CANCEL, CLEAR, FETCH, STATUS,
and the expiry of an assembly deadline (R63 to R83).
-/

namespace Sys2Proof.Machine

/-! ### OPEN (R67) -/

/-- The parts count suits the kind (R67 test 5). -/
def CheckKind.admitsParts : CheckKind → Nat → Bool
  | .tripRamp, n | .tripTime, n => n == 3
  | .derate, n => decide (5 ≤ n) && decide (n ≤ 12)

/-- The tests of R67 in their order: the reason of the first that fails. -/
def State.openFails (s : State) (n : Fin 8) (f : Frame) : Option Reason :=
  if s.station == .degraded then some .notReady
  else if s.slotTable.slot n != .vacant then some .slotBusy
  else
    match CheckKind.ofCode (byteAt f.payload 1) with
    | none => some .badKind
    | some kind =>
      if 3 < byteAt f.payload 2 then some .badParam
      else if kind.admitsParts (byteAt f.payload 3) then none
      else some .badParam

/-- The slot an accepted OPEN begins (R62, R67). -/
def openedSlot (h : Heard) (kind : CheckKind) (arrival : Half) : Slot :=
  .assembling { owner := h.frame.source, kind := kind, priority := byteAt h.frame.payload 2, arrival := arrival }
    (byteAt h.frame.payload 3) [] (later h.stamp Config.assemblyUnits)

/-- An OPEN handed on (R63, R67). -/
def State.takeOpen (s : State) (h : Heard) : State :=
  match s.requestFails h.frame with
  | some r => s.refuse .slotTable h.frame r detailRequest
  | none =>
    match requestSlot h.frame with
    | none => s.refuse .slotTable h.frame .badParam detailRequest
    | some n =>
      match s.openFails n h.frame, CheckKind.ofCode (byteAt h.frame.payload 1) with
      | none, some kind =>
        let arrival := s.slotTable.arrival + 1
        s.setSlotTable { s.slotTable.put n (openedSlot h kind arrival) with arrival := arrival }
      | some r, _ => s.refuse .slotTable h.frame r detailRequest
      | none, none => s.refuse .slotTable h.frame .badKind detailRequest

/-- OPEN (R67). -/
def execOpen (s : State) : Host.Outcome State Fault Refusal :=
  .next (match s.handOn 2 0 with
    | none => s
    | some (h, s1) => s1.takeOpen h)

/-! ### PART (R68 to R70, R73) -/

/-- Validation of a fully assembled slot: HELD, queued, answered and the start conditions examined, or refused and
vacated (R73, R74, R75). -/
def State.validateSlot (s : State) (f : Frame) (n : Fin 8) (head : SlotHead) (parts : List (List Byte)) : State :=
  match validate s.config s.effectiveCurrent head.kind parts with
  | .refused reason detail => (s.vacate n).refuse .slotTable f reason detail
  | .held work =>
    let t := s.slotTable.put n (.held head work)
    let s1 := s.setSlotTable { t with queue := enqueueSlot (t.precedes s.config.startOrder) n t.queue }
    (s1.replySlot f.source n).examineStart

/-- A PART from the slot's owner: stored in order, or breaking the assembly (R68, R69). -/
def State.takeOwnPart (s : State) (f : Frame) (n : Fin 8) (head : SlotHead) (expected : Nat) (parts : List (List Byte))
    (deadline : Word) : State :=
  if byteAt f.payload 1 == parts.length then
    let stored := parts ++ [f.payload.drop 2]
    if stored.length < expected then s.putSlot n (.assembling head expected stored deadline)
    else s.validateSlot f n head stored
  else (s.vacate n).refuse .slotTable f .assemblyBroken parts.length

/-- A PART handed on (R63, R68, R70). -/
def State.takePart (s : State) (f : Frame) : State :=
  match s.requestFails f with
  | some r => s.refuse .slotTable f r detailRequest
  | none =>
    match requestSlot f with
    | none => s.refuse .slotTable f .badParam detailRequest
    | some n =>
      match s.slotTable.slot n with
      | .vacant => s.refuse .slotTable f .nothingToDo detailRequest
      | .assembling head expected parts deadline =>
        if head.owner == f.source then s.takeOwnPart f n head expected parts deadline
        else s.refuse .slotTable f .slotBusy detailRequest
      | .held _ _ | .active _ _ | .done _ _ _ _ => s.refuse .slotTable f .slotBusy detailRequest

/-- PART (R68). -/
def execPart (s : State) : Host.Outcome State Fault Refusal :=
  .next (match s.handOn 2 1 with
    | none => s
    | some (h, s1) => s1.takePart h.frame)

/-! ### CANCEL (R72, R77 to R79) -/

/-- A SLOT_REPLY to a request addressed to the part; none at target 63 (R64). -/
def State.answerSlot (s : State) (f : Frame) (n : Fin 8) : State :=
  if f.target == Config.allStations then s else s.replySlot f.source n

/-- A CANCEL of one slot (R72, R77, R78, R79). -/
def State.cancelSlot (s : State) (f : Frame) (n : Fin 8) : State :=
  match s.slotTable.slot n with
  | .vacant | .done _ _ _ _ => s.refuse .slotTable f .nothingToDo detailRequest
  | .assembling head _ _ _ =>
    if head.owner == f.source then (s.vacate n).answerSlot f n
    else s.refuse .slotTable f .slotBusy detailRequest
  | .held _ _ => (s.vacate n).answerSlot f n
  | .active _ _ => (s.orderAbort .cancelled).answerSlot f n

/-- A CANCEL for all slots vacates every HELD slot and cancels the ACTIVE one (R64, R79). -/
def State.cancelAll (s : State) : State :=
  let s1 := s.setSlotTable
    { s.slotTable with slots := s.slotTable.slots.map (fun x => if x.isHeld then .vacant else x), queue := [] }
  if s.slotTable.slots.any Slot.isActive then s1.orderAbort .cancelled else s1

/-- A CANCEL handed on (R63, R64). -/
def State.takeCancel (s : State) (f : Frame) : State :=
  match s.requestFails f with
  | some r => s.refuse .slotTable f r detailRequest
  | none =>
    match requestSlot f with
    | some n => s.cancelSlot f n
    | none =>
      if f.target == Config.allStations && byteAt f.payload 0 == Config.allSlots then s.cancelAll
      else s.refuse .slotTable f .badParam detailRequest

/-- CANCEL (R77). -/
def execCancel (s : State) : Host.Outcome State Fault Refusal :=
  .next (match s.handOn 2 2 with
    | none => s
    | some (h, s1) => s1.takeCancel h.frame)

/-! ### CLEAR, FETCH, STATUS (R65, R80 to R82) -/

/-- A CLEAR handed on (R63, R80). -/
def State.takeClear (s : State) (f : Frame) : State :=
  match s.requestFails f with
  | some r => s.refuse .slotTable f r detailRequest
  | none =>
    match requestSlot f with
    | none => s.refuse .slotTable f .badParam detailRequest
    | some n =>
      match s.slotTable.slot n with
      | .vacant | .held _ _ | .active _ _ => s.refuse .slotTable f .nothingToDo detailRequest
      | .assembling _ _ _ _ => s.refuse .slotTable f .slotBusy detailRequest
      | .done _ _ _ (some _) => s.refuse .slotTable f .slotLocked detailRequest
      | .done _ _ _ none => (s.vacate n).replySlot f.source n

/-- CLEAR (R80). -/
def execClear (s : State) : Host.Outcome State Fault Refusal :=
  .next (match s.handOn 2 3 with
    | none => s
    | some (h, s1) => s1.takeClear h.frame)

/-- The RESULT group of an unlocked DONE slot, offered; the lock is set if the group is accepted (R82). -/
def State.fetchResult (s : State) (f : Frame) (n : Fin 8) (h : SlotHead) (w : Work) (r : ResultRecord) : State :=
  let s1 := s.offerReplies .slotTable (s.resultGroup f.source n h w r)
  if s.station.connected && s.line.admits 4 then s1.putSlot n (.done h w r (some s.line.nextEntry)) else s1

/-- A FETCH handed on (R63, R81, R82). -/
def State.takeFetch (s : State) (f : Frame) : State :=
  match s.requestFails f with
  | some r => s.refuse .slotTable f r detailRequest
  | none =>
    match requestSlot f with
    | none => s.refuse .slotTable f .badParam detailRequest
    | some n =>
      match s.slotTable.slot n with
      | .vacant | .assembling _ _ _ _ | .held _ _ | .active _ _ => s.replySlot f.source n
      | .done _ _ _ (some _) => s.refuse .slotTable f .slotLocked detailRequest
      | .done h w r none => s.fetchResult f n h w r

/-- FETCH (R82). -/
def execFetch (s : State) : Host.Outcome State Fault Refusal :=
  .next (match s.handOn 2 4 with
    | none => s
    | some (h, s1) => s1.takeFetch h.frame)

/-- A STATUS handed on (R63, R64, R65). -/
def State.takeStatus (s : State) (f : Frame) : State :=
  match s.requestFails f with
  | some r => s.refuse .slotTable f r detailRequest
  | none => s.replyStatus .slotTable f.source

/-- STATUS (R65). -/
def execStatus (s : State) : Host.Outcome State Fault Refusal :=
  .next (match s.handOn 2 5 with
    | none => s
    | some (h, s1) => s1.takeStatus h.frame)

/-! ### ASSEMBLY_DEADLINE_EXPIRY (R71) -/

/-- The REFUSE that ends an assembly by its deadline (R71, R93). -/
def State.deadlineRefuse (s : State) (n : Fin 8) (owner : Address) : Frame :=
  s.refuseFrame owner 0 n.val .assemblyBroken detailTimeout

/-- ASSEMBLY_DEADLINE_EXPIRY of a slot (R71). -/
def execAssemblyDeadlineExpiry (slot : Fin 8) (s : State) : Host.Outcome State Fault Refusal :=
  .next (match s.slotTable.slot slot with
    | .assembling head _ _ deadline =>
      if reached s.time deadline then
        (s.vacate slot).offerReplies .slotTable [s.deadlineRefuse slot head.owner]
      else s
    | .vacant | .held _ _ | .active _ _ | .done _ _ _ _ => s)

end Sys2Proof.Machine
end

