-- ==== Sys2Proof/Machine/StartUpEvents.lean ====
section
/-!
DEFINITION. The commands of the station timer and the start-up controller (spec/01): POWER_RESET, STATION_TIME_TICK,
the configuration read, the self-loop test and the join timer.
-/

namespace Sys2Proof.Machine

/-- The configuration read that LOADING begins with a bay address (R5). -/
def ConfigRead.begun (now : Word) : ConfigRead :=
  { device := Config.configDevice, offset := Config.configOffset, count := Config.configLength,
    due := later now Config.configReadUnits }

/-- LOADING takes the strap address: a bay address begins the configuration read, any other enters OFF_LINE (R4). -/
def State.takeStraps (s : State) (straps : Address) : State :=
  if isBay straps then
    s.setStartup { s.startup with address := some straps, configRead := some (ConfigRead.begun s.time) }
  else (s.setStartup { s.startup with address := some straps }).goOffLine .strapInvalid

/-- POWER_RESET (R1, R3, R4, R122, R182): every block at its power reset values, the straps read, and an input that is
already asserted latched as ESTOP. -/
def execPowerReset (straps : Address) (s : State) : Host.Outcome State Fault Refusal :=
  let s1 := (State.atPowerReset s.pending s.port.estop).takeStraps straps
  .next (if s.port.estop then s1.latchFault .estop else s1)

/-- STATION_TIME_TICK (R1). -/
def execStationTimeTick (s : State) : Host.Outcome State Fault Refusal := .next (s.setTime (s.time + 1))

/-! ### The configuration record (R5 to R8) -/

/-- A configuration read is in progress in LOADING. -/
def State.readingConfig (s : State) : Bool := s.station == .loading && s.startup.configRead.isSome

/-- The instant by which the configuration read is to be complete (R5). -/
def State.configDue (s : State) : Timer := s.startup.configRead.map ConfigRead.due

/-- DEGRADED is entered with a station fault and the record absent; the line unit takes up the line, busy until its
first idle (R5, R6, R12, R17, R34). -/
def State.degrade (s : State) (fault : StationFault) : State :=
  (s.setStartup { s.startup with
    station := .degraded, fault := some fault, config := none, configRead := none }).setLine
    { s.line with judgement := .busy }

/-- The clamped record is taken into use and SELF_LOOP is entered: effective limits, and the test frame sent into the
loop (R7, R8, R9, R179). -/
def State.takeConfig (s : State) (record : List Byte) : State :=
  let c := clampRecord record
  ((s.setStartup { s.startup with
      station := .selfLoop, config := some c.1, clampCount := c.2, configRead := none
      loopTimer := some (later s.time Config.selfLoopUnits) }).setLine
    { s.line with judgement := .looped, driving := (testFrame s.address).coded }).setGuardUnit
    { s.guardUnit with effective := some c.1.limits }

/-- CONFIG_READ_COMPLETE (R5, R6): a transfer that is complete later than 50 ms after its start has failed. -/
def execConfigReadComplete (record : List Byte) (s : State) : Host.Outcome State Fault Refusal :=
  .next (if s.readingConfig && record.length == Config.configLength then
      (if overdue s.time s.configDue then s.degrade .configUnreadable
      else if recordAgrees record then s.takeConfig record else s.degrade .configBad)
    else s)

/-- CONFIG_READ_NOT_ACKNOWLEDGED (R5). -/
def execConfigReadNotAcknowledged (s : State) : Host.Outcome State Fault Refusal :=
  .next (if s.readingConfig then s.degrade .configUnreadable else s)

/-- CONFIG_READ_TIMEOUT (R5). -/
def execConfigReadTimeout (s : State) : Host.Outcome State Fault Refusal :=
  .next (if s.readingConfig && due s.time s.configDue then s.degrade .configUnreadable else s)

/-! ### The self-loop test and joining (R9, R10, R11) -/

/-- JOINING is entered: line taken up, join timer, watchdog, and the drop that is the first write of the part's life
(R10, R17, R111, R113). -/
def State.enterJoining (s : State) : State :=
  (((s.setStartup { s.startup with
      station := .joining, loopTimer := none, joinTimer := some (later s.time Config.joinUnits) }).setLine
    { s.line with judgement := .busy, driving := [] }).setPort
    { s.port with watchdog := some (later s.time Config.watchdogUnits) }).writeDrop

/-- LOOPED_FRAME_RECEIVED (R9): a frame that differs, or is back later than 10 ms after the send began, fails the
test. -/
def execLoopedFrameReceived (bits : List Bool) (s : State) : Host.Outcome State Fault Refusal :=
  .next (if s.station == .selfLoop then
      (if bits == (testFrame s.address).coded && !overdue s.time s.startup.loopTimer then s.enterJoining
      else s.goOffLine .loopFailed)
    else s)

/-- SELF_LOOP_TIMEOUT (R9). -/
def execSelfLoopTimeout (s : State) : Host.Outcome State Fault Refusal :=
  .next (if s.station == .selfLoop && due s.time s.startup.loopTimer then s.goOffLine .loopFailed else s)

/-- JOIN_TIMER_EXPIRY (R10, R11): ON_LINE is entered, the own claim moves to IDLE, and the start conditions are
examined. -/
def execJoinTimerExpiry (s : State) : Host.Outcome State Fault Refusal :=
  .next (if s.station == .joining && due s.time s.startup.joinTimer then
      ((s.setStartup { s.startup with station := .onLine, joinTimer := none }).setHeadroom
        { s.headroom with claim := .idle }).examineStart
    else s)

end Sys2Proof.Machine
end

