-- ==== Sys2Proof/Machine/Dispatch.lean ====
section
/-! DEFINITION. The meaning of every command: one arm for each row of the opcode table. -/

namespace Sys2Proof.Machine

def exec (i : Instr) (s : State) : Host.Outcome State Fault Refusal :=
  match i with
  | .powerReset straps => Sys2Proof.Machine.execPowerReset straps s
  | .stationTimeTick => Sys2Proof.Machine.execStationTimeTick s
  | .configReadComplete record => Sys2Proof.Machine.execConfigReadComplete record s
  | .configReadNotAcknowledged => Sys2Proof.Machine.execConfigReadNotAcknowledged s
  | .configReadTimeout => Sys2Proof.Machine.execConfigReadTimeout s
  | .loopedFrameReceived bits => Sys2Proof.Machine.execLoopedFrameReceived bits s
  | .selfLoopTimeout => Sys2Proof.Machine.execSelfLoopTimeout s
  | .joinTimerExpiry => Sys2Proof.Machine.execJoinTimerExpiry s
  | .transmitStart => Sys2Proof.Machine.execTransmitStart s
  | .frameSent => Sys2Proof.Machine.execFrameSent s
  | .arbitrationLost => Sys2Proof.Machine.execArbitrationLost s
  | .sendCollision => Sys2Proof.Machine.execSendCollision s
  | .frameReceived stamp bits => Sys2Proof.Machine.execFrameReceived stamp bits s
  | .receivedInError bits => Sys2Proof.Machine.execReceivedInError bits s
  | .abortRunSeen => Sys2Proof.Machine.execAbortRunSeen s
  | .shed => Sys2Proof.Machine.execShed s
  | .ask => Sys2Proof.Machine.execAsk s
  | .hold => Sys2Proof.Machine.execHold s
  | .drop => Sys2Proof.Machine.execDrop s
  | .openSlot => Sys2Proof.Machine.execOpen s
  | .part => Sys2Proof.Machine.execPart s
  | .cancel => Sys2Proof.Machine.execCancel s
  | .clear => Sys2Proof.Machine.execClear s
  | .fetch => Sys2Proof.Machine.execFetch s
  | .status => Sys2Proof.Machine.execStatus s
  | .tighten => Sys2Proof.Machine.execTighten s
  | .clearFault => Sys2Proof.Machine.execClearFault s
  | .bayReset => Sys2Proof.Machine.execBayReset s
  | .assemblyDeadlineExpiry slot => Sys2Proof.Machine.execAssemblyDeadlineExpiry slot s
  | .contestTimerExpiry => Sys2Proof.Machine.execContestTimerExpiry s
  | .contestDecision => Sys2Proof.Machine.execContestDecision s
  | .backoffTimerExpiry => Sys2Proof.Machine.execBackoffTimerExpiry s
  | .refreshTimerExpiry => Sys2Proof.Machine.execRefreshTimerExpiry s
  | .holdStaleTimerExpiry => Sys2Proof.Machine.execHoldStaleTimerExpiry s
  | .peerEntryExpiry address => Sys2Proof.Machine.execPeerEntryExpiry address s
  | .reListenTimerExpiry => Sys2Proof.Machine.execReListenTimerExpiry s
  | .sampleReadBegin => Sys2Proof.Machine.execSampleReadBegin s
  | .sampleSetArrival reported order => Sys2Proof.Machine.execSampleSetArrival reported order s
  | .sampleWatchdogExpiry => Sys2Proof.Machine.execSampleWatchdogExpiry s
  | .writeBegin => Sys2Proof.Machine.execWriteBegin s
  | .writeEnd => Sys2Proof.Machine.execWriteEnd s
  | .setpointAcknowledgement value => Sys2Proof.Machine.execSetpointAcknowledgement value s
  | .acknowledgementTimerExpiry => Sys2Proof.Machine.execAcknowledgementTimerExpiry s
  | .emergencyStopChange asserted => Sys2Proof.Machine.execEmergencyStopChange asserted s
  | .startWaitTimerExpiry => Sys2Proof.Machine.execStartWaitTimerExpiry s
  | .restTimerExpiry => Sys2Proof.Machine.execRestTimerExpiry s
  | .soakMaximumTimerExpiry => Sys2Proof.Machine.execSoakMaximumTimerExpiry s
  | .shedHoldTimerExpiry => Sys2Proof.Machine.execShedHoldTimerExpiry s
  | .timeOutTimerExpiry => Sys2Proof.Machine.execTimeOutTimerExpiry s
  | .offTimeTimerExpiry => Sys2Proof.Machine.execOffTimeTimerExpiry s
  | .recoverWaitTimerExpiry => Sys2Proof.Machine.execRecoverWaitTimerExpiry s
  | .lineIdle => Sys2Proof.Machine.execLineIdle s

end Sys2Proof.Machine
end

