-- ==== Sys2Proof/Laws/State.lean ====
section
/-!
SUPPORT. One lemma for each field of State under each setter, true by rfl, and the setters over one another; no later
proof unfolds a record update of State.
-/

namespace Sys2Proof.Machine

section

variable (s : State) (b : Word)

@[simp] theorem State.setTime_pending : (s.setTime b).pending = s.pending := rfl
@[simp] theorem State.setTime_time : (s.setTime b).time = b := rfl
@[simp] theorem State.setTime_startup : (s.setTime b).startup = s.startup := rfl
@[simp] theorem State.setTime_line : (s.setTime b).line = s.line := rfl
@[simp] theorem State.setTime_headroom : (s.setTime b).headroom = s.headroom := rfl
@[simp] theorem State.setTime_slotTable : (s.setTime b).slotTable = s.slotTable := rfl
@[simp] theorem State.setTime_engine : (s.setTime b).engine = s.engine := rfl
@[simp] theorem State.setTime_port : (s.setTime b).port = s.port := rfl
@[simp] theorem State.setTime_guardUnit : (s.setTime b).guardUnit = s.guardUnit := rfl
@[simp] theorem State.setTime_setTime (c : Word) : (s.setTime b).setTime c = s.setTime c := rfl
@[simp] theorem State.setTime_station : (s.setTime b).station = s.station := rfl
@[simp] theorem State.setTime_address : (s.setTime b).address = s.address := rfl
@[simp] theorem State.setTime_config : (s.setTime b).config = s.config := rfl
@[simp] theorem State.setTime_effectiveCurrent : (s.setTime b).effectiveCurrent = s.effectiveCurrent := rfl

end

section

variable (s : State) (b : StartUp)

@[simp] theorem State.setStartup_pending : (s.setStartup b).pending = s.pending := rfl
@[simp] theorem State.setStartup_time : (s.setStartup b).time = s.time := rfl
@[simp] theorem State.setStartup_startup : (s.setStartup b).startup = b := rfl
@[simp] theorem State.setStartup_line : (s.setStartup b).line = s.line := rfl
@[simp] theorem State.setStartup_headroom : (s.setStartup b).headroom = s.headroom := rfl
@[simp] theorem State.setStartup_slotTable : (s.setStartup b).slotTable = s.slotTable := rfl
@[simp] theorem State.setStartup_engine : (s.setStartup b).engine = s.engine := rfl
@[simp] theorem State.setStartup_port : (s.setStartup b).port = s.port := rfl
@[simp] theorem State.setStartup_guardUnit : (s.setStartup b).guardUnit = s.guardUnit := rfl
@[simp] theorem State.setStartup_setStartup (c : StartUp) : (s.setStartup b).setStartup c = s.setStartup c := rfl
@[simp] theorem State.setStartup_station : (s.setStartup b).station = b.station := rfl

end

section

variable (s : State) (b : Line)

@[simp] theorem State.setLine_pending : (s.setLine b).pending = s.pending := rfl
@[simp] theorem State.setLine_time : (s.setLine b).time = s.time := rfl
@[simp] theorem State.setLine_startup : (s.setLine b).startup = s.startup := rfl
@[simp] theorem State.setLine_line : (s.setLine b).line = b := rfl
@[simp] theorem State.setLine_headroom : (s.setLine b).headroom = s.headroom := rfl
@[simp] theorem State.setLine_slotTable : (s.setLine b).slotTable = s.slotTable := rfl
@[simp] theorem State.setLine_engine : (s.setLine b).engine = s.engine := rfl
@[simp] theorem State.setLine_port : (s.setLine b).port = s.port := rfl
@[simp] theorem State.setLine_guardUnit : (s.setLine b).guardUnit = s.guardUnit := rfl
@[simp] theorem State.setLine_setLine (c : Line) : (s.setLine b).setLine c = s.setLine c := rfl
@[simp] theorem State.setLine_station : (s.setLine b).station = s.station := rfl
@[simp] theorem State.setLine_address : (s.setLine b).address = s.address := rfl
@[simp] theorem State.setLine_config : (s.setLine b).config = s.config := rfl
@[simp] theorem State.setLine_effectiveCurrent : (s.setLine b).effectiveCurrent = s.effectiveCurrent := rfl

end

section

variable (s : State) (b : Headroom)

@[simp] theorem State.setHeadroom_pending : (s.setHeadroom b).pending = s.pending := rfl
@[simp] theorem State.setHeadroom_time : (s.setHeadroom b).time = s.time := rfl
@[simp] theorem State.setHeadroom_startup : (s.setHeadroom b).startup = s.startup := rfl
@[simp] theorem State.setHeadroom_line : (s.setHeadroom b).line = s.line := rfl
@[simp] theorem State.setHeadroom_headroom : (s.setHeadroom b).headroom = b := rfl
@[simp] theorem State.setHeadroom_slotTable : (s.setHeadroom b).slotTable = s.slotTable := rfl
@[simp] theorem State.setHeadroom_engine : (s.setHeadroom b).engine = s.engine := rfl
@[simp] theorem State.setHeadroom_port : (s.setHeadroom b).port = s.port := rfl
@[simp] theorem State.setHeadroom_guardUnit : (s.setHeadroom b).guardUnit = s.guardUnit := rfl
@[simp] theorem State.setHeadroom_setHeadroom (c : Headroom) : (s.setHeadroom b).setHeadroom c = s.setHeadroom c := rfl
@[simp] theorem State.setHeadroom_station : (s.setHeadroom b).station = s.station := rfl
@[simp] theorem State.setHeadroom_address : (s.setHeadroom b).address = s.address := rfl
@[simp] theorem State.setHeadroom_config : (s.setHeadroom b).config = s.config := rfl
@[simp] theorem State.setHeadroom_effectiveCurrent : (s.setHeadroom b).effectiveCurrent = s.effectiveCurrent := rfl

end

section

variable (s : State) (b : SlotTable)

@[simp] theorem State.setSlotTable_pending : (s.setSlotTable b).pending = s.pending := rfl
@[simp] theorem State.setSlotTable_time : (s.setSlotTable b).time = s.time := rfl
@[simp] theorem State.setSlotTable_startup : (s.setSlotTable b).startup = s.startup := rfl
@[simp] theorem State.setSlotTable_line : (s.setSlotTable b).line = s.line := rfl
@[simp] theorem State.setSlotTable_headroom : (s.setSlotTable b).headroom = s.headroom := rfl
@[simp] theorem State.setSlotTable_slotTable : (s.setSlotTable b).slotTable = b := rfl
@[simp] theorem State.setSlotTable_engine : (s.setSlotTable b).engine = s.engine := rfl
@[simp] theorem State.setSlotTable_port : (s.setSlotTable b).port = s.port := rfl
@[simp] theorem State.setSlotTable_guardUnit : (s.setSlotTable b).guardUnit = s.guardUnit := rfl
@[simp] theorem State.setSlotTable_setSlotTable (c : SlotTable) : (s.setSlotTable b).setSlotTable c = s.setSlotTable c := rfl
@[simp] theorem State.setSlotTable_station : (s.setSlotTable b).station = s.station := rfl
@[simp] theorem State.setSlotTable_address : (s.setSlotTable b).address = s.address := rfl
@[simp] theorem State.setSlotTable_config : (s.setSlotTable b).config = s.config := rfl
@[simp] theorem State.setSlotTable_effectiveCurrent : (s.setSlotTable b).effectiveCurrent = s.effectiveCurrent := rfl

end

section

variable (s : State) (b : Engine)

@[simp] theorem State.setEngine_pending : (s.setEngine b).pending = s.pending := rfl
@[simp] theorem State.setEngine_time : (s.setEngine b).time = s.time := rfl
@[simp] theorem State.setEngine_startup : (s.setEngine b).startup = s.startup := rfl
@[simp] theorem State.setEngine_line : (s.setEngine b).line = s.line := rfl
@[simp] theorem State.setEngine_headroom : (s.setEngine b).headroom = s.headroom := rfl
@[simp] theorem State.setEngine_slotTable : (s.setEngine b).slotTable = s.slotTable := rfl
@[simp] theorem State.setEngine_engine : (s.setEngine b).engine = b := rfl
@[simp] theorem State.setEngine_port : (s.setEngine b).port = s.port := rfl
@[simp] theorem State.setEngine_guardUnit : (s.setEngine b).guardUnit = s.guardUnit := rfl
@[simp] theorem State.setEngine_setEngine (c : Engine) : (s.setEngine b).setEngine c = s.setEngine c := rfl
@[simp] theorem State.setEngine_station : (s.setEngine b).station = s.station := rfl
@[simp] theorem State.setEngine_address : (s.setEngine b).address = s.address := rfl
@[simp] theorem State.setEngine_config : (s.setEngine b).config = s.config := rfl
@[simp] theorem State.setEngine_effectiveCurrent : (s.setEngine b).effectiveCurrent = s.effectiveCurrent := rfl

end

section

variable (s : State) (b : Port)

@[simp] theorem State.setPort_pending : (s.setPort b).pending = s.pending := rfl
@[simp] theorem State.setPort_time : (s.setPort b).time = s.time := rfl
@[simp] theorem State.setPort_startup : (s.setPort b).startup = s.startup := rfl
@[simp] theorem State.setPort_line : (s.setPort b).line = s.line := rfl
@[simp] theorem State.setPort_headroom : (s.setPort b).headroom = s.headroom := rfl
@[simp] theorem State.setPort_slotTable : (s.setPort b).slotTable = s.slotTable := rfl
@[simp] theorem State.setPort_engine : (s.setPort b).engine = s.engine := rfl
@[simp] theorem State.setPort_port : (s.setPort b).port = b := rfl
@[simp] theorem State.setPort_guardUnit : (s.setPort b).guardUnit = s.guardUnit := rfl
@[simp] theorem State.setPort_setPort (c : Port) : (s.setPort b).setPort c = s.setPort c := rfl
@[simp] theorem State.setPort_station : (s.setPort b).station = s.station := rfl
@[simp] theorem State.setPort_address : (s.setPort b).address = s.address := rfl
@[simp] theorem State.setPort_config : (s.setPort b).config = s.config := rfl
@[simp] theorem State.setPort_effectiveCurrent : (s.setPort b).effectiveCurrent = s.effectiveCurrent := rfl

end

section

variable (s : State) (b : GuardUnit)

@[simp] theorem State.setGuardUnit_pending : (s.setGuardUnit b).pending = s.pending := rfl
@[simp] theorem State.setGuardUnit_time : (s.setGuardUnit b).time = s.time := rfl
@[simp] theorem State.setGuardUnit_startup : (s.setGuardUnit b).startup = s.startup := rfl
@[simp] theorem State.setGuardUnit_line : (s.setGuardUnit b).line = s.line := rfl
@[simp] theorem State.setGuardUnit_headroom : (s.setGuardUnit b).headroom = s.headroom := rfl
@[simp] theorem State.setGuardUnit_slotTable : (s.setGuardUnit b).slotTable = s.slotTable := rfl
@[simp] theorem State.setGuardUnit_engine : (s.setGuardUnit b).engine = s.engine := rfl
@[simp] theorem State.setGuardUnit_port : (s.setGuardUnit b).port = s.port := rfl
@[simp] theorem State.setGuardUnit_guardUnit : (s.setGuardUnit b).guardUnit = b := rfl
@[simp] theorem State.setGuardUnit_setGuardUnit (c : GuardUnit) : (s.setGuardUnit b).setGuardUnit c = s.setGuardUnit c := rfl
@[simp] theorem State.setGuardUnit_station : (s.setGuardUnit b).station = s.station := rfl
@[simp] theorem State.setGuardUnit_address : (s.setGuardUnit b).address = s.address := rfl
@[simp] theorem State.setGuardUnit_config : (s.setGuardUnit b).config = s.config := rfl

end

end Sys2Proof.Machine
end

