-- ==== Sys2Proof/Laws/Frames.lean ====
section
/-!
SUPPORT. For each shared operation one lemma that says which blocks and fields it leaves as they are: what an operation
does not touch is left alone by it, and a proof about a command cites these instead of unfolding the operation.
-/

namespace Sys2Proof.Machine

/-! ### Operations on one block -/

@[simp] theorem Line.accept_frame (l : Line) (block : Block) (f : Frame) :
    (Line.accept block l f).judgement = l.judgement ∧ (Line.accept block l f).driving = l.driving ∧
    (Line.accept block l f).waiting = l.waiting ∧ (Line.accept block l f).silo = l.silo ∧
    (Line.accept block l f).order = l.order ∧ (Line.accept block l f).collisions = l.collisions ∧
    (Line.accept block l f).collided = l.collided ∧ (Line.accept block l f).receiveErrors = l.receiveErrors ∧
    (Line.accept block l f).overruns = l.overruns ∧ (Line.accept block l f).foreign = l.foreign ∧
    (Line.accept block l f).replyDrops = l.replyDrops := by
  simp [Line.accept]

@[simp] theorem Line.dropEntries_frame (l : Line) (p : Entry → Bool) :
    (Line.dropEntries p l).judgement = l.judgement ∧ (Line.dropEntries p l).driving = l.driving ∧
    (Line.dropEntries p l).waiting = l.waiting ∧ (Line.dropEntries p l).nextEntry = l.nextEntry ∧
    (Line.dropEntries p l).silo = l.silo ∧ (Line.dropEntries p l).order = l.order ∧
    (Line.dropEntries p l).receiveErrors = l.receiveErrors ∧ (Line.dropEntries p l).overruns = l.overruns ∧
    (Line.dropEntries p l).foreign = l.foreign ∧ (Line.dropEntries p l).replyDrops = l.replyDrops := by
  unfold Line.dropEntries
  (repeat' split) <;> simp

/-- A group accepted one frame after another touches the queue and its numbering alone. -/
@[simp] theorem Line.foldAccept_frame (block : Block) (group : List Frame) (l : Line) :
    (group.foldl (Line.accept block) l).judgement = l.judgement ∧
    (group.foldl (Line.accept block) l).driving = l.driving ∧
    (group.foldl (Line.accept block) l).waiting = l.waiting ∧ (group.foldl (Line.accept block) l).silo = l.silo ∧
    (group.foldl (Line.accept block) l).order = l.order ∧
    (group.foldl (Line.accept block) l).collisions = l.collisions ∧
    (group.foldl (Line.accept block) l).collided = l.collided ∧
    (group.foldl (Line.accept block) l).receiveErrors = l.receiveErrors ∧
    (group.foldl (Line.accept block) l).overruns = l.overruns ∧
    (group.foldl (Line.accept block) l).foreign = l.foreign ∧
    (group.foldl (Line.accept block) l).replyDrops = l.replyDrops := by
  induction group generalizing l with
  | nil => simp
  | cons f rest ih => simpa using ih (l.accept block f)

@[simp] theorem Line.offerReplies_frame (l : Line) (block : Block) (group : List Frame) :
    (Line.offerReplies block group l).judgement = l.judgement ∧
    (Line.offerReplies block group l).driving = l.driving ∧ (Line.offerReplies block group l).waiting = l.waiting ∧
    (Line.offerReplies block group l).silo = l.silo ∧ (Line.offerReplies block group l).order = l.order ∧
    (Line.offerReplies block group l).collisions = l.collisions ∧
    (Line.offerReplies block group l).collided = l.collided ∧
    (Line.offerReplies block group l).receiveErrors = l.receiveErrors ∧
    (Line.offerReplies block group l).overruns = l.overruns ∧
    (Line.offerReplies block group l).foreign = l.foreign := by
  unfold Line.offerReplies
  split <;> simp

@[simp] theorem Line.offerClaim_frame (l : Line) (f : Frame) :
    (Line.offerClaim f l).judgement = l.judgement ∧ (Line.offerClaim f l).driving = l.driving ∧
    (Line.offerClaim f l).silo = l.silo ∧ (Line.offerClaim f l).order = l.order ∧
    (Line.offerClaim f l).receiveErrors = l.receiveErrors ∧ (Line.offerClaim f l).overruns = l.overruns ∧
    (Line.offerClaim f l).foreign = l.foreign ∧ (Line.offerClaim f l).replyDrops = l.replyDrops := by
  unfold Line.offerClaim
  (repeat' split) <;> simp

@[simp] theorem Line.withdrawClaim_frame (l : Line) :
    (Line.withdrawClaim l).judgement = l.judgement ∧ (Line.withdrawClaim l).driving = l.driving ∧
    (Line.withdrawClaim l).nextEntry = l.nextEntry ∧ (Line.withdrawClaim l).silo = l.silo ∧
    (Line.withdrawClaim l).order = l.order ∧ (Line.withdrawClaim l).receiveErrors = l.receiveErrors ∧
    (Line.withdrawClaim l).overruns = l.overruns ∧ (Line.withdrawClaim l).foreign = l.foreign ∧
    (Line.withdrawClaim l).replyDrops = l.replyDrops := by
  unfold Line.withdrawClaim
  (repeat' split) <;> simp

@[simp] theorem Line.offerShed_frame (l : Line) (f : Frame) :
    (Line.offerShed f l).judgement = l.judgement ∧ (Line.offerShed f l).driving = l.driving ∧
    (Line.offerShed f l).waiting = l.waiting ∧ (Line.offerShed f l).silo = l.silo ∧
    (Line.offerShed f l).order = l.order ∧ (Line.offerShed f l).collisions = l.collisions ∧
    (Line.offerShed f l).collided = l.collided ∧ (Line.offerShed f l).receiveErrors = l.receiveErrors ∧
    (Line.offerShed f l).overruns = l.overruns ∧ (Line.offerShed f l).foreign = l.foreign ∧
    (Line.offerShed f l).replyDrops = l.replyDrops := by
  unfold Line.offerShed
  (repeat' split) <;> simp

@[simp] theorem Line.attemptFailed_frame (l : Line) (e : Entry) :
    (Line.attemptFailed e l).judgement = l.judgement ∧ (Line.attemptFailed e l).driving = l.driving ∧
    (Line.attemptFailed e l).silo = l.silo ∧ (Line.attemptFailed e l).order = l.order ∧
    (Line.attemptFailed e l).receiveErrors = l.receiveErrors ∧ (Line.attemptFailed e l).overruns = l.overruns ∧
    (Line.attemptFailed e l).foreign = l.foreign ∧ (Line.attemptFailed e l).replyDrops = l.replyDrops := by
  unfold Line.attemptFailed
  (repeat' split) <;> simp

@[simp] theorem Line.removeReplies_frame (l : Line) :
    (Line.removeReplies l).judgement = l.judgement ∧ (Line.removeReplies l).driving = l.driving ∧
    (Line.removeReplies l).waiting = l.waiting ∧ (Line.removeReplies l).nextEntry = l.nextEntry ∧
    (Line.removeReplies l).silo = l.silo ∧ (Line.removeReplies l).order = l.order ∧
    (Line.removeReplies l).receiveErrors = l.receiveErrors ∧ (Line.removeReplies l).overruns = l.overruns ∧
    (Line.removeReplies l).foreign = l.foreign ∧ (Line.removeReplies l).replyDrops = l.replyDrops := by
  simp [Line.removeReplies]

@[simp] theorem Line.intoSilo_frame (l : Line) (h : Heard) :
    (Line.intoSilo h l).judgement = l.judgement ∧ (Line.intoSilo h l).driving = l.driving ∧
    (Line.intoSilo h l).queue = l.queue ∧ (Line.intoSilo h l).waiting = l.waiting ∧
    (Line.intoSilo h l).nextEntry = l.nextEntry ∧ (Line.intoSilo h l).order = l.order ∧
    (Line.intoSilo h l).collisions = l.collisions ∧ (Line.intoSilo h l).collided = l.collided ∧
    (Line.intoSilo h l).receiveErrors = l.receiveErrors ∧ (Line.intoSilo h l).foreign = l.foreign ∧
    (Line.intoSilo h l).replyDrops = l.replyDrops := by
  unfold Line.intoSilo
  (repeat' split) <;> simp

@[simp] theorem Line.completed_frame (l : Line) (e : Entry) :
    (Line.completed e l).waiting = l.waiting ∧ (Line.completed e l).nextEntry = l.nextEntry ∧
    (Line.completed e l).silo = l.silo ∧ (Line.completed e l).receiveErrors = l.receiveErrors ∧
    (Line.completed e l).overruns = l.overruns ∧ (Line.completed e l).foreign = l.foreign ∧
    (Line.completed e l).replyDrops = l.replyDrops := by
  simp [Line.completed]

@[simp] theorem Line.admitWaiting_frame (l : Line) :
    (Line.admitWaiting l).judgement = l.judgement ∧ (Line.admitWaiting l).driving = l.driving ∧
    (Line.admitWaiting l).silo = l.silo ∧ (Line.admitWaiting l).order = l.order ∧
    (Line.admitWaiting l).collisions = l.collisions ∧ (Line.admitWaiting l).collided = l.collided ∧
    (Line.admitWaiting l).receiveErrors = l.receiveErrors ∧ (Line.admitWaiting l).overruns = l.overruns ∧
    (Line.admitWaiting l).foreign = l.foreign ∧ (Line.admitWaiting l).replyDrops = l.replyDrops := by
  unfold Line.admitWaiting
  (repeat' split) <;> simp

@[simp] theorem Line.countCollision_frame (l : Line) (e : Entry) :
    (Line.countCollision e l).judgement = l.judgement ∧ (Line.countCollision e l).driving = l.driving ∧
    (Line.countCollision e l).queue = l.queue ∧ (Line.countCollision e l).waiting = l.waiting ∧
    (Line.countCollision e l).nextEntry = l.nextEntry ∧ (Line.countCollision e l).silo = l.silo ∧
    (Line.countCollision e l).order = l.order ∧ (Line.countCollision e l).receiveErrors = l.receiveErrors ∧
    (Line.countCollision e l).overruns = l.overruns ∧ (Line.countCollision e l).foreign = l.foreign ∧
    (Line.countCollision e l).replyDrops = l.replyDrops := by
  unfold Line.countCollision
  (repeat' split) <;> simp

@[simp] theorem Line.heard_frame (l : Line) :
    (Line.heard l).driving = l.driving ∧ (Line.heard l).queue = l.queue ∧ (Line.heard l).waiting = l.waiting ∧
    (Line.heard l).nextEntry = l.nextEntry ∧ (Line.heard l).silo = l.silo ∧
    (Line.heard l).receiveErrors = l.receiveErrors ∧ (Line.heard l).overruns = l.overruns ∧
    (Line.heard l).foreign = l.foreign ∧ (Line.heard l).replyDrops = l.replyDrops := by
  simp [Line.heard]

@[simp] theorem Line.silenced_frame (l : Line) :
    (Line.silenced l).nextEntry = l.nextEntry ∧ (Line.silenced l).order = l.order ∧
    (Line.silenced l).collisions = l.collisions ∧ (Line.silenced l).collided = l.collided ∧
    (Line.silenced l).receiveErrors = l.receiveErrors ∧ (Line.silenced l).overruns = l.overruns ∧
    (Line.silenced l).foreign = l.foreign ∧ (Line.silenced l).replyDrops = l.replyDrops := by
  simp [Line.silenced]

@[simp] theorem Port.writeSetpoint_frame (p : Port) (v : Nat) :
    (Port.writeSetpoint v p).last = p.last ∧ (Port.writeSetpoint v p).watchdog = p.watchdog ∧
    (Port.writeSetpoint v p).samplesPresent = p.samplesPresent ∧ (Port.writeSetpoint v p).path = p.path ∧
    (Port.writeSetpoint v p).readWaiting = p.readWaiting ∧ (Port.writeSetpoint v p).onPort = p.onPort ∧
    (Port.writeSetpoint v p).ackTimer = p.ackTimer ∧ (Port.writeSetpoint v p).applied = p.applied ∧
    (Port.writeSetpoint v p).ceiling = p.ceiling ∧ (Port.writeSetpoint v p).standing = p.standing ∧
    (Port.writeSetpoint v p).hold = p.hold ∧ (Port.writeSetpoint v p).confirmedOpen = p.confirmedOpen ∧
    (Port.writeSetpoint v p).estop = p.estop := by
  unfold Port.writeSetpoint
  (repeat' split) <;> simp

@[simp] theorem Port.writeDrop_frame (p : Port) :
    (Port.writeDrop p).last = p.last ∧ (Port.writeDrop p).watchdog = p.watchdog ∧
    (Port.writeDrop p).samplesPresent = p.samplesPresent ∧ (Port.writeDrop p).path = p.path ∧
    (Port.writeDrop p).readWaiting = p.readWaiting ∧ (Port.writeDrop p).onPort = p.onPort ∧
    (Port.writeDrop p).ackTimer = p.ackTimer ∧ (Port.writeDrop p).applied = p.applied ∧
    (Port.writeDrop p).ceiling = p.ceiling ∧ (Port.writeDrop p).standing = p.standing ∧
    (Port.writeDrop p).hold = p.hold ∧ (Port.writeDrop p).confirmedOpen = p.confirmedOpen ∧
    (Port.writeDrop p).estop = p.estop := by
  unfold Port.writeDrop
  (repeat' split) <;> simp

@[simp] theorem Port.endTransaction_frame (p : Port) :
    (Port.endTransaction p).last = p.last ∧ (Port.endTransaction p).watchdog = p.watchdog ∧
    (Port.endTransaction p).samplesPresent = p.samplesPresent ∧ (Port.endTransaction p).pending = p.pending ∧
    (Port.endTransaction p).onPort = p.onPort ∧ (Port.endTransaction p).ackTimer = p.ackTimer ∧
    (Port.endTransaction p).applied = p.applied ∧ (Port.endTransaction p).ceiling = p.ceiling ∧
    (Port.endTransaction p).standing = p.standing ∧ (Port.endTransaction p).hold = p.hold ∧
    (Port.endTransaction p).confirmedOpen = p.confirmedOpen ∧ (Port.endTransaction p).estop = p.estop := by
  unfold Port.endTransaction
  (repeat' split) <;> simp

@[simp] theorem GuardUnit.clearRuns_frame (g : GuardUnit) :
    (GuardUnit.clearRuns g).effective = g.effective ∧ (GuardUnit.clearRuns g).latch = g.latch ∧
    (GuardUnit.clearRuns g).further = g.further ∧ (GuardUnit.clearRuns g).resetting = g.resetting := by
  simp [GuardUnit.clearRuns]

@[simp] theorem Headroom.lowered_frame (u : Headroom) (amount : Nat) :
    (Headroom.lowered u amount).peers = u.peers ∧ (Headroom.lowered u amount).aged = u.aged ∧
    (Headroom.lowered u amount).suspect = u.suspect ∧ (Headroom.lowered u amount).reListen = u.reListen ∧
    (Headroom.lowered u amount).need = u.need ∧ (Headroom.lowered u amount).priority = u.priority ∧
    (Headroom.lowered u amount).current = u.current ∧ (Headroom.lowered u amount).own = u.own ∧
    (Headroom.lowered u amount).askCompleted = u.askCompleted ∧ (Headroom.lowered u amount).denial = u.denial ∧
    (Headroom.lowered u amount).note = u.note ∧ (Headroom.lowered u amount).lateShed = u.lateShed ∧
    (Headroom.lowered u amount).contestTimer = u.contestTimer ∧
    (Headroom.lowered u amount).backoffTimer = u.backoffTimer ∧ (Headroom.lowered u amount).sagRun = u.sagRun ∧
    (Headroom.lowered u amount).sagEpisode = u.sagEpisode := by
  unfold Headroom.lowered
  (repeat' split) <;> simp

@[simp] theorem Headroom.barred_frame (u : Headroom) :
    (Headroom.barred u).peers = u.peers ∧ (Headroom.barred u).aged = u.aged ∧
    (Headroom.barred u).suspect = u.suspect ∧ (Headroom.barred u).reListen = u.reListen ∧
    (Headroom.barred u).priority = u.priority ∧ (Headroom.barred u).current = u.current ∧
    (Headroom.barred u).own = u.own ∧ (Headroom.barred u).askCompleted = u.askCompleted ∧
    (Headroom.barred u).denial = u.denial ∧ (Headroom.barred u).note = u.note ∧
    (Headroom.barred u).lateShed = u.lateShed ∧ (Headroom.barred u).yields = u.yields ∧
    (Headroom.barred u).contestTimer = u.contestTimer ∧ (Headroom.barred u).backoffTimer = u.backoffTimer ∧
    (Headroom.barred u).sagRun = u.sagRun ∧ (Headroom.barred u).sagEpisode = u.sagEpisode := by
  simp [Headroom.barred]

@[simp] theorem Headroom.shedEvent_frame (u : Headroom) (order : Word) :
    (Headroom.shedEvent u order).peers = u.peers ∧ (Headroom.shedEvent u order).aged = u.aged ∧
    (Headroom.shedEvent u order).suspect = u.suspect ∧ (Headroom.shedEvent u order).reListen = u.reListen ∧
    (Headroom.shedEvent u order).claim = u.claim ∧ (Headroom.shedEvent u order).held = u.held ∧
    (Headroom.shedEvent u order).need = u.need ∧ (Headroom.shedEvent u order).priority = u.priority ∧
    (Headroom.shedEvent u order).current = u.current ∧ (Headroom.shedEvent u order).own = u.own ∧
    (Headroom.shedEvent u order).askCompleted = u.askCompleted ∧ (Headroom.shedEvent u order).note = u.note ∧
    (Headroom.shedEvent u order).lateShed = u.lateShed ∧ (Headroom.shedEvent u order).yields = u.yields ∧
    (Headroom.shedEvent u order).target = u.target ∧ (Headroom.shedEvent u order).contestTimer = u.contestTimer ∧
    (Headroom.shedEvent u order).backoffTimer = u.backoffTimer ∧
    (Headroom.shedEvent u order).refreshTimer = u.refreshTimer ∧
    (Headroom.shedEvent u order).staleTimer = u.staleTimer ∧ (Headroom.shedEvent u order).sagRun = u.sagRun ∧
    (Headroom.shedEvent u order).sagEpisode = u.sagEpisode := by
  unfold Headroom.shedEvent
  (repeat' split) <;> simp

@[simp] theorem Headroom.silenced_frame (u : Headroom) :
    (Headroom.silenced u).aged = u.aged ∧ (Headroom.silenced u).priority = u.priority := by
  unfold Headroom.silenced
  (repeat' split) <;> simp

@[simp] theorem Engine.leaveClaiming_frame (e : Engine) (now : Word) :
    (Engine.leaveClaiming e now).phase = e.phase ∧ (Engine.leaveClaiming e now).check = e.check ∧
    (Engine.leaveClaiming e now).runCount = e.runCount ∧ (Engine.leaveClaiming e now).verdict = e.verdict ∧
    (Engine.leaveClaiming e now).claimAmount = e.claimAmount ∧ (Engine.leaveClaiming e now).cause = e.cause := by
  unfold Engine.leaveClaiming
  (repeat' split) <;> simp

@[simp] theorem Engine.endLoading_frame (e : Engine) :
    (Engine.endLoading e).phase = e.phase ∧ (Engine.endLoading e).check = e.check ∧
    (Engine.endLoading e).verdict = e.verdict ∧ (Engine.endLoading e).claimAmount = e.claimAmount ∧
    (Engine.endLoading e).cause = e.cause ∧ (Engine.endLoading e).carry = e.carry ∧
    (Engine.endLoading e).restarts = e.restarts ∧ (Engine.endLoading e).tripped = e.tripped := by
  simp [Engine.endLoading]

@[simp] theorem Engine.stopTimers_frame (e : Engine) :
    (Engine.stopTimers e).phase = e.phase ∧ (Engine.stopTimers e).check = e.check ∧
    (Engine.stopTimers e).verdict = e.verdict ∧ (Engine.stopTimers e).claimAmount = e.claimAmount ∧
    (Engine.stopTimers e).cause = e.cause ∧ (Engine.stopTimers e).carry = e.carry ∧
    (Engine.stopTimers e).restarts = e.restarts ∧ (Engine.stopTimers e).tripped = e.tripped ∧
    (Engine.stopTimers e).runCount = e.runCount := by
  simp [Engine.stopTimers]

@[simp] theorem Engine.takeIn_frame (e : Engine) (x : SampleSet) :
    (Engine.takeIn e x).phase = e.phase ∧ (Engine.takeIn e x).check = e.check ∧
    (Engine.takeIn e x).verdict = e.verdict ∧ (Engine.takeIn e x).claimAmount = e.claimAmount ∧
    (Engine.takeIn e x).cause = e.cause ∧ (Engine.takeIn e x).carry = e.carry ∧
    (Engine.takeIn e x).restarts = e.restarts ∧ (Engine.takeIn e x).tripped = e.tripped ∧
    (Engine.takeIn e x).runCount = e.runCount := by
  simp [Engine.takeIn]

@[simp] theorem SlotTable.put_frame (t : SlotTable) (n : Fin 8) (x : Slot) :
    (t.put n x).arrival = t.arrival ∧ (t.put n x).queue = t.queue := by simp [SlotTable.put]

@[simp] theorem Headroom.sag_frame (u : Headroom) (c : ConfigRecord) (feeder : Nat) :
    (u.sag c feeder).1.peers = u.peers ∧ (u.sag c feeder).1.aged = u.aged ∧ (u.sag c feeder).1.suspect = u.suspect ∧
    (u.sag c feeder).1.reListen = u.reListen ∧ (u.sag c feeder).1.claim = u.claim ∧
    (u.sag c feeder).1.held = u.held ∧ (u.sag c feeder).1.need = u.need ∧
    (u.sag c feeder).1.priority = u.priority ∧ (u.sag c feeder).1.current = u.current ∧
    (u.sag c feeder).1.own = u.own ∧ (u.sag c feeder).1.askCompleted = u.askCompleted ∧
    (u.sag c feeder).1.denial = u.denial ∧ (u.sag c feeder).1.note = u.note ∧
    (u.sag c feeder).1.lateShed = u.lateShed ∧ (u.sag c feeder).1.yields = u.yields ∧ (u.sag c feeder).1.target = u.target ∧
    (u.sag c feeder).1.contestTimer = u.contestTimer ∧ (u.sag c feeder).1.backoffTimer = u.backoffTimer ∧
    (u.sag c feeder).1.refreshTimer = u.refreshTimer ∧ (u.sag c feeder).1.staleTimer = u.staleTimer := by
  unfold Headroom.sag
  (repeat' split) <;> simp

/-! ### Operations on the whole state -/

@[simp] theorem State.offerReplies_frame (s : State) (block : Block) (group : List Frame) :
    (s.offerReplies block group).pending = s.pending ∧ (s.offerReplies block group).time = s.time ∧
    (s.offerReplies block group).startup = s.startup ∧
    (s.offerReplies block group).line.judgement = s.line.judgement ∧
    (s.offerReplies block group).line.driving = s.line.driving ∧
    (s.offerReplies block group).line.silo = s.line.silo ∧ (s.offerReplies block group).line.order = s.line.order ∧
    (s.offerReplies block group).line.receiveErrors = s.line.receiveErrors ∧
    (s.offerReplies block group).line.overruns = s.line.overruns ∧
    (s.offerReplies block group).line.foreign = s.line.foreign ∧
    (s.offerReplies block group).headroom = s.headroom ∧ (s.offerReplies block group).slotTable = s.slotTable ∧
    (s.offerReplies block group).engine = s.engine ∧ (s.offerReplies block group).port = s.port ∧
    (s.offerReplies block group).guardUnit = s.guardUnit ∧ (s.offerReplies block group).station = s.station ∧
    (s.offerReplies block group).address = s.address ∧ (s.offerReplies block group).config = s.config := by
  unfold State.offerReplies
  (repeat' split) <;> simp

@[simp] theorem State.offerClaim_frame (s : State) (kind : ClaimKind) (held asked : Nat) :
    (s.offerClaim kind held asked).pending = s.pending ∧ (s.offerClaim kind held asked).time = s.time ∧
    (s.offerClaim kind held asked).startup = s.startup ∧
    (s.offerClaim kind held asked).line.judgement = s.line.judgement ∧
    (s.offerClaim kind held asked).line.driving = s.line.driving ∧
    (s.offerClaim kind held asked).line.silo = s.line.silo ∧
    (s.offerClaim kind held asked).line.order = s.line.order ∧
    (s.offerClaim kind held asked).line.receiveErrors = s.line.receiveErrors ∧
    (s.offerClaim kind held asked).line.overruns = s.line.overruns ∧
    (s.offerClaim kind held asked).line.foreign = s.line.foreign ∧
    (s.offerClaim kind held asked).headroom.peers = s.headroom.peers ∧
    (s.offerClaim kind held asked).headroom.aged = s.headroom.aged ∧
    (s.offerClaim kind held asked).headroom.suspect = s.headroom.suspect ∧
    (s.offerClaim kind held asked).headroom.reListen = s.headroom.reListen ∧
    (s.offerClaim kind held asked).headroom.claim = s.headroom.claim ∧
    (s.offerClaim kind held asked).headroom.held = s.headroom.held ∧
    (s.offerClaim kind held asked).headroom.need = s.headroom.need ∧
    (s.offerClaim kind held asked).headroom.priority = s.headroom.priority ∧
    (s.offerClaim kind held asked).headroom.own = s.headroom.own ∧
    (s.offerClaim kind held asked).headroom.askCompleted = s.headroom.askCompleted ∧
    (s.offerClaim kind held asked).headroom.denial = s.headroom.denial ∧
    (s.offerClaim kind held asked).headroom.note = s.headroom.note ∧
    (s.offerClaim kind held asked).headroom.yields = s.headroom.yields ∧
    (s.offerClaim kind held asked).headroom.target = s.headroom.target ∧
    (s.offerClaim kind held asked).headroom.contestTimer = s.headroom.contestTimer ∧
    (s.offerClaim kind held asked).headroom.backoffTimer = s.headroom.backoffTimer ∧
    (s.offerClaim kind held asked).headroom.refreshTimer = s.headroom.refreshTimer ∧
    (s.offerClaim kind held asked).headroom.staleTimer = s.headroom.staleTimer ∧
    (s.offerClaim kind held asked).headroom.sagRun = s.headroom.sagRun ∧
    (s.offerClaim kind held asked).headroom.sagEpisode = s.headroom.sagEpisode ∧
    (s.offerClaim kind held asked).slotTable = s.slotTable ∧ (s.offerClaim kind held asked).engine = s.engine ∧
    (s.offerClaim kind held asked).port = s.port ∧ (s.offerClaim kind held asked).guardUnit = s.guardUnit ∧
    (s.offerClaim kind held asked).station = s.station ∧ (s.offerClaim kind held asked).address = s.address ∧
    (s.offerClaim kind held asked).config = s.config := by
  unfold State.offerClaim
  (repeat' split) <;> simp

@[simp] theorem State.writeSetpoint_frame (s : State) (v : Nat) :
    (s.writeSetpoint v).pending = s.pending ∧ (s.writeSetpoint v).time = s.time ∧
    (s.writeSetpoint v).startup = s.startup ∧ (s.writeSetpoint v).line = s.line ∧
    (s.writeSetpoint v).headroom = s.headroom ∧ (s.writeSetpoint v).slotTable = s.slotTable ∧
    (s.writeSetpoint v).port.last = s.port.last ∧ (s.writeSetpoint v).port.watchdog = s.port.watchdog ∧
    (s.writeSetpoint v).port.samplesPresent = s.port.samplesPresent ∧ (s.writeSetpoint v).port.path = s.port.path ∧
    (s.writeSetpoint v).port.readWaiting = s.port.readWaiting ∧ (s.writeSetpoint v).port.onPort = s.port.onPort ∧
    (s.writeSetpoint v).port.ackTimer = s.port.ackTimer ∧ (s.writeSetpoint v).port.applied = s.port.applied ∧
    (s.writeSetpoint v).port.estop = s.port.estop ∧ (s.writeSetpoint v).port.hold = s.port.hold ∧
    (s.writeSetpoint v).port.ceiling = s.port.ceiling ∧ (s.writeSetpoint v).port.standing = s.port.standing ∧
    (s.writeSetpoint v).port.confirmedOpen = s.port.confirmedOpen ∧ (s.writeSetpoint v).guardUnit = s.guardUnit ∧
    (s.writeSetpoint v).station = s.station ∧ (s.writeSetpoint v).address = s.address ∧
    (s.writeSetpoint v).config = s.config := by
  unfold State.writeSetpoint
  (repeat' split) <;> simp

@[simp] theorem State.writeDrop_frame (s : State) :
    (s.writeDrop).pending = s.pending ∧ (s.writeDrop).time = s.time ∧ (s.writeDrop).startup = s.startup ∧
    (s.writeDrop).line = s.line ∧ (s.writeDrop).headroom = s.headroom ∧ (s.writeDrop).slotTable = s.slotTable ∧
    (s.writeDrop).engine = s.engine ∧ (s.writeDrop).port.last = s.port.last ∧
    (s.writeDrop).port.watchdog = s.port.watchdog ∧ (s.writeDrop).port.samplesPresent = s.port.samplesPresent ∧
    (s.writeDrop).port.path = s.port.path ∧ (s.writeDrop).port.readWaiting = s.port.readWaiting ∧
    (s.writeDrop).port.onPort = s.port.onPort ∧ (s.writeDrop).port.ackTimer = s.port.ackTimer ∧
    (s.writeDrop).port.applied = s.port.applied ∧ (s.writeDrop).port.estop = s.port.estop ∧
    (s.writeDrop).port.hold = s.port.hold ∧ (s.writeDrop).port.ceiling = s.port.ceiling ∧
    (s.writeDrop).port.standing = s.port.standing ∧ (s.writeDrop).port.confirmedOpen = s.port.confirmedOpen ∧
    (s.writeDrop).guardUnit = s.guardUnit ∧ (s.writeDrop).station = s.station ∧ (s.writeDrop).address = s.address ∧
    (s.writeDrop).config = s.config := by
  simp [State.writeDrop]

@[simp] theorem State.requestOpen_frame (s : State) :
    (s.requestOpen).pending = s.pending ∧ (s.requestOpen).time = s.time ∧ (s.requestOpen).startup = s.startup ∧
    (s.requestOpen).line = s.line ∧ (s.requestOpen).headroom = s.headroom ∧
    (s.requestOpen).slotTable = s.slotTable ∧ (s.requestOpen).engine = s.engine ∧
    (s.requestOpen).port.last = s.port.last ∧ (s.requestOpen).port.watchdog = s.port.watchdog ∧
    (s.requestOpen).port.samplesPresent = s.port.samplesPresent ∧ (s.requestOpen).port.path = s.port.path ∧
    (s.requestOpen).port.readWaiting = s.port.readWaiting ∧ (s.requestOpen).port.onPort = s.port.onPort ∧
    (s.requestOpen).port.ackTimer = s.port.ackTimer ∧ (s.requestOpen).port.applied = s.port.applied ∧
    (s.requestOpen).port.estop = s.port.estop ∧ (s.requestOpen).port.hold = s.port.hold ∧
    (s.requestOpen).port.pending = s.port.pending ∧ (s.requestOpen).port.ceiling = s.port.ceiling ∧
    (s.requestOpen).port.confirmedOpen = s.port.confirmedOpen ∧
    (s.requestOpen).guardUnit.effective = s.guardUnit.effective ∧
    (s.requestOpen).guardUnit.latch = s.guardUnit.latch ∧ (s.requestOpen).guardUnit.further = s.guardUnit.further ∧
    (s.requestOpen).guardUnit.resetting = s.guardUnit.resetting ∧ (s.requestOpen).station = s.station ∧
    (s.requestOpen).address = s.address ∧ (s.requestOpen).config = s.config := by
  unfold State.requestOpen State.openContactor
  (repeat' split) <;> simp

@[simp] theorem State.closeContactor_frame (s : State) :
    (s.closeContactor).pending = s.pending ∧ (s.closeContactor).time = s.time ∧
    (s.closeContactor).startup = s.startup ∧ (s.closeContactor).line = s.line ∧
    (s.closeContactor).headroom = s.headroom ∧ (s.closeContactor).slotTable = s.slotTable ∧
    (s.closeContactor).engine = s.engine ∧ (s.closeContactor).port.last = s.port.last ∧
    (s.closeContactor).port.watchdog = s.port.watchdog ∧
    (s.closeContactor).port.samplesPresent = s.port.samplesPresent ∧ (s.closeContactor).port.path = s.port.path ∧
    (s.closeContactor).port.readWaiting = s.port.readWaiting ∧ (s.closeContactor).port.onPort = s.port.onPort ∧
    (s.closeContactor).port.ackTimer = s.port.ackTimer ∧ (s.closeContactor).port.applied = s.port.applied ∧
    (s.closeContactor).port.estop = s.port.estop ∧ (s.closeContactor).port.hold = s.port.hold ∧
    (s.closeContactor).port.pending = s.port.pending ∧ (s.closeContactor).port.ceiling = s.port.ceiling ∧
    (s.closeContactor).guardUnit = s.guardUnit ∧ (s.closeContactor).station = s.station ∧
    (s.closeContactor).address = s.address ∧ (s.closeContactor).config = s.config := by
  simp [State.closeContactor]

@[simp] theorem State.setHold_frame (s : State) :
    (s.setHold).pending = s.pending ∧ (s.setHold).time = s.time ∧ (s.setHold).startup = s.startup ∧
    (s.setHold).line = s.line ∧ (s.setHold).headroom = s.headroom ∧ (s.setHold).slotTable = s.slotTable ∧
    (s.setHold).engine = s.engine ∧ (s.setHold).port.last = s.port.last ∧
    (s.setHold).port.watchdog = s.port.watchdog ∧ (s.setHold).port.samplesPresent = s.port.samplesPresent ∧
    (s.setHold).port.path = s.port.path ∧ (s.setHold).port.readWaiting = s.port.readWaiting ∧
    (s.setHold).port.onPort = s.port.onPort ∧ (s.setHold).port.ackTimer = s.port.ackTimer ∧
    (s.setHold).port.applied = s.port.applied ∧ (s.setHold).port.estop = s.port.estop ∧
    (s.setHold).port.pending = s.port.pending ∧ (s.setHold).port.ceiling = s.port.ceiling ∧
    (s.setHold).port.confirmedOpen = s.port.confirmedOpen ∧
    (s.setHold).guardUnit.effective = s.guardUnit.effective ∧ (s.setHold).guardUnit.latch = s.guardUnit.latch ∧
    (s.setHold).guardUnit.further = s.guardUnit.further ∧ (s.setHold).guardUnit.resetting = s.guardUnit.resetting ∧
    (s.setHold).station = s.station ∧ (s.setHold).address = s.address ∧ (s.setHold).config = s.config := by
  unfold State.setHold State.openContactor
  (repeat' split) <;> simp

@[simp] theorem State.releaseHold_frame (s : State) :
    (s.releaseHold).pending = s.pending ∧ (s.releaseHold).time = s.time ∧ (s.releaseHold).startup = s.startup ∧
    (s.releaseHold).line = s.line ∧ (s.releaseHold).headroom = s.headroom ∧
    (s.releaseHold).slotTable = s.slotTable ∧ (s.releaseHold).engine = s.engine ∧
    (s.releaseHold).port.last = s.port.last ∧ (s.releaseHold).port.watchdog = s.port.watchdog ∧
    (s.releaseHold).port.samplesPresent = s.port.samplesPresent ∧ (s.releaseHold).port.path = s.port.path ∧
    (s.releaseHold).port.readWaiting = s.port.readWaiting ∧ (s.releaseHold).port.onPort = s.port.onPort ∧
    (s.releaseHold).port.ackTimer = s.port.ackTimer ∧ (s.releaseHold).port.applied = s.port.applied ∧
    (s.releaseHold).port.estop = s.port.estop ∧ (s.releaseHold).port.pending = s.port.pending ∧
    (s.releaseHold).port.ceiling = s.port.ceiling ∧ (s.releaseHold).port.standing = s.port.standing ∧
    (s.releaseHold).port.confirmedOpen = s.port.confirmedOpen ∧ (s.releaseHold).guardUnit = s.guardUnit ∧
    (s.releaseHold).station = s.station ∧ (s.releaseHold).address = s.address ∧ (s.releaseHold).config = s.config := by
  simp [State.releaseHold]

@[simp] theorem State.markSuspect_frame (s : State) :
    (s.markSuspect).pending = s.pending ∧ (s.markSuspect).time = s.time ∧ (s.markSuspect).startup = s.startup ∧
    (s.markSuspect).line = s.line ∧ (s.markSuspect).headroom.peers = s.headroom.peers ∧
    (s.markSuspect).headroom.aged = s.headroom.aged ∧ (s.markSuspect).headroom.claim = s.headroom.claim ∧
    (s.markSuspect).headroom.held = s.headroom.held ∧ (s.markSuspect).headroom.need = s.headroom.need ∧
    (s.markSuspect).headroom.priority = s.headroom.priority ∧
    (s.markSuspect).headroom.current = s.headroom.current ∧ (s.markSuspect).headroom.own = s.headroom.own ∧
    (s.markSuspect).headroom.askCompleted = s.headroom.askCompleted ∧
    (s.markSuspect).headroom.denial = s.headroom.denial ∧ (s.markSuspect).headroom.note = s.headroom.note ∧
    (s.markSuspect).headroom.yields = s.headroom.yields ∧ (s.markSuspect).headroom.target = s.headroom.target ∧
    (s.markSuspect).headroom.contestTimer = s.headroom.contestTimer ∧
    (s.markSuspect).headroom.backoffTimer = s.headroom.backoffTimer ∧
    (s.markSuspect).headroom.refreshTimer = s.headroom.refreshTimer ∧
    (s.markSuspect).headroom.staleTimer = s.headroom.staleTimer ∧
    (s.markSuspect).headroom.sagRun = s.headroom.sagRun ∧
    (s.markSuspect).headroom.sagEpisode = s.headroom.sagEpisode ∧ (s.markSuspect).slotTable = s.slotTable ∧
    (s.markSuspect).engine = s.engine ∧ (s.markSuspect).port = s.port ∧ (s.markSuspect).guardUnit = s.guardUnit ∧
    (s.markSuspect).station = s.station ∧ (s.markSuspect).address = s.address ∧ (s.markSuspect).config = s.config := by
  unfold State.markSuspect
  (repeat' split) <;> simp

@[simp] theorem State.tryLower_frame (s : State) :
    (s.tryLower).pending = s.pending ∧ (s.tryLower).time = s.time ∧ (s.tryLower).startup = s.startup ∧
    (s.tryLower).line.judgement = s.line.judgement ∧ (s.tryLower).line.driving = s.line.driving ∧
    (s.tryLower).line.silo = s.line.silo ∧ (s.tryLower).line.order = s.line.order ∧
    (s.tryLower).line.receiveErrors = s.line.receiveErrors ∧ (s.tryLower).line.overruns = s.line.overruns ∧
    (s.tryLower).line.foreign = s.line.foreign ∧ (s.tryLower).headroom.peers = s.headroom.peers ∧
    (s.tryLower).headroom.aged = s.headroom.aged ∧ (s.tryLower).headroom.suspect = s.headroom.suspect ∧
    (s.tryLower).headroom.reListen = s.headroom.reListen ∧ (s.tryLower).headroom.sagRun = s.headroom.sagRun ∧
    (s.tryLower).headroom.sagEpisode = s.headroom.sagEpisode ∧ (s.tryLower).slotTable = s.slotTable ∧
    (s.tryLower).engine = s.engine ∧ (s.tryLower).port = s.port ∧ (s.tryLower).guardUnit = s.guardUnit ∧
    (s.tryLower).station = s.station ∧ (s.tryLower).address = s.address ∧ (s.tryLower).config = s.config := by
  unfold State.tryLower
  (repeat' split) <;> simp

@[simp] theorem State.tryBar_frame (s : State) :
    (s.tryBar).pending = s.pending ∧ (s.tryBar).time = s.time ∧ (s.tryBar).startup = s.startup ∧
    (s.tryBar).line = s.line ∧ (s.tryBar).headroom.peers = s.headroom.peers ∧
    (s.tryBar).headroom.aged = s.headroom.aged ∧ (s.tryBar).headroom.suspect = s.headroom.suspect ∧
    (s.tryBar).headroom.reListen = s.headroom.reListen ∧ (s.tryBar).headroom.sagRun = s.headroom.sagRun ∧
    (s.tryBar).headroom.sagEpisode = s.headroom.sagEpisode ∧ (s.tryBar).slotTable = s.slotTable ∧
    (s.tryBar).engine = s.engine ∧ (s.tryBar).port = s.port ∧ (s.tryBar).guardUnit = s.guardUnit ∧
    (s.tryBar).station = s.station ∧ (s.tryBar).address = s.address ∧ (s.tryBar).config = s.config := by
  unfold State.tryBar
  (repeat' split) <;> simp

@[simp] theorem State.portReport_frame (s : State) :
    (s.portReport).pending = s.pending ∧ (s.portReport).time = s.time ∧ (s.portReport).startup = s.startup ∧
    (s.portReport).line.judgement = s.line.judgement ∧ (s.portReport).line.driving = s.line.driving ∧
    (s.portReport).line.silo = s.line.silo ∧ (s.portReport).line.order = s.line.order ∧
    (s.portReport).line.receiveErrors = s.line.receiveErrors ∧ (s.portReport).line.overruns = s.line.overruns ∧
    (s.portReport).line.foreign = s.line.foreign ∧ (s.portReport).headroom.peers = s.headroom.peers ∧
    (s.portReport).headroom.aged = s.headroom.aged ∧ (s.portReport).headroom.suspect = s.headroom.suspect ∧
    (s.portReport).headroom.reListen = s.headroom.reListen ∧ (s.portReport).headroom.sagRun = s.headroom.sagRun ∧
    (s.portReport).headroom.sagEpisode = s.headroom.sagEpisode ∧ (s.portReport).slotTable = s.slotTable ∧
    (s.portReport).engine = s.engine ∧ (s.portReport).port = s.port ∧ (s.portReport).guardUnit = s.guardUnit ∧
    (s.portReport).station = s.station ∧ (s.portReport).address = s.address ∧ (s.portReport).config = s.config := by
  unfold State.portReport
  (repeat' split) <;> simp

@[simp] theorem State.lowerToZero_frame (s : State) :
    (s.lowerToZero).pending = s.pending ∧ (s.lowerToZero).time = s.time ∧ (s.lowerToZero).startup = s.startup ∧
    (s.lowerToZero).line.judgement = s.line.judgement ∧ (s.lowerToZero).line.driving = s.line.driving ∧
    (s.lowerToZero).line.silo = s.line.silo ∧ (s.lowerToZero).line.order = s.line.order ∧
    (s.lowerToZero).line.receiveErrors = s.line.receiveErrors ∧ (s.lowerToZero).line.overruns = s.line.overruns ∧
    (s.lowerToZero).line.foreign = s.line.foreign ∧ (s.lowerToZero).headroom.peers = s.headroom.peers ∧
    (s.lowerToZero).headroom.aged = s.headroom.aged ∧ (s.lowerToZero).headroom.suspect = s.headroom.suspect ∧
    (s.lowerToZero).headroom.reListen = s.headroom.reListen ∧ (s.lowerToZero).headroom.sagRun = s.headroom.sagRun ∧
    (s.lowerToZero).headroom.sagEpisode = s.headroom.sagEpisode ∧ (s.lowerToZero).slotTable = s.slotTable ∧
    (s.lowerToZero).engine = s.engine ∧ (s.lowerToZero).port = s.port ∧ (s.lowerToZero).guardUnit = s.guardUnit ∧
    (s.lowerToZero).station = s.station ∧ (s.lowerToZero).address = s.address ∧ (s.lowerToZero).config = s.config := by
  simp [State.lowerToZero]

@[simp] theorem State.withdrawNeed_frame (s : State) :
    (s.withdrawNeed).pending = s.pending ∧ (s.withdrawNeed).time = s.time ∧ (s.withdrawNeed).startup = s.startup ∧
    (s.withdrawNeed).line.judgement = s.line.judgement ∧ (s.withdrawNeed).line.driving = s.line.driving ∧
    (s.withdrawNeed).line.silo = s.line.silo ∧ (s.withdrawNeed).line.order = s.line.order ∧
    (s.withdrawNeed).line.receiveErrors = s.line.receiveErrors ∧ (s.withdrawNeed).line.overruns = s.line.overruns ∧
    (s.withdrawNeed).line.foreign = s.line.foreign ∧ (s.withdrawNeed).headroom.peers = s.headroom.peers ∧
    (s.withdrawNeed).headroom.aged = s.headroom.aged ∧ (s.withdrawNeed).headroom.suspect = s.headroom.suspect ∧
    (s.withdrawNeed).headroom.reListen = s.headroom.reListen ∧
    (s.withdrawNeed).headroom.sagRun = s.headroom.sagRun ∧
    (s.withdrawNeed).headroom.sagEpisode = s.headroom.sagEpisode ∧ (s.withdrawNeed).slotTable = s.slotTable ∧
    (s.withdrawNeed).engine = s.engine ∧ (s.withdrawNeed).port = s.port ∧
    (s.withdrawNeed).guardUnit = s.guardUnit ∧ (s.withdrawNeed).station = s.station ∧
    (s.withdrawNeed).address = s.address ∧ (s.withdrawNeed).config = s.config := by
  unfold State.withdrawNeed
  dsimp only
  (repeat' split) <;> simp

@[simp] theorem State.stateNeed_frame (s : State) (amount priority : Nat) :
    (s.stateNeed amount priority).pending = s.pending ∧ (s.stateNeed amount priority).time = s.time ∧
    (s.stateNeed amount priority).startup = s.startup ∧
    (s.stateNeed amount priority).line.judgement = s.line.judgement ∧
    (s.stateNeed amount priority).line.driving = s.line.driving ∧
    (s.stateNeed amount priority).line.silo = s.line.silo ∧
    (s.stateNeed amount priority).line.order = s.line.order ∧
    (s.stateNeed amount priority).line.receiveErrors = s.line.receiveErrors ∧
    (s.stateNeed amount priority).line.overruns = s.line.overruns ∧
    (s.stateNeed amount priority).line.foreign = s.line.foreign ∧
    (s.stateNeed amount priority).headroom.peers = s.headroom.peers ∧
    (s.stateNeed amount priority).headroom.aged = s.headroom.aged ∧
    (s.stateNeed amount priority).headroom.suspect = s.headroom.suspect ∧
    (s.stateNeed amount priority).headroom.reListen = s.headroom.reListen ∧
    (s.stateNeed amount priority).headroom.sagRun = s.headroom.sagRun ∧
    (s.stateNeed amount priority).headroom.sagEpisode = s.headroom.sagEpisode ∧
    (s.stateNeed amount priority).slotTable = s.slotTable ∧ (s.stateNeed amount priority).engine = s.engine ∧
    (s.stateNeed amount priority).port = s.port ∧ (s.stateNeed amount priority).guardUnit = s.guardUnit ∧
    (s.stateNeed amount priority).station = s.station ∧ (s.stateNeed amount priority).address = s.address ∧
    (s.stateNeed amount priority).config = s.config := by
  unfold State.stateNeed
  dsimp only
  (repeat' split) <;> simp

@[simp] theorem State.claimCompleted_frame (s : State) (kind : BitVec 5) (order : Word) (newest : Bool) :
    (s.claimCompleted kind order newest).pending = s.pending ∧ (s.claimCompleted kind order newest).time = s.time ∧
    (s.claimCompleted kind order newest).startup = s.startup ∧
    (s.claimCompleted kind order newest).line.judgement = s.line.judgement ∧
    (s.claimCompleted kind order newest).line.driving = s.line.driving ∧
    (s.claimCompleted kind order newest).line.silo = s.line.silo ∧
    (s.claimCompleted kind order newest).line.order = s.line.order ∧
    (s.claimCompleted kind order newest).line.receiveErrors = s.line.receiveErrors ∧
    (s.claimCompleted kind order newest).line.overruns = s.line.overruns ∧
    (s.claimCompleted kind order newest).line.foreign = s.line.foreign ∧
    (s.claimCompleted kind order newest).headroom.peers = s.headroom.peers ∧
    (s.claimCompleted kind order newest).headroom.aged = s.headroom.aged ∧
    (s.claimCompleted kind order newest).headroom.suspect = s.headroom.suspect ∧
    (s.claimCompleted kind order newest).headroom.reListen = s.headroom.reListen ∧
    (s.claimCompleted kind order newest).headroom.sagRun = s.headroom.sagRun ∧
    (s.claimCompleted kind order newest).headroom.sagEpisode = s.headroom.sagEpisode ∧
    (s.claimCompleted kind order newest).slotTable = s.slotTable ∧
    (s.claimCompleted kind order newest).engine = s.engine ∧ (s.claimCompleted kind order newest).port = s.port ∧
    (s.claimCompleted kind order newest).guardUnit = s.guardUnit ∧
    (s.claimCompleted kind order newest).station = s.station ∧
    (s.claimCompleted kind order newest).address = s.address ∧
    (s.claimCompleted kind order newest).config = s.config := by
  unfold State.claimCompleted
  dsimp only
  (repeat' split) <;> simp

@[simp] theorem State.headroomSet_frame (s : State) (x : SampleSet) :
    (s.headroomSet x).pending = s.pending ∧ (s.headroomSet x).time = s.time ∧
    (s.headroomSet x).startup = s.startup ∧ (s.headroomSet x).line.judgement = s.line.judgement ∧
    (s.headroomSet x).line.driving = s.line.driving ∧ (s.headroomSet x).line.silo = s.line.silo ∧
    (s.headroomSet x).line.order = s.line.order ∧ (s.headroomSet x).line.receiveErrors = s.line.receiveErrors ∧
    (s.headroomSet x).line.overruns = s.line.overruns ∧ (s.headroomSet x).line.foreign = s.line.foreign ∧
    (s.headroomSet x).headroom.peers = s.headroom.peers ∧ (s.headroomSet x).headroom.aged = s.headroom.aged ∧
    (s.headroomSet x).headroom.suspect = s.headroom.suspect ∧
    (s.headroomSet x).headroom.reListen = s.headroom.reListen ∧
    (s.headroomSet x).headroom.claim = s.headroom.claim ∧ (s.headroomSet x).headroom.held = s.headroom.held ∧
    (s.headroomSet x).headroom.need = s.headroom.need ∧ (s.headroomSet x).headroom.priority = s.headroom.priority ∧
    (s.headroomSet x).headroom.current = s.headroom.current ∧ (s.headroomSet x).headroom.own = s.headroom.own ∧
    (s.headroomSet x).headroom.askCompleted = s.headroom.askCompleted ∧
    (s.headroomSet x).headroom.denial = s.headroom.denial ∧ (s.headroomSet x).headroom.note = s.headroom.note ∧
    (s.headroomSet x).headroom.yields = s.headroom.yields ∧ (s.headroomSet x).headroom.target = s.headroom.target ∧
    (s.headroomSet x).headroom.contestTimer = s.headroom.contestTimer ∧
    (s.headroomSet x).headroom.backoffTimer = s.headroom.backoffTimer ∧
    (s.headroomSet x).headroom.refreshTimer = s.headroom.refreshTimer ∧
    (s.headroomSet x).headroom.staleTimer = s.headroom.staleTimer ∧ (s.headroomSet x).slotTable = s.slotTable ∧
    (s.headroomSet x).engine = s.engine ∧ (s.headroomSet x).port = s.port ∧
    (s.headroomSet x).guardUnit = s.guardUnit ∧ (s.headroomSet x).station = s.station ∧
    (s.headroomSet x).address = s.address ∧ (s.headroomSet x).config = s.config := by
  unfold State.headroomSet
  dsimp only
  (repeat' split) <;> simp

@[simp] theorem State.putSlot_frame (s : State) (n : Fin 8) (x : Slot) :
    (s.putSlot n x).pending = s.pending ∧ (s.putSlot n x).time = s.time ∧ (s.putSlot n x).startup = s.startup ∧
    (s.putSlot n x).line = s.line ∧ (s.putSlot n x).headroom = s.headroom ∧
    (s.putSlot n x).slotTable.arrival = s.slotTable.arrival ∧ (s.putSlot n x).slotTable.queue = s.slotTable.queue ∧
    (s.putSlot n x).engine = s.engine ∧ (s.putSlot n x).port = s.port ∧ (s.putSlot n x).guardUnit = s.guardUnit ∧
    (s.putSlot n x).station = s.station ∧ (s.putSlot n x).address = s.address ∧ (s.putSlot n x).config = s.config := by
  simp [State.putSlot]

@[simp] theorem State.vacate_frame (s : State) (n : Fin 8) :
    (s.vacate n).pending = s.pending ∧ (s.vacate n).time = s.time ∧ (s.vacate n).startup = s.startup ∧
    (s.vacate n).line = s.line ∧ (s.vacate n).headroom = s.headroom ∧
    (s.vacate n).slotTable.arrival = s.slotTable.arrival ∧ (s.vacate n).engine = s.engine ∧
    (s.vacate n).port = s.port ∧ (s.vacate n).guardUnit = s.guardUnit ∧ (s.vacate n).station = s.station ∧
    (s.vacate n).address = s.address ∧ (s.vacate n).config = s.config := by
  simp [State.vacate]

@[simp] theorem State.releaseLocks_frame (s : State) (hits : Nat → Bool) :
    (s.releaseLocks hits).pending = s.pending ∧ (s.releaseLocks hits).time = s.time ∧
    (s.releaseLocks hits).startup = s.startup ∧ (s.releaseLocks hits).line = s.line ∧
    (s.releaseLocks hits).headroom = s.headroom ∧ (s.releaseLocks hits).slotTable.arrival = s.slotTable.arrival ∧
    (s.releaseLocks hits).slotTable.queue = s.slotTable.queue ∧ (s.releaseLocks hits).engine = s.engine ∧
    (s.releaseLocks hits).port = s.port ∧ (s.releaseLocks hits).guardUnit = s.guardUnit ∧
    (s.releaseLocks hits).station = s.station ∧ (s.releaseLocks hits).address = s.address ∧
    (s.releaseLocks hits).config = s.config := by
  simp [State.releaseLocks]

@[simp] theorem State.replyCompleted_frame (s : State) (e : Entry) :
    (s.replyCompleted e).pending = s.pending ∧ (s.replyCompleted e).time = s.time ∧
    (s.replyCompleted e).startup = s.startup ∧ (s.replyCompleted e).line = s.line ∧
    (s.replyCompleted e).headroom = s.headroom ∧ (s.replyCompleted e).slotTable.arrival = s.slotTable.arrival ∧
    (s.replyCompleted e).slotTable.queue = s.slotTable.queue ∧ (s.replyCompleted e).engine = s.engine ∧
    (s.replyCompleted e).port = s.port ∧ (s.replyCompleted e).guardUnit = s.guardUnit ∧
    (s.replyCompleted e).station = s.station ∧ (s.replyCompleted e).address = s.address ∧
    (s.replyCompleted e).config = s.config := by
  simp [State.replyCompleted]

@[simp] theorem State.replyRemoved_frame (s : State) (e : Entry) :
    (s.replyRemoved e).pending = s.pending ∧ (s.replyRemoved e).time = s.time ∧
    (s.replyRemoved e).startup = s.startup ∧ (s.replyRemoved e).line = s.line ∧
    (s.replyRemoved e).headroom = s.headroom ∧ (s.replyRemoved e).slotTable.arrival = s.slotTable.arrival ∧
    (s.replyRemoved e).slotTable.queue = s.slotTable.queue ∧ (s.replyRemoved e).engine = s.engine ∧
    (s.replyRemoved e).port = s.port ∧ (s.replyRemoved e).guardUnit = s.guardUnit ∧
    (s.replyRemoved e).station = s.station ∧ (s.replyRemoved e).address = s.address ∧
    (s.replyRemoved e).config = s.config := by
  simp [State.replyRemoved]

@[simp] theorem State.replySlot_frame (s : State) (target : Address) (n : Fin 8) :
    (s.replySlot target n).pending = s.pending ∧ (s.replySlot target n).time = s.time ∧
    (s.replySlot target n).startup = s.startup ∧ (s.replySlot target n).line.judgement = s.line.judgement ∧
    (s.replySlot target n).line.driving = s.line.driving ∧ (s.replySlot target n).line.silo = s.line.silo ∧
    (s.replySlot target n).line.order = s.line.order ∧
    (s.replySlot target n).line.receiveErrors = s.line.receiveErrors ∧
    (s.replySlot target n).line.overruns = s.line.overruns ∧ (s.replySlot target n).line.foreign = s.line.foreign ∧
    (s.replySlot target n).headroom = s.headroom ∧ (s.replySlot target n).slotTable = s.slotTable ∧
    (s.replySlot target n).engine = s.engine ∧ (s.replySlot target n).port = s.port ∧
    (s.replySlot target n).guardUnit = s.guardUnit ∧ (s.replySlot target n).station = s.station ∧
    (s.replySlot target n).address = s.address ∧ (s.replySlot target n).config = s.config := by
  simp [State.replySlot]

@[simp] theorem State.replyStatus_frame (s : State) (block : Block) (target : Address) :
    (s.replyStatus block target).pending = s.pending ∧ (s.replyStatus block target).time = s.time ∧
    (s.replyStatus block target).startup = s.startup ∧
    (s.replyStatus block target).line.judgement = s.line.judgement ∧
    (s.replyStatus block target).line.driving = s.line.driving ∧
    (s.replyStatus block target).line.silo = s.line.silo ∧ (s.replyStatus block target).line.order = s.line.order ∧
    (s.replyStatus block target).line.receiveErrors = s.line.receiveErrors ∧
    (s.replyStatus block target).line.overruns = s.line.overruns ∧
    (s.replyStatus block target).line.foreign = s.line.foreign ∧
    (s.replyStatus block target).headroom = s.headroom ∧ (s.replyStatus block target).slotTable = s.slotTable ∧
    (s.replyStatus block target).engine = s.engine ∧ (s.replyStatus block target).port = s.port ∧
    (s.replyStatus block target).guardUnit = s.guardUnit ∧ (s.replyStatus block target).station = s.station ∧
    (s.replyStatus block target).address = s.address ∧ (s.replyStatus block target).config = s.config := by
  simp [State.replyStatus]

@[simp] theorem State.refuse_frame (s : State) (block : Block) (f : Frame) (reason : Reason) (detail : Nat) :
    (s.refuse block f reason detail).pending = s.pending ∧ (s.refuse block f reason detail).time = s.time ∧
    (s.refuse block f reason detail).startup = s.startup ∧
    (s.refuse block f reason detail).line.judgement = s.line.judgement ∧
    (s.refuse block f reason detail).line.driving = s.line.driving ∧
    (s.refuse block f reason detail).line.silo = s.line.silo ∧
    (s.refuse block f reason detail).line.order = s.line.order ∧
    (s.refuse block f reason detail).line.receiveErrors = s.line.receiveErrors ∧
    (s.refuse block f reason detail).line.overruns = s.line.overruns ∧
    (s.refuse block f reason detail).line.foreign = s.line.foreign ∧
    (s.refuse block f reason detail).headroom = s.headroom ∧
    (s.refuse block f reason detail).slotTable = s.slotTable ∧ (s.refuse block f reason detail).engine = s.engine ∧
    (s.refuse block f reason detail).port = s.port ∧ (s.refuse block f reason detail).guardUnit = s.guardUnit ∧
    (s.refuse block f reason detail).station = s.station ∧ (s.refuse block f reason detail).address = s.address ∧
    (s.refuse block f reason detail).config = s.config := by
  unfold State.refuse
  (repeat' split) <;> simp

@[simp] theorem State.settle_frame (s : State) (d : Determined) :
    (s.settle d).pending = s.pending ∧ (s.settle d).time = s.time ∧ (s.settle d).startup = s.startup ∧
    (s.settle d).line = s.line ∧ (s.settle d).headroom = s.headroom ∧ (s.settle d).slotTable = s.slotTable ∧
    (s.settle d).port.last = s.port.last ∧ (s.settle d).port.watchdog = s.port.watchdog ∧
    (s.settle d).port.samplesPresent = s.port.samplesPresent ∧ (s.settle d).port.path = s.port.path ∧
    (s.settle d).port.readWaiting = s.port.readWaiting ∧ (s.settle d).port.onPort = s.port.onPort ∧
    (s.settle d).port.ackTimer = s.port.ackTimer ∧ (s.settle d).port.applied = s.port.applied ∧
    (s.settle d).port.estop = s.port.estop ∧ (s.settle d).port.hold = s.port.hold ∧
    (s.settle d).port.ceiling = s.port.ceiling ∧ (s.settle d).port.standing = s.port.standing ∧
    (s.settle d).port.confirmedOpen = s.port.confirmedOpen ∧ (s.settle d).guardUnit = s.guardUnit ∧
    (s.settle d).station = s.station ∧ (s.settle d).address = s.address ∧ (s.settle d).config = s.config := by
  simp [State.settle]

@[simp] theorem State.beginRamp_frame (s : State) (r : Ramp) :
    (s.beginRamp r).pending = s.pending ∧ (s.beginRamp r).time = s.time ∧ (s.beginRamp r).startup = s.startup ∧
    (s.beginRamp r).line = s.line ∧ (s.beginRamp r).headroom = s.headroom ∧
    (s.beginRamp r).slotTable = s.slotTable ∧ (s.beginRamp r).port.last = s.port.last ∧
    (s.beginRamp r).port.watchdog = s.port.watchdog ∧ (s.beginRamp r).port.samplesPresent = s.port.samplesPresent ∧
    (s.beginRamp r).port.path = s.port.path ∧ (s.beginRamp r).port.readWaiting = s.port.readWaiting ∧
    (s.beginRamp r).port.onPort = s.port.onPort ∧ (s.beginRamp r).port.ackTimer = s.port.ackTimer ∧
    (s.beginRamp r).port.applied = s.port.applied ∧ (s.beginRamp r).port.estop = s.port.estop ∧
    (s.beginRamp r).port.hold = s.port.hold ∧ (s.beginRamp r).port.ceiling = s.port.ceiling ∧
    (s.beginRamp r).port.standing = s.port.standing ∧ (s.beginRamp r).port.confirmedOpen = s.port.confirmedOpen ∧
    (s.beginRamp r).guardUnit = s.guardUnit ∧ (s.beginRamp r).station = s.station ∧
    (s.beginRamp r).address = s.address ∧ (s.beginRamp r).config = s.config := by
  simp [State.beginRamp]

@[simp] theorem State.beginPreload_frame (s : State) (p : TimeParams) :
    (s.beginPreload p).pending = s.pending ∧ (s.beginPreload p).time = s.time ∧
    (s.beginPreload p).startup = s.startup ∧ (s.beginPreload p).line = s.line ∧
    (s.beginPreload p).headroom = s.headroom ∧ (s.beginPreload p).slotTable = s.slotTable ∧
    (s.beginPreload p).port.last = s.port.last ∧ (s.beginPreload p).port.watchdog = s.port.watchdog ∧
    (s.beginPreload p).port.samplesPresent = s.port.samplesPresent ∧ (s.beginPreload p).port.path = s.port.path ∧
    (s.beginPreload p).port.readWaiting = s.port.readWaiting ∧ (s.beginPreload p).port.onPort = s.port.onPort ∧
    (s.beginPreload p).port.ackTimer = s.port.ackTimer ∧ (s.beginPreload p).port.applied = s.port.applied ∧
    (s.beginPreload p).port.estop = s.port.estop ∧ (s.beginPreload p).port.hold = s.port.hold ∧
    (s.beginPreload p).port.ceiling = s.port.ceiling ∧ (s.beginPreload p).port.standing = s.port.standing ∧
    (s.beginPreload p).port.confirmedOpen = s.port.confirmedOpen ∧ (s.beginPreload p).guardUnit = s.guardUnit ∧
    (s.beginPreload p).station = s.station ∧ (s.beginPreload p).address = s.address ∧
    (s.beginPreload p).config = s.config := by
  simp [State.beginPreload]

@[simp] theorem State.granted_frame (s : State) (atOnce : Bool) :
    (s.granted atOnce).pending = s.pending ∧ (s.granted atOnce).time = s.time ∧
    (s.granted atOnce).startup = s.startup ∧ (s.granted atOnce).line.judgement = s.line.judgement ∧
    (s.granted atOnce).line.driving = s.line.driving ∧ (s.granted atOnce).line.silo = s.line.silo ∧
    (s.granted atOnce).line.order = s.line.order ∧ (s.granted atOnce).line.receiveErrors = s.line.receiveErrors ∧
    (s.granted atOnce).line.overruns = s.line.overruns ∧ (s.granted atOnce).line.foreign = s.line.foreign ∧
    (s.granted atOnce).headroom.peers = s.headroom.peers ∧ (s.granted atOnce).headroom.aged = s.headroom.aged ∧
    (s.granted atOnce).headroom.suspect = s.headroom.suspect ∧
    (s.granted atOnce).headroom.reListen = s.headroom.reListen ∧
    (s.granted atOnce).headroom.sagRun = s.headroom.sagRun ∧
    (s.granted atOnce).headroom.sagEpisode = s.headroom.sagEpisode ∧ (s.granted atOnce).slotTable = s.slotTable ∧
    (s.granted atOnce).port.last = s.port.last ∧ (s.granted atOnce).port.watchdog = s.port.watchdog ∧
    (s.granted atOnce).port.samplesPresent = s.port.samplesPresent ∧ (s.granted atOnce).port.path = s.port.path ∧
    (s.granted atOnce).port.readWaiting = s.port.readWaiting ∧ (s.granted atOnce).port.onPort = s.port.onPort ∧
    (s.granted atOnce).port.ackTimer = s.port.ackTimer ∧ (s.granted atOnce).port.applied = s.port.applied ∧
    (s.granted atOnce).port.estop = s.port.estop ∧ (s.granted atOnce).port.hold = s.port.hold ∧
    (s.granted atOnce).port.ceiling = s.port.ceiling ∧ (s.granted atOnce).port.standing = s.port.standing ∧
    (s.granted atOnce).port.confirmedOpen = s.port.confirmedOpen ∧ (s.granted atOnce).guardUnit = s.guardUnit ∧
    (s.granted atOnce).station = s.station ∧ (s.granted atOnce).address = s.address ∧
    (s.granted atOnce).config = s.config := by
  unfold State.granted
  dsimp only
  (repeat' split) <;> simp

@[simp] theorem State.enterClaiming_frame (s : State) (c : Check) :
    (s.enterClaiming c).pending = s.pending ∧ (s.enterClaiming c).time = s.time ∧
    (s.enterClaiming c).startup = s.startup ∧ (s.enterClaiming c).line.judgement = s.line.judgement ∧
    (s.enterClaiming c).line.driving = s.line.driving ∧ (s.enterClaiming c).line.silo = s.line.silo ∧
    (s.enterClaiming c).line.order = s.line.order ∧ (s.enterClaiming c).line.receiveErrors = s.line.receiveErrors ∧
    (s.enterClaiming c).line.overruns = s.line.overruns ∧ (s.enterClaiming c).line.foreign = s.line.foreign ∧
    (s.enterClaiming c).headroom.peers = s.headroom.peers ∧ (s.enterClaiming c).headroom.aged = s.headroom.aged ∧
    (s.enterClaiming c).headroom.suspect = s.headroom.suspect ∧
    (s.enterClaiming c).headroom.reListen = s.headroom.reListen ∧
    (s.enterClaiming c).headroom.sagRun = s.headroom.sagRun ∧
    (s.enterClaiming c).headroom.sagEpisode = s.headroom.sagEpisode ∧ (s.enterClaiming c).slotTable = s.slotTable ∧
    (s.enterClaiming c).port.last = s.port.last ∧ (s.enterClaiming c).port.watchdog = s.port.watchdog ∧
    (s.enterClaiming c).port.samplesPresent = s.port.samplesPresent ∧ (s.enterClaiming c).port.path = s.port.path ∧
    (s.enterClaiming c).port.readWaiting = s.port.readWaiting ∧ (s.enterClaiming c).port.onPort = s.port.onPort ∧
    (s.enterClaiming c).port.ackTimer = s.port.ackTimer ∧ (s.enterClaiming c).port.applied = s.port.applied ∧
    (s.enterClaiming c).port.estop = s.port.estop ∧ (s.enterClaiming c).port.hold = s.port.hold ∧
    (s.enterClaiming c).port.ceiling = s.port.ceiling ∧ (s.enterClaiming c).port.standing = s.port.standing ∧
    (s.enterClaiming c).port.confirmedOpen = s.port.confirmedOpen ∧ (s.enterClaiming c).guardUnit = s.guardUnit ∧
    (s.enterClaiming c).station = s.station ∧ (s.enterClaiming c).address = s.address ∧
    (s.enterClaiming c).config = s.config := by
  unfold State.enterClaiming
  dsimp only
  (repeat' split) <;> simp

@[simp] theorem State.restShown_frame (s : State) (c : Check) :
    (s.restShown c).pending = s.pending ∧ (s.restShown c).time = s.time ∧ (s.restShown c).startup = s.startup ∧
    (s.restShown c).line.judgement = s.line.judgement ∧ (s.restShown c).line.driving = s.line.driving ∧
    (s.restShown c).line.silo = s.line.silo ∧ (s.restShown c).line.order = s.line.order ∧
    (s.restShown c).line.receiveErrors = s.line.receiveErrors ∧ (s.restShown c).line.overruns = s.line.overruns ∧
    (s.restShown c).line.foreign = s.line.foreign ∧ (s.restShown c).headroom.peers = s.headroom.peers ∧
    (s.restShown c).headroom.aged = s.headroom.aged ∧ (s.restShown c).headroom.suspect = s.headroom.suspect ∧
    (s.restShown c).headroom.reListen = s.headroom.reListen ∧ (s.restShown c).headroom.sagRun = s.headroom.sagRun ∧
    (s.restShown c).headroom.sagEpisode = s.headroom.sagEpisode ∧ (s.restShown c).slotTable = s.slotTable ∧
    (s.restShown c).port.last = s.port.last ∧ (s.restShown c).port.watchdog = s.port.watchdog ∧
    (s.restShown c).port.samplesPresent = s.port.samplesPresent ∧ (s.restShown c).port.path = s.port.path ∧
    (s.restShown c).port.readWaiting = s.port.readWaiting ∧ (s.restShown c).port.onPort = s.port.onPort ∧
    (s.restShown c).port.ackTimer = s.port.ackTimer ∧ (s.restShown c).port.applied = s.port.applied ∧
    (s.restShown c).port.estop = s.port.estop ∧ (s.restShown c).port.hold = s.port.hold ∧
    (s.restShown c).port.ceiling = s.port.ceiling ∧ (s.restShown c).port.standing = s.port.standing ∧
    (s.restShown c).port.confirmedOpen = s.port.confirmedOpen ∧ (s.restShown c).guardUnit = s.guardUnit ∧
    (s.restShown c).station = s.station ∧ (s.restShown c).address = s.address ∧ (s.restShown c).config = s.config := by
  unfold State.restShown
  (repeat' split) <;> simp

@[simp] theorem State.enterAbort_frame (s : State) (cause : Option Cause) (noResult : Bool) :
    (s.enterAbort cause noResult).pending = s.pending ∧ (s.enterAbort cause noResult).time = s.time ∧
    (s.enterAbort cause noResult).startup = s.startup ∧ (s.enterAbort cause noResult).line = s.line ∧
    (s.enterAbort cause noResult).headroom = s.headroom ∧ (s.enterAbort cause noResult).slotTable = s.slotTable ∧
    (s.enterAbort cause noResult).port.last = s.port.last ∧
    (s.enterAbort cause noResult).port.watchdog = s.port.watchdog ∧
    (s.enterAbort cause noResult).port.samplesPresent = s.port.samplesPresent ∧
    (s.enterAbort cause noResult).port.path = s.port.path ∧
    (s.enterAbort cause noResult).port.readWaiting = s.port.readWaiting ∧
    (s.enterAbort cause noResult).port.onPort = s.port.onPort ∧
    (s.enterAbort cause noResult).port.ackTimer = s.port.ackTimer ∧
    (s.enterAbort cause noResult).port.applied = s.port.applied ∧
    (s.enterAbort cause noResult).port.estop = s.port.estop ∧
    (s.enterAbort cause noResult).port.hold = s.port.hold ∧
    (s.enterAbort cause noResult).port.ceiling = s.port.ceiling ∧
    (s.enterAbort cause noResult).port.standing = s.port.standing ∧
    (s.enterAbort cause noResult).port.confirmedOpen = s.port.confirmedOpen ∧
    (s.enterAbort cause noResult).guardUnit = s.guardUnit ∧ (s.enterAbort cause noResult).station = s.station ∧
    (s.enterAbort cause noResult).address = s.address ∧ (s.enterAbort cause noResult).config = s.config := by
  simp [State.enterAbort]

@[simp] theorem State.closeWasRefused_frame (s : State) :
    (s.closeWasRefused).pending = s.pending ∧ (s.closeWasRefused).time = s.time ∧
    (s.closeWasRefused).startup = s.startup ∧ (s.closeWasRefused).line = s.line ∧
    (s.closeWasRefused).headroom = s.headroom ∧ (s.closeWasRefused).slotTable = s.slotTable ∧
    (s.closeWasRefused).port.last = s.port.last ∧ (s.closeWasRefused).port.watchdog = s.port.watchdog ∧
    (s.closeWasRefused).port.samplesPresent = s.port.samplesPresent ∧ (s.closeWasRefused).port.path = s.port.path ∧
    (s.closeWasRefused).port.readWaiting = s.port.readWaiting ∧ (s.closeWasRefused).port.onPort = s.port.onPort ∧
    (s.closeWasRefused).port.ackTimer = s.port.ackTimer ∧ (s.closeWasRefused).port.applied = s.port.applied ∧
    (s.closeWasRefused).port.estop = s.port.estop ∧ (s.closeWasRefused).port.hold = s.port.hold ∧
    (s.closeWasRefused).port.ceiling = s.port.ceiling ∧ (s.closeWasRefused).port.standing = s.port.standing ∧
    (s.closeWasRefused).port.confirmedOpen = s.port.confirmedOpen ∧ (s.closeWasRefused).guardUnit = s.guardUnit ∧
    (s.closeWasRefused).station = s.station ∧ (s.closeWasRefused).address = s.address ∧
    (s.closeWasRefused).config = s.config := by
  simp [State.closeWasRefused]

@[simp] theorem State.quietContactor_frame (s : State) :
    (s.quietContactor).pending = s.pending ∧ (s.quietContactor).time = s.time ∧
    (s.quietContactor).startup = s.startup ∧ (s.quietContactor).line = s.line ∧
    (s.quietContactor).headroom = s.headroom ∧ (s.quietContactor).slotTable = s.slotTable ∧
    (s.quietContactor).port.last = s.port.last ∧ (s.quietContactor).port.watchdog = s.port.watchdog ∧
    (s.quietContactor).port.samplesPresent = s.port.samplesPresent ∧ (s.quietContactor).port.path = s.port.path ∧
    (s.quietContactor).port.readWaiting = s.port.readWaiting ∧ (s.quietContactor).port.onPort = s.port.onPort ∧
    (s.quietContactor).port.ackTimer = s.port.ackTimer ∧ (s.quietContactor).port.applied = s.port.applied ∧
    (s.quietContactor).port.estop = s.port.estop ∧ (s.quietContactor).port.hold = s.port.hold ∧
    (s.quietContactor).port.ceiling = s.port.ceiling ∧ (s.quietContactor).guardUnit = s.guardUnit ∧
    (s.quietContactor).station = s.station ∧ (s.quietContactor).address = s.address ∧
    (s.quietContactor).config = s.config := by
  unfold State.quietContactor
  (repeat' split) <;> simp

@[simp] theorem State.enterQuiet_frame (s : State) :
    (s.enterQuiet).pending = s.pending ∧ (s.enterQuiet).time = s.time ∧ (s.enterQuiet).startup = s.startup ∧
    (s.enterQuiet).line = s.line ∧ (s.enterQuiet).headroom = s.headroom ∧ (s.enterQuiet).slotTable = s.slotTable ∧
    (s.enterQuiet).port.last = s.port.last ∧ (s.enterQuiet).port.watchdog = s.port.watchdog ∧
    (s.enterQuiet).port.samplesPresent = s.port.samplesPresent ∧ (s.enterQuiet).port.path = s.port.path ∧
    (s.enterQuiet).port.readWaiting = s.port.readWaiting ∧ (s.enterQuiet).port.onPort = s.port.onPort ∧
    (s.enterQuiet).port.ackTimer = s.port.ackTimer ∧ (s.enterQuiet).port.applied = s.port.applied ∧
    (s.enterQuiet).port.estop = s.port.estop ∧ (s.enterQuiet).port.hold = s.port.hold ∧
    (s.enterQuiet).port.ceiling = s.port.ceiling ∧ (s.enterQuiet).guardUnit = s.guardUnit ∧
    (s.enterQuiet).station = s.station ∧ (s.enterQuiet).address = s.address ∧ (s.enterQuiet).config = s.config := by
  unfold State.enterQuiet
  (repeat' split) <;> simp

@[simp] theorem State.settleCarry_frame (s : State) (w : Work) :
    (s.settleCarry w).pending = s.pending ∧ (s.settleCarry w).time = s.time ∧
    (s.settleCarry w).startup = s.startup ∧ (s.settleCarry w).line.judgement = s.line.judgement ∧
    (s.settleCarry w).line.driving = s.line.driving ∧ (s.settleCarry w).line.silo = s.line.silo ∧
    (s.settleCarry w).line.order = s.line.order ∧ (s.settleCarry w).line.receiveErrors = s.line.receiveErrors ∧
    (s.settleCarry w).line.overruns = s.line.overruns ∧ (s.settleCarry w).line.foreign = s.line.foreign ∧
    (s.settleCarry w).headroom.peers = s.headroom.peers ∧ (s.settleCarry w).headroom.aged = s.headroom.aged ∧
    (s.settleCarry w).headroom.suspect = s.headroom.suspect ∧
    (s.settleCarry w).headroom.reListen = s.headroom.reListen ∧
    (s.settleCarry w).headroom.sagRun = s.headroom.sagRun ∧
    (s.settleCarry w).headroom.sagEpisode = s.headroom.sagEpisode ∧ (s.settleCarry w).slotTable = s.slotTable ∧
    (s.settleCarry w).port = s.port ∧ (s.settleCarry w).guardUnit = s.guardUnit ∧
    (s.settleCarry w).station = s.station ∧ (s.settleCarry w).address = s.address ∧
    (s.settleCarry w).config = s.config := by
  unfold State.settleCarry
  (repeat' split) <;> simp

@[simp] theorem State.handOver_frame (s : State) (n : Fin 8) (h : SlotHead) (w : Work) :
    (s.handOver n h w).pending = s.pending ∧ (s.handOver n h w).time = s.time ∧
    (s.handOver n h w).startup = s.startup ∧ (s.handOver n h w).line.judgement = s.line.judgement ∧
    (s.handOver n h w).line.driving = s.line.driving ∧ (s.handOver n h w).line.silo = s.line.silo ∧
    (s.handOver n h w).line.order = s.line.order ∧ (s.handOver n h w).line.receiveErrors = s.line.receiveErrors ∧
    (s.handOver n h w).line.overruns = s.line.overruns ∧ (s.handOver n h w).line.foreign = s.line.foreign ∧
    (s.handOver n h w).headroom.peers = s.headroom.peers ∧ (s.handOver n h w).headroom.aged = s.headroom.aged ∧
    (s.handOver n h w).headroom.suspect = s.headroom.suspect ∧
    (s.handOver n h w).headroom.reListen = s.headroom.reListen ∧
    (s.handOver n h w).headroom.sagRun = s.headroom.sagRun ∧
    (s.handOver n h w).headroom.sagEpisode = s.headroom.sagEpisode ∧ (s.handOver n h w).slotTable = s.slotTable ∧
    (s.handOver n h w).port.last = s.port.last ∧ (s.handOver n h w).port.watchdog = s.port.watchdog ∧
    (s.handOver n h w).port.samplesPresent = s.port.samplesPresent ∧ (s.handOver n h w).port.path = s.port.path ∧
    (s.handOver n h w).port.readWaiting = s.port.readWaiting ∧ (s.handOver n h w).port.onPort = s.port.onPort ∧
    (s.handOver n h w).port.ackTimer = s.port.ackTimer ∧ (s.handOver n h w).port.applied = s.port.applied ∧
    (s.handOver n h w).port.estop = s.port.estop ∧ (s.handOver n h w).port.hold = s.port.hold ∧
    (s.handOver n h w).guardUnit = s.guardUnit ∧ (s.handOver n h w).station = s.station ∧
    (s.handOver n h w).address = s.address ∧ (s.handOver n h w).config = s.config := by
  simp [State.handOver]

@[simp] theorem State.examineStart_frame (s : State) :
    (s.examineStart).pending = s.pending ∧ (s.examineStart).time = s.time ∧ (s.examineStart).startup = s.startup ∧
    (s.examineStart).line.judgement = s.line.judgement ∧ (s.examineStart).line.driving = s.line.driving ∧
    (s.examineStart).line.silo = s.line.silo ∧ (s.examineStart).line.order = s.line.order ∧
    (s.examineStart).line.receiveErrors = s.line.receiveErrors ∧ (s.examineStart).line.overruns = s.line.overruns ∧
    (s.examineStart).line.foreign = s.line.foreign ∧ (s.examineStart).headroom.peers = s.headroom.peers ∧
    (s.examineStart).headroom.aged = s.headroom.aged ∧ (s.examineStart).headroom.suspect = s.headroom.suspect ∧
    (s.examineStart).headroom.reListen = s.headroom.reListen ∧
    (s.examineStart).headroom.sagRun = s.headroom.sagRun ∧
    (s.examineStart).headroom.sagEpisode = s.headroom.sagEpisode ∧
    (s.examineStart).slotTable.arrival = s.slotTable.arrival ∧ (s.examineStart).port.last = s.port.last ∧
    (s.examineStart).port.watchdog = s.port.watchdog ∧
    (s.examineStart).port.samplesPresent = s.port.samplesPresent ∧ (s.examineStart).port.path = s.port.path ∧
    (s.examineStart).port.readWaiting = s.port.readWaiting ∧ (s.examineStart).port.onPort = s.port.onPort ∧
    (s.examineStart).port.ackTimer = s.port.ackTimer ∧ (s.examineStart).port.applied = s.port.applied ∧
    (s.examineStart).port.estop = s.port.estop ∧ (s.examineStart).port.hold = s.port.hold ∧
    (s.examineStart).guardUnit = s.guardUnit ∧ (s.examineStart).station = s.station ∧
    (s.examineStart).address = s.address ∧ (s.examineStart).config = s.config := by
  unfold State.examineStart
  dsimp only
  (repeat' split) <;> simp

@[simp] theorem State.completeReset_frame (s : State) :
    (s.completeReset).pending = s.pending ∧ (s.completeReset).time = s.time ∧
    (s.completeReset).startup = s.startup ∧ (s.completeReset).line.judgement = s.line.judgement ∧
    (s.completeReset).line.driving = s.line.driving ∧ (s.completeReset).line.silo = s.line.silo ∧
    (s.completeReset).line.order = s.line.order ∧ (s.completeReset).line.receiveErrors = s.line.receiveErrors ∧
    (s.completeReset).line.overruns = s.line.overruns ∧ (s.completeReset).line.foreign = s.line.foreign ∧
    (s.completeReset).headroom = s.headroom ∧ (s.completeReset).slotTable = s.slotTable ∧
    (s.completeReset).engine = s.engine ∧ (s.completeReset).port = s.port ∧
    (s.completeReset).guardUnit.effective = s.guardUnit.effective ∧
    (s.completeReset).guardUnit.latch = s.guardUnit.latch ∧
    (s.completeReset).guardUnit.further = s.guardUnit.further ∧
    (s.completeReset).guardUnit.runVoltage = s.guardUnit.runVoltage ∧
    (s.completeReset).guardUnit.runCurrent = s.guardUnit.runCurrent ∧
    (s.completeReset).guardUnit.runTemperature = s.guardUnit.runTemperature ∧
    (s.completeReset).station = s.station ∧ (s.completeReset).address = s.address ∧
    (s.completeReset).config = s.config := by
  unfold State.completeReset
  (repeat' split) <;> simp

@[simp] theorem State.dropCarry_frame (s : State) :
    (s.dropCarry).pending = s.pending ∧ (s.dropCarry).time = s.time ∧ (s.dropCarry).startup = s.startup ∧
    (s.dropCarry).line.judgement = s.line.judgement ∧ (s.dropCarry).line.driving = s.line.driving ∧
    (s.dropCarry).line.silo = s.line.silo ∧ (s.dropCarry).line.order = s.line.order ∧
    (s.dropCarry).line.receiveErrors = s.line.receiveErrors ∧ (s.dropCarry).line.overruns = s.line.overruns ∧
    (s.dropCarry).line.foreign = s.line.foreign ∧ (s.dropCarry).headroom.peers = s.headroom.peers ∧
    (s.dropCarry).headroom.aged = s.headroom.aged ∧ (s.dropCarry).headroom.suspect = s.headroom.suspect ∧
    (s.dropCarry).headroom.reListen = s.headroom.reListen ∧ (s.dropCarry).headroom.sagRun = s.headroom.sagRun ∧
    (s.dropCarry).headroom.sagEpisode = s.headroom.sagEpisode ∧ (s.dropCarry).slotTable = s.slotTable ∧
    (s.dropCarry).port = s.port ∧ (s.dropCarry).guardUnit = s.guardUnit ∧ (s.dropCarry).station = s.station ∧
    (s.dropCarry).address = s.address ∧ (s.dropCarry).config = s.config := by
  unfold State.dropCarry
  (repeat' split) <;> simp

@[simp] theorem State.reportIdle_frame (s : State) :
    (s.reportIdle).pending = s.pending ∧ (s.reportIdle).time = s.time ∧ (s.reportIdle).startup = s.startup ∧
    (s.reportIdle).line.judgement = s.line.judgement ∧ (s.reportIdle).line.driving = s.line.driving ∧
    (s.reportIdle).line.silo = s.line.silo ∧ (s.reportIdle).line.order = s.line.order ∧
    (s.reportIdle).line.receiveErrors = s.line.receiveErrors ∧ (s.reportIdle).line.overruns = s.line.overruns ∧
    (s.reportIdle).line.foreign = s.line.foreign ∧ (s.reportIdle).headroom.peers = s.headroom.peers ∧
    (s.reportIdle).headroom.aged = s.headroom.aged ∧ (s.reportIdle).headroom.suspect = s.headroom.suspect ∧
    (s.reportIdle).headroom.reListen = s.headroom.reListen ∧ (s.reportIdle).headroom.sagRun = s.headroom.sagRun ∧
    (s.reportIdle).headroom.sagEpisode = s.headroom.sagEpisode ∧
    (s.reportIdle).slotTable.arrival = s.slotTable.arrival ∧ (s.reportIdle).port.last = s.port.last ∧
    (s.reportIdle).port.watchdog = s.port.watchdog ∧ (s.reportIdle).port.samplesPresent = s.port.samplesPresent ∧
    (s.reportIdle).port.path = s.port.path ∧ (s.reportIdle).port.readWaiting = s.port.readWaiting ∧
    (s.reportIdle).port.onPort = s.port.onPort ∧ (s.reportIdle).port.ackTimer = s.port.ackTimer ∧
    (s.reportIdle).port.applied = s.port.applied ∧ (s.reportIdle).port.estop = s.port.estop ∧
    (s.reportIdle).port.hold = s.port.hold ∧ (s.reportIdle).guardUnit.effective = s.guardUnit.effective ∧
    (s.reportIdle).guardUnit.latch = s.guardUnit.latch ∧ (s.reportIdle).guardUnit.further = s.guardUnit.further ∧
    (s.reportIdle).station = s.station ∧ (s.reportIdle).address = s.address ∧ (s.reportIdle).config = s.config := by
  unfold State.reportIdle
  dsimp only
  (repeat' split) <;> simp

@[simp] theorem State.finishCheck_frame (s : State) (carry : Bool) :
    (s.finishCheck carry).pending = s.pending ∧ (s.finishCheck carry).time = s.time ∧
    (s.finishCheck carry).startup = s.startup ∧ (s.finishCheck carry).line.judgement = s.line.judgement ∧
    (s.finishCheck carry).line.driving = s.line.driving ∧ (s.finishCheck carry).line.silo = s.line.silo ∧
    (s.finishCheck carry).line.order = s.line.order ∧
    (s.finishCheck carry).line.receiveErrors = s.line.receiveErrors ∧
    (s.finishCheck carry).line.overruns = s.line.overruns ∧ (s.finishCheck carry).line.foreign = s.line.foreign ∧
    (s.finishCheck carry).headroom.peers = s.headroom.peers ∧
    (s.finishCheck carry).headroom.aged = s.headroom.aged ∧
    (s.finishCheck carry).headroom.suspect = s.headroom.suspect ∧
    (s.finishCheck carry).headroom.reListen = s.headroom.reListen ∧
    (s.finishCheck carry).headroom.sagRun = s.headroom.sagRun ∧
    (s.finishCheck carry).headroom.sagEpisode = s.headroom.sagEpisode ∧
    (s.finishCheck carry).slotTable.arrival = s.slotTable.arrival ∧ (s.finishCheck carry).port.last = s.port.last ∧
    (s.finishCheck carry).port.watchdog = s.port.watchdog ∧
    (s.finishCheck carry).port.samplesPresent = s.port.samplesPresent ∧
    (s.finishCheck carry).port.path = s.port.path ∧ (s.finishCheck carry).port.readWaiting = s.port.readWaiting ∧
    (s.finishCheck carry).port.onPort = s.port.onPort ∧ (s.finishCheck carry).port.ackTimer = s.port.ackTimer ∧
    (s.finishCheck carry).port.applied = s.port.applied ∧ (s.finishCheck carry).port.estop = s.port.estop ∧
    (s.finishCheck carry).port.hold = s.port.hold ∧
    (s.finishCheck carry).guardUnit.effective = s.guardUnit.effective ∧
    (s.finishCheck carry).guardUnit.latch = s.guardUnit.latch ∧
    (s.finishCheck carry).guardUnit.further = s.guardUnit.further ∧ (s.finishCheck carry).station = s.station ∧
    (s.finishCheck carry).address = s.address ∧ (s.finishCheck carry).config = s.config := by
  simp [State.finishCheck]

@[simp] theorem State.slotDone_frame (s : State) (n : Fin 8) (r : ResultRecord) :
    (s.slotDone n r).pending = s.pending ∧ (s.slotDone n r).time = s.time ∧ (s.slotDone n r).startup = s.startup ∧
    (s.slotDone n r).line.judgement = s.line.judgement ∧ (s.slotDone n r).line.driving = s.line.driving ∧
    (s.slotDone n r).line.silo = s.line.silo ∧ (s.slotDone n r).line.order = s.line.order ∧
    (s.slotDone n r).line.receiveErrors = s.line.receiveErrors ∧ (s.slotDone n r).line.overruns = s.line.overruns ∧
    (s.slotDone n r).line.foreign = s.line.foreign ∧ (s.slotDone n r).headroom = s.headroom ∧
    (s.slotDone n r).slotTable.arrival = s.slotTable.arrival ∧
    (s.slotDone n r).slotTable.queue = s.slotTable.queue ∧ (s.slotDone n r).engine = s.engine ∧
    (s.slotDone n r).port = s.port ∧ (s.slotDone n r).guardUnit = s.guardUnit ∧
    (s.slotDone n r).station = s.station ∧ (s.slotDone n r).address = s.address ∧ (s.slotDone n r).config = s.config := by
  unfold State.slotDone
  (repeat' split) <;> simp

@[simp] theorem State.handBack_frame (s : State) (r : ResultRecord) :
    (s.handBack r).pending = s.pending ∧ (s.handBack r).time = s.time ∧ (s.handBack r).startup = s.startup ∧
    (s.handBack r).line.judgement = s.line.judgement ∧ (s.handBack r).line.driving = s.line.driving ∧
    (s.handBack r).line.silo = s.line.silo ∧ (s.handBack r).line.order = s.line.order ∧
    (s.handBack r).line.receiveErrors = s.line.receiveErrors ∧ (s.handBack r).line.overruns = s.line.overruns ∧
    (s.handBack r).line.foreign = s.line.foreign ∧ (s.handBack r).headroom = s.headroom ∧
    (s.handBack r).slotTable.arrival = s.slotTable.arrival ∧ (s.handBack r).slotTable.queue = s.slotTable.queue ∧
    (s.handBack r).engine = s.engine ∧ (s.handBack r).port = s.port ∧ (s.handBack r).guardUnit = s.guardUnit ∧
    (s.handBack r).station = s.station ∧ (s.handBack r).address = s.address ∧ (s.handBack r).config = s.config := by
  unfold State.handBack
  (repeat' split) <;> simp

@[simp] theorem State.release_frame (s : State) :
    (s.release).pending = s.pending ∧ (s.release).time = s.time ∧ (s.release).startup = s.startup ∧
    (s.release).line.judgement = s.line.judgement ∧ (s.release).line.driving = s.line.driving ∧
    (s.release).line.silo = s.line.silo ∧ (s.release).line.order = s.line.order ∧
    (s.release).line.receiveErrors = s.line.receiveErrors ∧ (s.release).line.overruns = s.line.overruns ∧
    (s.release).line.foreign = s.line.foreign ∧ (s.release).headroom.peers = s.headroom.peers ∧
    (s.release).headroom.aged = s.headroom.aged ∧ (s.release).headroom.suspect = s.headroom.suspect ∧
    (s.release).headroom.reListen = s.headroom.reListen ∧ (s.release).headroom.sagRun = s.headroom.sagRun ∧
    (s.release).headroom.sagEpisode = s.headroom.sagEpisode ∧ (s.release).slotTable.arrival = s.slotTable.arrival ∧
    (s.release).port.last = s.port.last ∧ (s.release).port.watchdog = s.port.watchdog ∧
    (s.release).port.samplesPresent = s.port.samplesPresent ∧ (s.release).port.path = s.port.path ∧
    (s.release).port.readWaiting = s.port.readWaiting ∧ (s.release).port.onPort = s.port.onPort ∧
    (s.release).port.ackTimer = s.port.ackTimer ∧ (s.release).port.applied = s.port.applied ∧
    (s.release).port.estop = s.port.estop ∧ (s.release).port.hold = s.port.hold ∧
    (s.release).guardUnit.effective = s.guardUnit.effective ∧ (s.release).guardUnit.latch = s.guardUnit.latch ∧
    (s.release).guardUnit.further = s.guardUnit.further ∧ (s.release).station = s.station ∧
    (s.release).address = s.address ∧ (s.release).config = s.config := by
  unfold State.release
  dsimp only
  (repeat' split) <;> simp

@[simp] theorem State.notRun_frame (s : State) (cause : Cause) :
    (s.notRun cause).pending = s.pending ∧ (s.notRun cause).time = s.time ∧ (s.notRun cause).startup = s.startup ∧
    (s.notRun cause).line.judgement = s.line.judgement ∧ (s.notRun cause).line.driving = s.line.driving ∧
    (s.notRun cause).line.silo = s.line.silo ∧ (s.notRun cause).line.order = s.line.order ∧
    (s.notRun cause).line.receiveErrors = s.line.receiveErrors ∧ (s.notRun cause).line.overruns = s.line.overruns ∧
    (s.notRun cause).line.foreign = s.line.foreign ∧ (s.notRun cause).headroom.peers = s.headroom.peers ∧
    (s.notRun cause).headroom.aged = s.headroom.aged ∧ (s.notRun cause).headroom.suspect = s.headroom.suspect ∧
    (s.notRun cause).headroom.reListen = s.headroom.reListen ∧
    (s.notRun cause).headroom.sagRun = s.headroom.sagRun ∧
    (s.notRun cause).headroom.sagEpisode = s.headroom.sagEpisode ∧
    (s.notRun cause).slotTable.arrival = s.slotTable.arrival ∧ (s.notRun cause).port.last = s.port.last ∧
    (s.notRun cause).port.watchdog = s.port.watchdog ∧
    (s.notRun cause).port.samplesPresent = s.port.samplesPresent ∧ (s.notRun cause).port.path = s.port.path ∧
    (s.notRun cause).port.readWaiting = s.port.readWaiting ∧ (s.notRun cause).port.onPort = s.port.onPort ∧
    (s.notRun cause).port.ackTimer = s.port.ackTimer ∧ (s.notRun cause).port.applied = s.port.applied ∧
    (s.notRun cause).port.estop = s.port.estop ∧ (s.notRun cause).port.hold = s.port.hold ∧
    (s.notRun cause).guardUnit.effective = s.guardUnit.effective ∧
    (s.notRun cause).guardUnit.latch = s.guardUnit.latch ∧
    (s.notRun cause).guardUnit.further = s.guardUnit.further ∧ (s.notRun cause).station = s.station ∧
    (s.notRun cause).address = s.address ∧ (s.notRun cause).config = s.config := by
  simp [State.notRun]

@[simp] theorem State.vacateActive_frame (s : State) :
    (s.vacateActive).pending = s.pending ∧ (s.vacateActive).time = s.time ∧ (s.vacateActive).startup = s.startup ∧
    (s.vacateActive).line = s.line ∧ (s.vacateActive).headroom = s.headroom ∧
    (s.vacateActive).slotTable.arrival = s.slotTable.arrival ∧
    (s.vacateActive).slotTable.queue = s.slotTable.queue ∧ (s.vacateActive).engine = s.engine ∧
    (s.vacateActive).port = s.port ∧ (s.vacateActive).guardUnit = s.guardUnit ∧
    (s.vacateActive).station = s.station ∧ (s.vacateActive).address = s.address ∧ (s.vacateActive).config = s.config := by
  unfold State.vacateActive
  (repeat' split) <;> simp

@[simp] theorem State.finishAbort_frame (s : State) (mismatched : Bool) :
    (s.finishAbort mismatched).pending = s.pending ∧ (s.finishAbort mismatched).time = s.time ∧
    (s.finishAbort mismatched).startup = s.startup ∧ (s.finishAbort mismatched).line.judgement = s.line.judgement ∧
    (s.finishAbort mismatched).line.driving = s.line.driving ∧ (s.finishAbort mismatched).line.silo = s.line.silo ∧
    (s.finishAbort mismatched).line.order = s.line.order ∧
    (s.finishAbort mismatched).line.receiveErrors = s.line.receiveErrors ∧
    (s.finishAbort mismatched).line.overruns = s.line.overruns ∧
    (s.finishAbort mismatched).line.foreign = s.line.foreign ∧
    (s.finishAbort mismatched).headroom.peers = s.headroom.peers ∧
    (s.finishAbort mismatched).headroom.aged = s.headroom.aged ∧
    (s.finishAbort mismatched).headroom.suspect = s.headroom.suspect ∧
    (s.finishAbort mismatched).headroom.reListen = s.headroom.reListen ∧
    (s.finishAbort mismatched).headroom.sagRun = s.headroom.sagRun ∧
    (s.finishAbort mismatched).headroom.sagEpisode = s.headroom.sagEpisode ∧
    (s.finishAbort mismatched).slotTable.arrival = s.slotTable.arrival ∧
    (s.finishAbort mismatched).port.last = s.port.last ∧
    (s.finishAbort mismatched).port.watchdog = s.port.watchdog ∧
    (s.finishAbort mismatched).port.samplesPresent = s.port.samplesPresent ∧
    (s.finishAbort mismatched).port.path = s.port.path ∧
    (s.finishAbort mismatched).port.readWaiting = s.port.readWaiting ∧
    (s.finishAbort mismatched).port.onPort = s.port.onPort ∧
    (s.finishAbort mismatched).port.ackTimer = s.port.ackTimer ∧
    (s.finishAbort mismatched).port.applied = s.port.applied ∧
    (s.finishAbort mismatched).port.estop = s.port.estop ∧ (s.finishAbort mismatched).port.hold = s.port.hold ∧
    (s.finishAbort mismatched).guardUnit.effective = s.guardUnit.effective ∧
    (s.finishAbort mismatched).guardUnit.latch = s.guardUnit.latch ∧
    (s.finishAbort mismatched).guardUnit.further = s.guardUnit.further ∧
    (s.finishAbort mismatched).station = s.station ∧ (s.finishAbort mismatched).address = s.address ∧
    (s.finishAbort mismatched).config = s.config := by
  unfold State.finishAbort
  dsimp only
  (repeat' split) <;> simp

@[simp] theorem State.beginAbort_frame (s : State) (cause : Option Cause) (noResult : Bool) :
    (s.beginAbort cause noResult).pending = s.pending ∧ (s.beginAbort cause noResult).time = s.time ∧
    (s.beginAbort cause noResult).startup = s.startup ∧
    (s.beginAbort cause noResult).line.judgement = s.line.judgement ∧
    (s.beginAbort cause noResult).line.driving = s.line.driving ∧
    (s.beginAbort cause noResult).line.silo = s.line.silo ∧
    (s.beginAbort cause noResult).line.order = s.line.order ∧
    (s.beginAbort cause noResult).line.receiveErrors = s.line.receiveErrors ∧
    (s.beginAbort cause noResult).line.overruns = s.line.overruns ∧
    (s.beginAbort cause noResult).line.foreign = s.line.foreign ∧
    (s.beginAbort cause noResult).headroom.peers = s.headroom.peers ∧
    (s.beginAbort cause noResult).headroom.aged = s.headroom.aged ∧
    (s.beginAbort cause noResult).headroom.suspect = s.headroom.suspect ∧
    (s.beginAbort cause noResult).headroom.reListen = s.headroom.reListen ∧
    (s.beginAbort cause noResult).headroom.sagRun = s.headroom.sagRun ∧
    (s.beginAbort cause noResult).headroom.sagEpisode = s.headroom.sagEpisode ∧
    (s.beginAbort cause noResult).slotTable.arrival = s.slotTable.arrival ∧
    (s.beginAbort cause noResult).port.last = s.port.last ∧
    (s.beginAbort cause noResult).port.watchdog = s.port.watchdog ∧
    (s.beginAbort cause noResult).port.samplesPresent = s.port.samplesPresent ∧
    (s.beginAbort cause noResult).port.path = s.port.path ∧
    (s.beginAbort cause noResult).port.readWaiting = s.port.readWaiting ∧
    (s.beginAbort cause noResult).port.onPort = s.port.onPort ∧
    (s.beginAbort cause noResult).port.ackTimer = s.port.ackTimer ∧
    (s.beginAbort cause noResult).port.applied = s.port.applied ∧
    (s.beginAbort cause noResult).port.estop = s.port.estop ∧
    (s.beginAbort cause noResult).port.hold = s.port.hold ∧
    (s.beginAbort cause noResult).guardUnit.effective = s.guardUnit.effective ∧
    (s.beginAbort cause noResult).guardUnit.latch = s.guardUnit.latch ∧
    (s.beginAbort cause noResult).guardUnit.further = s.guardUnit.further ∧
    (s.beginAbort cause noResult).station = s.station ∧ (s.beginAbort cause noResult).address = s.address ∧
    (s.beginAbort cause noResult).config = s.config := by
  unfold State.beginAbort
  (repeat' split) <;> simp

@[simp] theorem State.secondCause_frame (s : State) (cause : Cause) :
    (s.secondCause cause).pending = s.pending ∧ (s.secondCause cause).time = s.time ∧
    (s.secondCause cause).startup = s.startup ∧ (s.secondCause cause).line.judgement = s.line.judgement ∧
    (s.secondCause cause).line.driving = s.line.driving ∧ (s.secondCause cause).line.silo = s.line.silo ∧
    (s.secondCause cause).line.order = s.line.order ∧
    (s.secondCause cause).line.receiveErrors = s.line.receiveErrors ∧
    (s.secondCause cause).line.overruns = s.line.overruns ∧ (s.secondCause cause).line.foreign = s.line.foreign ∧
    (s.secondCause cause).headroom.peers = s.headroom.peers ∧
    (s.secondCause cause).headroom.aged = s.headroom.aged ∧
    (s.secondCause cause).headroom.suspect = s.headroom.suspect ∧
    (s.secondCause cause).headroom.reListen = s.headroom.reListen ∧
    (s.secondCause cause).headroom.sagRun = s.headroom.sagRun ∧
    (s.secondCause cause).headroom.sagEpisode = s.headroom.sagEpisode ∧
    (s.secondCause cause).slotTable.arrival = s.slotTable.arrival ∧ (s.secondCause cause).port.last = s.port.last ∧
    (s.secondCause cause).port.watchdog = s.port.watchdog ∧
    (s.secondCause cause).port.samplesPresent = s.port.samplesPresent ∧
    (s.secondCause cause).port.path = s.port.path ∧ (s.secondCause cause).port.readWaiting = s.port.readWaiting ∧
    (s.secondCause cause).port.onPort = s.port.onPort ∧ (s.secondCause cause).port.ackTimer = s.port.ackTimer ∧
    (s.secondCause cause).port.applied = s.port.applied ∧ (s.secondCause cause).port.estop = s.port.estop ∧
    (s.secondCause cause).port.hold = s.port.hold ∧
    (s.secondCause cause).guardUnit.effective = s.guardUnit.effective ∧
    (s.secondCause cause).guardUnit.latch = s.guardUnit.latch ∧
    (s.secondCause cause).guardUnit.further = s.guardUnit.further ∧ (s.secondCause cause).station = s.station ∧
    (s.secondCause cause).address = s.address ∧ (s.secondCause cause).config = s.config := by
  unfold State.secondCause
  (repeat' split) <;> simp

@[simp] theorem State.orderAbort_frame (s : State) (cause : Cause) :
    (s.orderAbort cause).pending = s.pending ∧ (s.orderAbort cause).time = s.time ∧
    (s.orderAbort cause).startup = s.startup ∧ (s.orderAbort cause).line.judgement = s.line.judgement ∧
    (s.orderAbort cause).line.driving = s.line.driving ∧ (s.orderAbort cause).line.silo = s.line.silo ∧
    (s.orderAbort cause).line.order = s.line.order ∧
    (s.orderAbort cause).line.receiveErrors = s.line.receiveErrors ∧
    (s.orderAbort cause).line.overruns = s.line.overruns ∧ (s.orderAbort cause).line.foreign = s.line.foreign ∧
    (s.orderAbort cause).headroom.peers = s.headroom.peers ∧ (s.orderAbort cause).headroom.aged = s.headroom.aged ∧
    (s.orderAbort cause).headroom.suspect = s.headroom.suspect ∧
    (s.orderAbort cause).headroom.reListen = s.headroom.reListen ∧
    (s.orderAbort cause).headroom.sagRun = s.headroom.sagRun ∧
    (s.orderAbort cause).headroom.sagEpisode = s.headroom.sagEpisode ∧
    (s.orderAbort cause).slotTable.arrival = s.slotTable.arrival ∧ (s.orderAbort cause).port.last = s.port.last ∧
    (s.orderAbort cause).port.watchdog = s.port.watchdog ∧
    (s.orderAbort cause).port.samplesPresent = s.port.samplesPresent ∧
    (s.orderAbort cause).port.path = s.port.path ∧ (s.orderAbort cause).port.readWaiting = s.port.readWaiting ∧
    (s.orderAbort cause).port.onPort = s.port.onPort ∧ (s.orderAbort cause).port.ackTimer = s.port.ackTimer ∧
    (s.orderAbort cause).port.applied = s.port.applied ∧ (s.orderAbort cause).port.estop = s.port.estop ∧
    (s.orderAbort cause).port.hold = s.port.hold ∧
    (s.orderAbort cause).guardUnit.effective = s.guardUnit.effective ∧
    (s.orderAbort cause).guardUnit.latch = s.guardUnit.latch ∧
    (s.orderAbort cause).guardUnit.further = s.guardUnit.further ∧ (s.orderAbort cause).station = s.station ∧
    (s.orderAbort cause).address = s.address ∧ (s.orderAbort cause).config = s.config := by
  unfold State.orderAbort
  (repeat' split) <;> simp

@[simp] theorem State.resetEngine_frame (s : State) :
    (s.resetEngine).pending = s.pending ∧ (s.resetEngine).time = s.time ∧ (s.resetEngine).startup = s.startup ∧
    (s.resetEngine).line.judgement = s.line.judgement ∧ (s.resetEngine).line.driving = s.line.driving ∧
    (s.resetEngine).line.silo = s.line.silo ∧ (s.resetEngine).line.order = s.line.order ∧
    (s.resetEngine).line.receiveErrors = s.line.receiveErrors ∧ (s.resetEngine).line.overruns = s.line.overruns ∧
    (s.resetEngine).line.foreign = s.line.foreign ∧ (s.resetEngine).headroom.peers = s.headroom.peers ∧
    (s.resetEngine).headroom.aged = s.headroom.aged ∧ (s.resetEngine).headroom.suspect = s.headroom.suspect ∧
    (s.resetEngine).headroom.reListen = s.headroom.reListen ∧ (s.resetEngine).headroom.sagRun = s.headroom.sagRun ∧
    (s.resetEngine).headroom.sagEpisode = s.headroom.sagEpisode ∧
    (s.resetEngine).slotTable.arrival = s.slotTable.arrival ∧ (s.resetEngine).port.last = s.port.last ∧
    (s.resetEngine).port.watchdog = s.port.watchdog ∧ (s.resetEngine).port.samplesPresent = s.port.samplesPresent ∧
    (s.resetEngine).port.path = s.port.path ∧ (s.resetEngine).port.readWaiting = s.port.readWaiting ∧
    (s.resetEngine).port.onPort = s.port.onPort ∧ (s.resetEngine).port.ackTimer = s.port.ackTimer ∧
    (s.resetEngine).port.applied = s.port.applied ∧ (s.resetEngine).port.estop = s.port.estop ∧
    (s.resetEngine).port.hold = s.port.hold ∧ (s.resetEngine).guardUnit.effective = s.guardUnit.effective ∧
    (s.resetEngine).guardUnit.latch = s.guardUnit.latch ∧ (s.resetEngine).guardUnit.further = s.guardUnit.further ∧
    (s.resetEngine).station = s.station ∧ (s.resetEngine).address = s.address ∧ (s.resetEngine).config = s.config := by
  unfold State.resetEngine
  (repeat' split) <;> simp

@[simp] theorem State.freeze_frame (s : State) :
    (s.freeze).pending = s.pending ∧ (s.freeze).time = s.time ∧ (s.freeze).startup = s.startup ∧
    (s.freeze).line = s.line ∧ (s.freeze).headroom = s.headroom ∧ (s.freeze).slotTable = s.slotTable ∧
    (s.freeze).port.last = s.port.last ∧ (s.freeze).port.watchdog = s.port.watchdog ∧
    (s.freeze).port.samplesPresent = s.port.samplesPresent ∧ (s.freeze).port.path = s.port.path ∧
    (s.freeze).port.readWaiting = s.port.readWaiting ∧ (s.freeze).port.onPort = s.port.onPort ∧
    (s.freeze).port.ackTimer = s.port.ackTimer ∧ (s.freeze).port.applied = s.port.applied ∧
    (s.freeze).port.estop = s.port.estop ∧ (s.freeze).port.hold = s.port.hold ∧
    (s.freeze).port.ceiling = s.port.ceiling ∧ (s.freeze).port.standing = s.port.standing ∧
    (s.freeze).port.confirmedOpen = s.port.confirmedOpen ∧ (s.freeze).guardUnit = s.guardUnit ∧
    (s.freeze).station = s.station ∧ (s.freeze).address = s.address ∧ (s.freeze).config = s.config := by
  simp [State.freeze]

@[simp] theorem State.engineShed_frame (s : State) :
    (s.engineShed).pending = s.pending ∧ (s.engineShed).time = s.time ∧ (s.engineShed).startup = s.startup ∧
    (s.engineShed).line.judgement = s.line.judgement ∧ (s.engineShed).line.driving = s.line.driving ∧
    (s.engineShed).line.silo = s.line.silo ∧ (s.engineShed).line.order = s.line.order ∧
    (s.engineShed).line.receiveErrors = s.line.receiveErrors ∧ (s.engineShed).line.overruns = s.line.overruns ∧
    (s.engineShed).line.foreign = s.line.foreign ∧ (s.engineShed).headroom.peers = s.headroom.peers ∧
    (s.engineShed).headroom.aged = s.headroom.aged ∧ (s.engineShed).headroom.suspect = s.headroom.suspect ∧
    (s.engineShed).headroom.reListen = s.headroom.reListen ∧ (s.engineShed).headroom.sagRun = s.headroom.sagRun ∧
    (s.engineShed).headroom.sagEpisode = s.headroom.sagEpisode ∧
    (s.engineShed).slotTable.arrival = s.slotTable.arrival ∧ (s.engineShed).port.last = s.port.last ∧
    (s.engineShed).port.watchdog = s.port.watchdog ∧ (s.engineShed).port.samplesPresent = s.port.samplesPresent ∧
    (s.engineShed).port.path = s.port.path ∧ (s.engineShed).port.readWaiting = s.port.readWaiting ∧
    (s.engineShed).port.onPort = s.port.onPort ∧ (s.engineShed).port.ackTimer = s.port.ackTimer ∧
    (s.engineShed).port.applied = s.port.applied ∧ (s.engineShed).port.estop = s.port.estop ∧
    (s.engineShed).port.hold = s.port.hold ∧ (s.engineShed).guardUnit.effective = s.guardUnit.effective ∧
    (s.engineShed).guardUnit.latch = s.guardUnit.latch ∧ (s.engineShed).guardUnit.further = s.guardUnit.further ∧
    (s.engineShed).station = s.station ∧ (s.engineShed).address = s.address ∧ (s.engineShed).config = s.config := by
  unfold State.engineShed
  (repeat' split) <;> simp

@[simp] theorem State.shedEvent_frame (s : State) (order : Word) :
    (s.shedEvent order).pending = s.pending ∧ (s.shedEvent order).time = s.time ∧
    (s.shedEvent order).startup = s.startup ∧ (s.shedEvent order).line.judgement = s.line.judgement ∧
    (s.shedEvent order).line.driving = s.line.driving ∧ (s.shedEvent order).line.silo = s.line.silo ∧
    (s.shedEvent order).line.order = s.line.order ∧ (s.shedEvent order).line.receiveErrors = s.line.receiveErrors ∧
    (s.shedEvent order).line.overruns = s.line.overruns ∧ (s.shedEvent order).line.foreign = s.line.foreign ∧
    (s.shedEvent order).headroom.peers = s.headroom.peers ∧ (s.shedEvent order).headroom.aged = s.headroom.aged ∧
    (s.shedEvent order).headroom.suspect = s.headroom.suspect ∧
    (s.shedEvent order).headroom.reListen = s.headroom.reListen ∧
    (s.shedEvent order).headroom.sagRun = s.headroom.sagRun ∧
    (s.shedEvent order).headroom.sagEpisode = s.headroom.sagEpisode ∧
    (s.shedEvent order).slotTable.arrival = s.slotTable.arrival ∧ (s.shedEvent order).port.last = s.port.last ∧
    (s.shedEvent order).port.watchdog = s.port.watchdog ∧
    (s.shedEvent order).port.samplesPresent = s.port.samplesPresent ∧ (s.shedEvent order).port.path = s.port.path ∧
    (s.shedEvent order).port.readWaiting = s.port.readWaiting ∧ (s.shedEvent order).port.onPort = s.port.onPort ∧
    (s.shedEvent order).port.ackTimer = s.port.ackTimer ∧ (s.shedEvent order).port.applied = s.port.applied ∧
    (s.shedEvent order).port.estop = s.port.estop ∧ (s.shedEvent order).port.hold = s.port.hold ∧
    (s.shedEvent order).guardUnit.effective = s.guardUnit.effective ∧
    (s.shedEvent order).guardUnit.latch = s.guardUnit.latch ∧
    (s.shedEvent order).guardUnit.further = s.guardUnit.further ∧ (s.shedEvent order).station = s.station ∧
    (s.shedEvent order).address = s.address ∧ (s.shedEvent order).config = s.config := by
  simp [State.shedEvent]

@[simp] theorem State.ownShed_frame (s : State) (e : Entry) (order : Word) :
    (s.ownShed e order).pending = s.pending ∧ (s.ownShed e order).time = s.time ∧
    (s.ownShed e order).startup = s.startup ∧ (s.ownShed e order).line.judgement = s.line.judgement ∧
    (s.ownShed e order).line.driving = s.line.driving ∧ (s.ownShed e order).line.silo = s.line.silo ∧
    (s.ownShed e order).line.order = s.line.order ∧ (s.ownShed e order).line.receiveErrors = s.line.receiveErrors ∧
    (s.ownShed e order).line.overruns = s.line.overruns ∧ (s.ownShed e order).line.foreign = s.line.foreign ∧
    (s.ownShed e order).headroom.peers = s.headroom.peers ∧ (s.ownShed e order).headroom.aged = s.headroom.aged ∧
    (s.ownShed e order).headroom.suspect = s.headroom.suspect ∧
    (s.ownShed e order).headroom.reListen = s.headroom.reListen ∧
    (s.ownShed e order).headroom.sagRun = s.headroom.sagRun ∧
    (s.ownShed e order).headroom.sagEpisode = s.headroom.sagEpisode ∧
    (s.ownShed e order).slotTable.arrival = s.slotTable.arrival ∧ (s.ownShed e order).port.last = s.port.last ∧
    (s.ownShed e order).port.watchdog = s.port.watchdog ∧
    (s.ownShed e order).port.samplesPresent = s.port.samplesPresent ∧ (s.ownShed e order).port.path = s.port.path ∧
    (s.ownShed e order).port.readWaiting = s.port.readWaiting ∧ (s.ownShed e order).port.onPort = s.port.onPort ∧
    (s.ownShed e order).port.ackTimer = s.port.ackTimer ∧ (s.ownShed e order).port.applied = s.port.applied ∧
    (s.ownShed e order).port.estop = s.port.estop ∧ (s.ownShed e order).port.hold = s.port.hold ∧
    (s.ownShed e order).guardUnit.effective = s.guardUnit.effective ∧
    (s.ownShed e order).guardUnit.latch = s.guardUnit.latch ∧
    (s.ownShed e order).guardUnit.further = s.guardUnit.further ∧ (s.ownShed e order).station = s.station ∧
    (s.ownShed e order).address = s.address ∧ (s.ownShed e order).config = s.config := by
  unfold State.ownShed
  (repeat' split) <;> simp

@[simp] theorem State.countRest_frame (s : State) (c : Check) (x : SampleSet) :
    (s.countRest c x).pending = s.pending ∧ (s.countRest c x).time = s.time ∧
    (s.countRest c x).startup = s.startup ∧ (s.countRest c x).line.judgement = s.line.judgement ∧
    (s.countRest c x).line.driving = s.line.driving ∧ (s.countRest c x).line.silo = s.line.silo ∧
    (s.countRest c x).line.order = s.line.order ∧ (s.countRest c x).line.receiveErrors = s.line.receiveErrors ∧
    (s.countRest c x).line.overruns = s.line.overruns ∧ (s.countRest c x).line.foreign = s.line.foreign ∧
    (s.countRest c x).headroom.peers = s.headroom.peers ∧ (s.countRest c x).headroom.aged = s.headroom.aged ∧
    (s.countRest c x).headroom.suspect = s.headroom.suspect ∧
    (s.countRest c x).headroom.reListen = s.headroom.reListen ∧
    (s.countRest c x).headroom.sagRun = s.headroom.sagRun ∧
    (s.countRest c x).headroom.sagEpisode = s.headroom.sagEpisode ∧ (s.countRest c x).slotTable = s.slotTable ∧
    (s.countRest c x).port.last = s.port.last ∧ (s.countRest c x).port.watchdog = s.port.watchdog ∧
    (s.countRest c x).port.samplesPresent = s.port.samplesPresent ∧ (s.countRest c x).port.path = s.port.path ∧
    (s.countRest c x).port.readWaiting = s.port.readWaiting ∧ (s.countRest c x).port.onPort = s.port.onPort ∧
    (s.countRest c x).port.ackTimer = s.port.ackTimer ∧ (s.countRest c x).port.applied = s.port.applied ∧
    (s.countRest c x).port.estop = s.port.estop ∧ (s.countRest c x).port.hold = s.port.hold ∧
    (s.countRest c x).port.ceiling = s.port.ceiling ∧ (s.countRest c x).port.standing = s.port.standing ∧
    (s.countRest c x).port.confirmedOpen = s.port.confirmedOpen ∧ (s.countRest c x).guardUnit = s.guardUnit ∧
    (s.countRest c x).station = s.station ∧ (s.countRest c x).address = s.address ∧
    (s.countRest c x).config = s.config := by
  unfold State.countRest
  dsimp only
  (repeat' split) <;> simp

@[simp] theorem State.quietSet_frame (s : State) (c : Check) (x : SampleSet) :
    (s.quietSet c x).pending = s.pending ∧ (s.quietSet c x).time = s.time ∧ (s.quietSet c x).startup = s.startup ∧
    (s.quietSet c x).line.judgement = s.line.judgement ∧ (s.quietSet c x).line.driving = s.line.driving ∧
    (s.quietSet c x).line.silo = s.line.silo ∧ (s.quietSet c x).line.order = s.line.order ∧
    (s.quietSet c x).line.receiveErrors = s.line.receiveErrors ∧ (s.quietSet c x).line.overruns = s.line.overruns ∧
    (s.quietSet c x).line.foreign = s.line.foreign ∧ (s.quietSet c x).headroom.peers = s.headroom.peers ∧
    (s.quietSet c x).headroom.aged = s.headroom.aged ∧ (s.quietSet c x).headroom.suspect = s.headroom.suspect ∧
    (s.quietSet c x).headroom.reListen = s.headroom.reListen ∧
    (s.quietSet c x).headroom.sagRun = s.headroom.sagRun ∧
    (s.quietSet c x).headroom.sagEpisode = s.headroom.sagEpisode ∧ (s.quietSet c x).slotTable = s.slotTable ∧
    (s.quietSet c x).port.last = s.port.last ∧ (s.quietSet c x).port.watchdog = s.port.watchdog ∧
    (s.quietSet c x).port.samplesPresent = s.port.samplesPresent ∧ (s.quietSet c x).port.path = s.port.path ∧
    (s.quietSet c x).port.readWaiting = s.port.readWaiting ∧ (s.quietSet c x).port.onPort = s.port.onPort ∧
    (s.quietSet c x).port.ackTimer = s.port.ackTimer ∧ (s.quietSet c x).port.applied = s.port.applied ∧
    (s.quietSet c x).port.estop = s.port.estop ∧ (s.quietSet c x).port.hold = s.port.hold ∧
    (s.quietSet c x).port.ceiling = s.port.ceiling ∧ (s.quietSet c x).port.standing = s.port.standing ∧
    (s.quietSet c x).port.confirmedOpen = s.port.confirmedOpen ∧ (s.quietSet c x).guardUnit = s.guardUnit ∧
    (s.quietSet c x).station = s.station ∧ (s.quietSet c x).address = s.address ∧ (s.quietSet c x).config = s.config := by
  unfold State.quietSet
  (repeat' split) <;> simp

@[simp] theorem State.soakSet_frame (s : State) (c : Check) (p : DerateParams) (x : SampleSet) :
    (s.soakSet c p x).pending = s.pending ∧ (s.soakSet c p x).time = s.time ∧
    (s.soakSet c p x).startup = s.startup ∧ (s.soakSet c p x).line.judgement = s.line.judgement ∧
    (s.soakSet c p x).line.driving = s.line.driving ∧ (s.soakSet c p x).line.silo = s.line.silo ∧
    (s.soakSet c p x).line.order = s.line.order ∧ (s.soakSet c p x).line.receiveErrors = s.line.receiveErrors ∧
    (s.soakSet c p x).line.overruns = s.line.overruns ∧ (s.soakSet c p x).line.foreign = s.line.foreign ∧
    (s.soakSet c p x).headroom.peers = s.headroom.peers ∧ (s.soakSet c p x).headroom.aged = s.headroom.aged ∧
    (s.soakSet c p x).headroom.suspect = s.headroom.suspect ∧
    (s.soakSet c p x).headroom.reListen = s.headroom.reListen ∧
    (s.soakSet c p x).headroom.sagRun = s.headroom.sagRun ∧
    (s.soakSet c p x).headroom.sagEpisode = s.headroom.sagEpisode ∧
    (s.soakSet c p x).slotTable.arrival = s.slotTable.arrival ∧ (s.soakSet c p x).port.last = s.port.last ∧
    (s.soakSet c p x).port.watchdog = s.port.watchdog ∧
    (s.soakSet c p x).port.samplesPresent = s.port.samplesPresent ∧ (s.soakSet c p x).port.path = s.port.path ∧
    (s.soakSet c p x).port.readWaiting = s.port.readWaiting ∧ (s.soakSet c p x).port.onPort = s.port.onPort ∧
    (s.soakSet c p x).port.ackTimer = s.port.ackTimer ∧ (s.soakSet c p x).port.applied = s.port.applied ∧
    (s.soakSet c p x).port.estop = s.port.estop ∧ (s.soakSet c p x).port.hold = s.port.hold ∧
    (s.soakSet c p x).guardUnit.effective = s.guardUnit.effective ∧
    (s.soakSet c p x).guardUnit.latch = s.guardUnit.latch ∧
    (s.soakSet c p x).guardUnit.further = s.guardUnit.further ∧ (s.soakSet c p x).station = s.station ∧
    (s.soakSet c p x).address = s.address ∧ (s.soakSet c p x).config = s.config := by
  unfold State.soakSet
  (repeat' split) <;> simp

@[simp] theorem State.dwellCounted_frame (s : State) :
    (s.dwellCounted).pending = s.pending ∧ (s.dwellCounted).time = s.time ∧ (s.dwellCounted).startup = s.startup ∧
    (s.dwellCounted).line = s.line ∧ (s.dwellCounted).headroom = s.headroom ∧
    (s.dwellCounted).slotTable = s.slotTable ∧ (s.dwellCounted).port = s.port ∧
    (s.dwellCounted).guardUnit = s.guardUnit ∧ (s.dwellCounted).station = s.station ∧
    (s.dwellCounted).address = s.address ∧ (s.dwellCounted).config = s.config := by
  simp [State.dwellCounted]

@[simp] theorem State.planEnd_frame (s : State) (d : Determined) :
    (s.planEnd d).pending = s.pending ∧ (s.planEnd d).time = s.time ∧ (s.planEnd d).startup = s.startup ∧
    (s.planEnd d).line = s.line ∧ (s.planEnd d).headroom = s.headroom ∧ (s.planEnd d).slotTable = s.slotTable ∧
    (s.planEnd d).port.last = s.port.last ∧ (s.planEnd d).port.watchdog = s.port.watchdog ∧
    (s.planEnd d).port.samplesPresent = s.port.samplesPresent ∧ (s.planEnd d).port.path = s.port.path ∧
    (s.planEnd d).port.readWaiting = s.port.readWaiting ∧ (s.planEnd d).port.onPort = s.port.onPort ∧
    (s.planEnd d).port.ackTimer = s.port.ackTimer ∧ (s.planEnd d).port.applied = s.port.applied ∧
    (s.planEnd d).port.estop = s.port.estop ∧ (s.planEnd d).port.hold = s.port.hold ∧
    (s.planEnd d).port.ceiling = s.port.ceiling ∧ (s.planEnd d).port.standing = s.port.standing ∧
    (s.planEnd d).port.confirmedOpen = s.port.confirmedOpen ∧ (s.planEnd d).guardUnit = s.guardUnit ∧
    (s.planEnd d).station = s.station ∧ (s.planEnd d).address = s.address ∧ (s.planEnd d).config = s.config := by
  unfold State.planEnd
  (repeat' split) <;> simp

@[simp] theorem State.rampDwellEnd_frame (s : State) (p : Params) (r : Ramp) :
    (s.rampDwellEnd p r).pending = s.pending ∧ (s.rampDwellEnd p r).time = s.time ∧
    (s.rampDwellEnd p r).startup = s.startup ∧ (s.rampDwellEnd p r).line = s.line ∧
    (s.rampDwellEnd p r).headroom = s.headroom ∧ (s.rampDwellEnd p r).slotTable = s.slotTable ∧
    (s.rampDwellEnd p r).port.last = s.port.last ∧ (s.rampDwellEnd p r).port.watchdog = s.port.watchdog ∧
    (s.rampDwellEnd p r).port.samplesPresent = s.port.samplesPresent ∧
    (s.rampDwellEnd p r).port.path = s.port.path ∧ (s.rampDwellEnd p r).port.readWaiting = s.port.readWaiting ∧
    (s.rampDwellEnd p r).port.onPort = s.port.onPort ∧ (s.rampDwellEnd p r).port.ackTimer = s.port.ackTimer ∧
    (s.rampDwellEnd p r).port.applied = s.port.applied ∧ (s.rampDwellEnd p r).port.estop = s.port.estop ∧
    (s.rampDwellEnd p r).port.hold = s.port.hold ∧ (s.rampDwellEnd p r).port.ceiling = s.port.ceiling ∧
    (s.rampDwellEnd p r).port.standing = s.port.standing ∧
    (s.rampDwellEnd p r).port.confirmedOpen = s.port.confirmedOpen ∧ (s.rampDwellEnd p r).guardUnit = s.guardUnit ∧
    (s.rampDwellEnd p r).station = s.station ∧ (s.rampDwellEnd p r).address = s.address ∧
    (s.rampDwellEnd p r).config = s.config := by
  unfold State.rampDwellEnd
  dsimp only
  (repeat' split) <;> simp

@[simp] theorem State.preloadDwellEnd_frame (s : State) (p : TimeParams) :
    (s.preloadDwellEnd p).pending = s.pending ∧ (s.preloadDwellEnd p).time = s.time ∧
    (s.preloadDwellEnd p).startup = s.startup ∧ (s.preloadDwellEnd p).line = s.line ∧
    (s.preloadDwellEnd p).headroom = s.headroom ∧ (s.preloadDwellEnd p).slotTable = s.slotTable ∧
    (s.preloadDwellEnd p).port.last = s.port.last ∧ (s.preloadDwellEnd p).port.watchdog = s.port.watchdog ∧
    (s.preloadDwellEnd p).port.samplesPresent = s.port.samplesPresent ∧
    (s.preloadDwellEnd p).port.path = s.port.path ∧ (s.preloadDwellEnd p).port.readWaiting = s.port.readWaiting ∧
    (s.preloadDwellEnd p).port.onPort = s.port.onPort ∧ (s.preloadDwellEnd p).port.ackTimer = s.port.ackTimer ∧
    (s.preloadDwellEnd p).port.applied = s.port.applied ∧ (s.preloadDwellEnd p).port.estop = s.port.estop ∧
    (s.preloadDwellEnd p).port.hold = s.port.hold ∧ (s.preloadDwellEnd p).port.ceiling = s.port.ceiling ∧
    (s.preloadDwellEnd p).port.standing = s.port.standing ∧
    (s.preloadDwellEnd p).port.confirmedOpen = s.port.confirmedOpen ∧
    (s.preloadDwellEnd p).guardUnit = s.guardUnit ∧ (s.preloadDwellEnd p).station = s.station ∧
    (s.preloadDwellEnd p).address = s.address ∧ (s.preloadDwellEnd p).config = s.config := by
  simp [State.preloadDwellEnd]

@[simp] theorem State.dwellSet_frame (s : State) (p : Params) :
    (s.dwellSet p).pending = s.pending ∧ (s.dwellSet p).time = s.time ∧ (s.dwellSet p).startup = s.startup ∧
    (s.dwellSet p).line = s.line ∧ (s.dwellSet p).headroom = s.headroom ∧ (s.dwellSet p).slotTable = s.slotTable ∧
    (s.dwellSet p).port.last = s.port.last ∧ (s.dwellSet p).port.watchdog = s.port.watchdog ∧
    (s.dwellSet p).port.samplesPresent = s.port.samplesPresent ∧ (s.dwellSet p).port.path = s.port.path ∧
    (s.dwellSet p).port.readWaiting = s.port.readWaiting ∧ (s.dwellSet p).port.onPort = s.port.onPort ∧
    (s.dwellSet p).port.ackTimer = s.port.ackTimer ∧ (s.dwellSet p).port.applied = s.port.applied ∧
    (s.dwellSet p).port.estop = s.port.estop ∧ (s.dwellSet p).port.hold = s.port.hold ∧
    (s.dwellSet p).port.ceiling = s.port.ceiling ∧ (s.dwellSet p).port.standing = s.port.standing ∧
    (s.dwellSet p).port.confirmedOpen = s.port.confirmedOpen ∧ (s.dwellSet p).guardUnit = s.guardUnit ∧
    (s.dwellSet p).station = s.station ∧ (s.dwellSet p).address = s.address ∧ (s.dwellSet p).config = s.config := by
  unfold State.dwellSet State.countDwell
  (repeat' split) <;> simp

@[simp] theorem State.runBroken_frame (s : State) (p : Params) :
    (s.runBroken p).pending = s.pending ∧ (s.runBroken p).time = s.time ∧ (s.runBroken p).startup = s.startup ∧
    (s.runBroken p).line = s.line ∧ (s.runBroken p).headroom = s.headroom ∧
    (s.runBroken p).slotTable = s.slotTable ∧ (s.runBroken p).port.last = s.port.last ∧
    (s.runBroken p).port.watchdog = s.port.watchdog ∧ (s.runBroken p).port.samplesPresent = s.port.samplesPresent ∧
    (s.runBroken p).port.path = s.port.path ∧ (s.runBroken p).port.readWaiting = s.port.readWaiting ∧
    (s.runBroken p).port.onPort = s.port.onPort ∧ (s.runBroken p).port.ackTimer = s.port.ackTimer ∧
    (s.runBroken p).port.applied = s.port.applied ∧ (s.runBroken p).port.estop = s.port.estop ∧
    (s.runBroken p).port.hold = s.port.hold ∧ (s.runBroken p).port.ceiling = s.port.ceiling ∧
    (s.runBroken p).port.standing = s.port.standing ∧ (s.runBroken p).port.confirmedOpen = s.port.confirmedOpen ∧
    (s.runBroken p).guardUnit = s.guardUnit ∧ (s.runBroken p).station = s.station ∧
    (s.runBroken p).address = s.address ∧ (s.runBroken p).config = s.config := by
  unfold State.runBroken
  (repeat' split) <;> simp

@[simp] theorem State.collapseSet_frame (s : State) (p : Params) (t : TripTail) (before : Nat) (x : SampleSet) :
    (s.collapseSet p t before x).pending = s.pending ∧ (s.collapseSet p t before x).time = s.time ∧
    (s.collapseSet p t before x).startup = s.startup ∧ (s.collapseSet p t before x).line = s.line ∧
    (s.collapseSet p t before x).headroom = s.headroom ∧ (s.collapseSet p t before x).slotTable = s.slotTable ∧
    (s.collapseSet p t before x).port.last = s.port.last ∧
    (s.collapseSet p t before x).port.watchdog = s.port.watchdog ∧
    (s.collapseSet p t before x).port.samplesPresent = s.port.samplesPresent ∧
    (s.collapseSet p t before x).port.path = s.port.path ∧
    (s.collapseSet p t before x).port.readWaiting = s.port.readWaiting ∧
    (s.collapseSet p t before x).port.onPort = s.port.onPort ∧
    (s.collapseSet p t before x).port.ackTimer = s.port.ackTimer ∧
    (s.collapseSet p t before x).port.applied = s.port.applied ∧
    (s.collapseSet p t before x).port.estop = s.port.estop ∧ (s.collapseSet p t before x).port.hold = s.port.hold ∧
    (s.collapseSet p t before x).port.ceiling = s.port.ceiling ∧
    (s.collapseSet p t before x).port.standing = s.port.standing ∧
    (s.collapseSet p t before x).port.confirmedOpen = s.port.confirmedOpen ∧
    (s.collapseSet p t before x).guardUnit = s.guardUnit ∧ (s.collapseSet p t before x).station = s.station ∧
    (s.collapseSet p t before x).address = s.address ∧ (s.collapseSet p t before x).config = s.config := by
  unfold State.collapseSet
  (repeat' split) <;> simp

@[simp] theorem State.raisePower_frame (s : State) (x : SampleSet) :
    (s.raisePower x).pending = s.pending ∧ (s.raisePower x).time = s.time ∧ (s.raisePower x).startup = s.startup ∧
    (s.raisePower x).line = s.line ∧ (s.raisePower x).headroom = s.headroom ∧
    (s.raisePower x).slotTable = s.slotTable ∧ (s.raisePower x).engine.phase = s.engine.phase ∧
    (s.raisePower x).engine.check = s.engine.check ∧ (s.raisePower x).engine.runCount = s.engine.runCount ∧
    (s.raisePower x).engine.verdict = s.engine.verdict ∧ (s.raisePower x).port = s.port ∧
    (s.raisePower x).guardUnit = s.guardUnit ∧ (s.raisePower x).station = s.station ∧
    (s.raisePower x).address = s.address ∧ (s.raisePower x).config = s.config := by
  unfold State.raisePower
  (repeat' split) <;> simp

@[simp] theorem State.foldSet_frame (s : State) (p : DerateParams) (x : SampleSet) :
    (s.foldSet p x).pending = s.pending ∧ (s.foldSet p x).time = s.time ∧ (s.foldSet p x).startup = s.startup ∧
    (s.foldSet p x).line = s.line ∧ (s.foldSet p x).headroom = s.headroom ∧
    (s.foldSet p x).slotTable = s.slotTable ∧ (s.foldSet p x).port.last = s.port.last ∧
    (s.foldSet p x).port.watchdog = s.port.watchdog ∧ (s.foldSet p x).port.samplesPresent = s.port.samplesPresent ∧
    (s.foldSet p x).port.path = s.port.path ∧ (s.foldSet p x).port.readWaiting = s.port.readWaiting ∧
    (s.foldSet p x).port.onPort = s.port.onPort ∧ (s.foldSet p x).port.ackTimer = s.port.ackTimer ∧
    (s.foldSet p x).port.applied = s.port.applied ∧ (s.foldSet p x).port.estop = s.port.estop ∧
    (s.foldSet p x).port.hold = s.port.hold ∧ (s.foldSet p x).port.ceiling = s.port.ceiling ∧
    (s.foldSet p x).port.standing = s.port.standing ∧ (s.foldSet p x).port.confirmedOpen = s.port.confirmedOpen ∧
    (s.foldSet p x).guardUnit = s.guardUnit ∧ (s.foldSet p x).station = s.station ∧
    (s.foldSet p x).address = s.address ∧ (s.foldSet p x).config = s.config := by
  unfold State.foldSet
  (repeat' split) <;> simp

@[simp] theorem State.markTripped_frame (s : State) (x : SampleSet) :
    (s.markTripped x).pending = s.pending ∧ (s.markTripped x).time = s.time ∧
    (s.markTripped x).startup = s.startup ∧ (s.markTripped x).line = s.line ∧
    (s.markTripped x).headroom = s.headroom ∧ (s.markTripped x).slotTable = s.slotTable ∧
    (s.markTripped x).engine.phase = s.engine.phase ∧ (s.markTripped x).engine.check = s.engine.check ∧
    (s.markTripped x).engine.runCount = s.engine.runCount ∧ (s.markTripped x).engine.verdict = s.engine.verdict ∧
    (s.markTripped x).port = s.port ∧ (s.markTripped x).guardUnit = s.guardUnit ∧
    (s.markTripped x).station = s.station ∧ (s.markTripped x).address = s.address ∧
    (s.markTripped x).config = s.config := by
  simp [State.markTripped]

@[simp] theorem State.loadingSet_frame (s : State) (c : Check) (before : Nat) (x : SampleSet) :
    (s.loadingSet c before x).pending = s.pending ∧ (s.loadingSet c before x).time = s.time ∧
    (s.loadingSet c before x).startup = s.startup ∧ (s.loadingSet c before x).line = s.line ∧
    (s.loadingSet c before x).headroom = s.headroom ∧ (s.loadingSet c before x).slotTable = s.slotTable ∧
    (s.loadingSet c before x).port.last = s.port.last ∧ (s.loadingSet c before x).port.watchdog = s.port.watchdog ∧
    (s.loadingSet c before x).port.samplesPresent = s.port.samplesPresent ∧
    (s.loadingSet c before x).port.path = s.port.path ∧
    (s.loadingSet c before x).port.readWaiting = s.port.readWaiting ∧
    (s.loadingSet c before x).port.onPort = s.port.onPort ∧
    (s.loadingSet c before x).port.ackTimer = s.port.ackTimer ∧
    (s.loadingSet c before x).port.applied = s.port.applied ∧ (s.loadingSet c before x).port.estop = s.port.estop ∧
    (s.loadingSet c before x).port.hold = s.port.hold ∧ (s.loadingSet c before x).port.ceiling = s.port.ceiling ∧
    (s.loadingSet c before x).port.standing = s.port.standing ∧
    (s.loadingSet c before x).port.confirmedOpen = s.port.confirmedOpen ∧
    (s.loadingSet c before x).guardUnit = s.guardUnit ∧ (s.loadingSet c before x).station = s.station ∧
    (s.loadingSet c before x).address = s.address ∧ (s.loadingSet c before x).config = s.config := by
  unfold State.loadingSet
  (repeat' split) <;> simp

@[simp] theorem State.engineSet_frame (s : State) (x : SampleSet) :
    (s.engineSet x).pending = s.pending ∧ (s.engineSet x).time = s.time ∧ (s.engineSet x).startup = s.startup ∧
    (s.engineSet x).line.judgement = s.line.judgement ∧ (s.engineSet x).line.driving = s.line.driving ∧
    (s.engineSet x).line.silo = s.line.silo ∧ (s.engineSet x).line.order = s.line.order ∧
    (s.engineSet x).line.receiveErrors = s.line.receiveErrors ∧ (s.engineSet x).line.overruns = s.line.overruns ∧
    (s.engineSet x).line.foreign = s.line.foreign ∧ (s.engineSet x).headroom.peers = s.headroom.peers ∧
    (s.engineSet x).headroom.aged = s.headroom.aged ∧ (s.engineSet x).headroom.suspect = s.headroom.suspect ∧
    (s.engineSet x).headroom.reListen = s.headroom.reListen ∧ (s.engineSet x).headroom.sagRun = s.headroom.sagRun ∧
    (s.engineSet x).headroom.sagEpisode = s.headroom.sagEpisode ∧
    (s.engineSet x).slotTable.arrival = s.slotTable.arrival ∧ (s.engineSet x).port.last = s.port.last ∧
    (s.engineSet x).port.watchdog = s.port.watchdog ∧ (s.engineSet x).port.samplesPresent = s.port.samplesPresent ∧
    (s.engineSet x).port.path = s.port.path ∧ (s.engineSet x).port.readWaiting = s.port.readWaiting ∧
    (s.engineSet x).port.onPort = s.port.onPort ∧ (s.engineSet x).port.ackTimer = s.port.ackTimer ∧
    (s.engineSet x).port.applied = s.port.applied ∧ (s.engineSet x).port.estop = s.port.estop ∧
    (s.engineSet x).port.hold = s.port.hold ∧ (s.engineSet x).guardUnit.effective = s.guardUnit.effective ∧
    (s.engineSet x).guardUnit.latch = s.guardUnit.latch ∧ (s.engineSet x).guardUnit.further = s.guardUnit.further ∧
    (s.engineSet x).station = s.station ∧ (s.engineSet x).address = s.address ∧ (s.engineSet x).config = s.config := by
  unfold State.engineSet
  dsimp only
  (repeat' split) <;> simp

@[simp] theorem State.enterRecover_frame (s : State) (p : Params) :
    (s.enterRecover p).pending = s.pending ∧ (s.enterRecover p).time = s.time ∧
    (s.enterRecover p).startup = s.startup ∧ (s.enterRecover p).line = s.line ∧
    (s.enterRecover p).headroom = s.headroom ∧ (s.enterRecover p).slotTable = s.slotTable ∧
    (s.enterRecover p).port.last = s.port.last ∧ (s.enterRecover p).port.watchdog = s.port.watchdog ∧
    (s.enterRecover p).port.samplesPresent = s.port.samplesPresent ∧ (s.enterRecover p).port.path = s.port.path ∧
    (s.enterRecover p).port.readWaiting = s.port.readWaiting ∧ (s.enterRecover p).port.onPort = s.port.onPort ∧
    (s.enterRecover p).port.ackTimer = s.port.ackTimer ∧ (s.enterRecover p).port.applied = s.port.applied ∧
    (s.enterRecover p).port.estop = s.port.estop ∧ (s.enterRecover p).port.hold = s.port.hold ∧
    (s.enterRecover p).port.pending = s.port.pending ∧ (s.enterRecover p).port.ceiling = s.port.ceiling ∧
    (s.enterRecover p).port.confirmedOpen = s.port.confirmedOpen ∧
    (s.enterRecover p).guardUnit.effective = s.guardUnit.effective ∧
    (s.enterRecover p).guardUnit.latch = s.guardUnit.latch ∧
    (s.enterRecover p).guardUnit.further = s.guardUnit.further ∧
    (s.enterRecover p).guardUnit.resetting = s.guardUnit.resetting ∧ (s.enterRecover p).station = s.station ∧
    (s.enterRecover p).address = s.address ∧ (s.enterRecover p).config = s.config := by
  simp [State.enterRecover]

@[simp] theorem State.stepAcknowledged_frame (s : State) (p : TimeParams) :
    (s.stepAcknowledged p).pending = s.pending ∧ (s.stepAcknowledged p).time = s.time ∧
    (s.stepAcknowledged p).startup = s.startup ∧ (s.stepAcknowledged p).line = s.line ∧
    (s.stepAcknowledged p).headroom = s.headroom ∧ (s.stepAcknowledged p).slotTable = s.slotTable ∧
    (s.stepAcknowledged p).engine.phase = s.engine.phase ∧ (s.stepAcknowledged p).engine.check = s.engine.check ∧
    (s.stepAcknowledged p).engine.runCount = s.engine.runCount ∧
    (s.stepAcknowledged p).engine.verdict = s.engine.verdict ∧ (s.stepAcknowledged p).port = s.port ∧
    (s.stepAcknowledged p).guardUnit = s.guardUnit ∧ (s.stepAcknowledged p).station = s.station ∧
    (s.stepAcknowledged p).address = s.address ∧ (s.stepAcknowledged p).config = s.config := by
  simp [State.stepAcknowledged]

@[simp] theorem State.newestAcknowledged_frame (s : State) (c : Check) :
    (s.newestAcknowledged c).pending = s.pending ∧ (s.newestAcknowledged c).time = s.time ∧
    (s.newestAcknowledged c).startup = s.startup ∧ (s.newestAcknowledged c).line.judgement = s.line.judgement ∧
    (s.newestAcknowledged c).line.driving = s.line.driving ∧ (s.newestAcknowledged c).line.silo = s.line.silo ∧
    (s.newestAcknowledged c).line.order = s.line.order ∧
    (s.newestAcknowledged c).line.receiveErrors = s.line.receiveErrors ∧
    (s.newestAcknowledged c).line.overruns = s.line.overruns ∧
    (s.newestAcknowledged c).line.foreign = s.line.foreign ∧
    (s.newestAcknowledged c).headroom.peers = s.headroom.peers ∧
    (s.newestAcknowledged c).headroom.aged = s.headroom.aged ∧
    (s.newestAcknowledged c).headroom.suspect = s.headroom.suspect ∧
    (s.newestAcknowledged c).headroom.reListen = s.headroom.reListen ∧
    (s.newestAcknowledged c).headroom.sagRun = s.headroom.sagRun ∧
    (s.newestAcknowledged c).headroom.sagEpisode = s.headroom.sagEpisode ∧
    (s.newestAcknowledged c).slotTable.arrival = s.slotTable.arrival ∧
    (s.newestAcknowledged c).port.last = s.port.last ∧ (s.newestAcknowledged c).port.watchdog = s.port.watchdog ∧
    (s.newestAcknowledged c).port.samplesPresent = s.port.samplesPresent ∧
    (s.newestAcknowledged c).port.path = s.port.path ∧
    (s.newestAcknowledged c).port.readWaiting = s.port.readWaiting ∧
    (s.newestAcknowledged c).port.onPort = s.port.onPort ∧
    (s.newestAcknowledged c).port.ackTimer = s.port.ackTimer ∧
    (s.newestAcknowledged c).port.applied = s.port.applied ∧ (s.newestAcknowledged c).port.estop = s.port.estop ∧
    (s.newestAcknowledged c).port.hold = s.port.hold ∧
    (s.newestAcknowledged c).guardUnit.effective = s.guardUnit.effective ∧
    (s.newestAcknowledged c).guardUnit.latch = s.guardUnit.latch ∧
    (s.newestAcknowledged c).guardUnit.further = s.guardUnit.further ∧
    (s.newestAcknowledged c).station = s.station ∧ (s.newestAcknowledged c).address = s.address ∧
    (s.newestAcknowledged c).config = s.config := by
  unfold State.newestAcknowledged
  (repeat' split) <;> simp

@[simp] theorem State.setpointAcknowledged_frame (s : State) (c : Check) :
    (s.setpointAcknowledged c).pending = s.pending ∧ (s.setpointAcknowledged c).time = s.time ∧
    (s.setpointAcknowledged c).startup = s.startup ∧ (s.setpointAcknowledged c).line.judgement = s.line.judgement ∧
    (s.setpointAcknowledged c).line.driving = s.line.driving ∧ (s.setpointAcknowledged c).line.silo = s.line.silo ∧
    (s.setpointAcknowledged c).line.order = s.line.order ∧
    (s.setpointAcknowledged c).line.receiveErrors = s.line.receiveErrors ∧
    (s.setpointAcknowledged c).line.overruns = s.line.overruns ∧
    (s.setpointAcknowledged c).line.foreign = s.line.foreign ∧
    (s.setpointAcknowledged c).headroom.peers = s.headroom.peers ∧
    (s.setpointAcknowledged c).headroom.aged = s.headroom.aged ∧
    (s.setpointAcknowledged c).headroom.suspect = s.headroom.suspect ∧
    (s.setpointAcknowledged c).headroom.reListen = s.headroom.reListen ∧
    (s.setpointAcknowledged c).headroom.sagRun = s.headroom.sagRun ∧
    (s.setpointAcknowledged c).headroom.sagEpisode = s.headroom.sagEpisode ∧
    (s.setpointAcknowledged c).slotTable.arrival = s.slotTable.arrival ∧
    (s.setpointAcknowledged c).port.last = s.port.last ∧
    (s.setpointAcknowledged c).port.watchdog = s.port.watchdog ∧
    (s.setpointAcknowledged c).port.samplesPresent = s.port.samplesPresent ∧
    (s.setpointAcknowledged c).port.path = s.port.path ∧
    (s.setpointAcknowledged c).port.readWaiting = s.port.readWaiting ∧
    (s.setpointAcknowledged c).port.onPort = s.port.onPort ∧
    (s.setpointAcknowledged c).port.ackTimer = s.port.ackTimer ∧
    (s.setpointAcknowledged c).port.applied = s.port.applied ∧
    (s.setpointAcknowledged c).port.estop = s.port.estop ∧ (s.setpointAcknowledged c).port.hold = s.port.hold ∧
    (s.setpointAcknowledged c).guardUnit.effective = s.guardUnit.effective ∧
    (s.setpointAcknowledged c).guardUnit.latch = s.guardUnit.latch ∧
    (s.setpointAcknowledged c).guardUnit.further = s.guardUnit.further ∧
    (s.setpointAcknowledged c).station = s.station ∧ (s.setpointAcknowledged c).address = s.address ∧
    (s.setpointAcknowledged c).config = s.config := by
  unfold State.setpointAcknowledged
  (repeat' split) <;> simp

@[simp] theorem State.dropAcknowledged_frame (s : State) :
    (s.dropAcknowledged).pending = s.pending ∧ (s.dropAcknowledged).time = s.time ∧
    (s.dropAcknowledged).startup = s.startup ∧ (s.dropAcknowledged).line.judgement = s.line.judgement ∧
    (s.dropAcknowledged).line.driving = s.line.driving ∧ (s.dropAcknowledged).line.silo = s.line.silo ∧
    (s.dropAcknowledged).line.order = s.line.order ∧
    (s.dropAcknowledged).line.receiveErrors = s.line.receiveErrors ∧
    (s.dropAcknowledged).line.overruns = s.line.overruns ∧ (s.dropAcknowledged).line.foreign = s.line.foreign ∧
    (s.dropAcknowledged).headroom.peers = s.headroom.peers ∧ (s.dropAcknowledged).headroom.aged = s.headroom.aged ∧
    (s.dropAcknowledged).headroom.suspect = s.headroom.suspect ∧
    (s.dropAcknowledged).headroom.reListen = s.headroom.reListen ∧
    (s.dropAcknowledged).headroom.sagRun = s.headroom.sagRun ∧
    (s.dropAcknowledged).headroom.sagEpisode = s.headroom.sagEpisode ∧
    (s.dropAcknowledged).slotTable.arrival = s.slotTable.arrival ∧ (s.dropAcknowledged).port.last = s.port.last ∧
    (s.dropAcknowledged).port.watchdog = s.port.watchdog ∧
    (s.dropAcknowledged).port.samplesPresent = s.port.samplesPresent ∧
    (s.dropAcknowledged).port.path = s.port.path ∧ (s.dropAcknowledged).port.readWaiting = s.port.readWaiting ∧
    (s.dropAcknowledged).port.onPort = s.port.onPort ∧ (s.dropAcknowledged).port.ackTimer = s.port.ackTimer ∧
    (s.dropAcknowledged).port.applied = s.port.applied ∧ (s.dropAcknowledged).port.estop = s.port.estop ∧
    (s.dropAcknowledged).port.hold = s.port.hold ∧
    (s.dropAcknowledged).guardUnit.effective = s.guardUnit.effective ∧
    (s.dropAcknowledged).guardUnit.latch = s.guardUnit.latch ∧
    (s.dropAcknowledged).guardUnit.further = s.guardUnit.further ∧ (s.dropAcknowledged).station = s.station ∧
    (s.dropAcknowledged).address = s.address ∧ (s.dropAcknowledged).config = s.config := by
  unfold State.dropAcknowledged
  dsimp only
  (repeat' split) <;> simp

@[simp] theorem State.engineAcknowledged_frame (s : State) (sp : Setpoint) :
    (s.engineAcknowledged sp).pending = s.pending ∧ (s.engineAcknowledged sp).time = s.time ∧
    (s.engineAcknowledged sp).startup = s.startup ∧ (s.engineAcknowledged sp).line.judgement = s.line.judgement ∧
    (s.engineAcknowledged sp).line.driving = s.line.driving ∧ (s.engineAcknowledged sp).line.silo = s.line.silo ∧
    (s.engineAcknowledged sp).line.order = s.line.order ∧
    (s.engineAcknowledged sp).line.receiveErrors = s.line.receiveErrors ∧
    (s.engineAcknowledged sp).line.overruns = s.line.overruns ∧
    (s.engineAcknowledged sp).line.foreign = s.line.foreign ∧
    (s.engineAcknowledged sp).headroom.peers = s.headroom.peers ∧
    (s.engineAcknowledged sp).headroom.aged = s.headroom.aged ∧
    (s.engineAcknowledged sp).headroom.suspect = s.headroom.suspect ∧
    (s.engineAcknowledged sp).headroom.reListen = s.headroom.reListen ∧
    (s.engineAcknowledged sp).headroom.sagRun = s.headroom.sagRun ∧
    (s.engineAcknowledged sp).headroom.sagEpisode = s.headroom.sagEpisode ∧
    (s.engineAcknowledged sp).slotTable.arrival = s.slotTable.arrival ∧
    (s.engineAcknowledged sp).port.last = s.port.last ∧ (s.engineAcknowledged sp).port.watchdog = s.port.watchdog ∧
    (s.engineAcknowledged sp).port.samplesPresent = s.port.samplesPresent ∧
    (s.engineAcknowledged sp).port.path = s.port.path ∧
    (s.engineAcknowledged sp).port.readWaiting = s.port.readWaiting ∧
    (s.engineAcknowledged sp).port.onPort = s.port.onPort ∧
    (s.engineAcknowledged sp).port.ackTimer = s.port.ackTimer ∧
    (s.engineAcknowledged sp).port.applied = s.port.applied ∧ (s.engineAcknowledged sp).port.estop = s.port.estop ∧
    (s.engineAcknowledged sp).port.hold = s.port.hold ∧
    (s.engineAcknowledged sp).guardUnit.effective = s.guardUnit.effective ∧
    (s.engineAcknowledged sp).guardUnit.latch = s.guardUnit.latch ∧
    (s.engineAcknowledged sp).guardUnit.further = s.guardUnit.further ∧
    (s.engineAcknowledged sp).station = s.station ∧ (s.engineAcknowledged sp).address = s.address ∧
    (s.engineAcknowledged sp).config = s.config := by
  unfold State.engineAcknowledged
  (repeat' split) <;> simp

@[simp] theorem State.latchFault_frame (s : State) (cause : Cause) :
    (s.latchFault cause).pending = s.pending ∧ (s.latchFault cause).time = s.time ∧
    (s.latchFault cause).startup = s.startup ∧ (s.latchFault cause).line.judgement = s.line.judgement ∧
    (s.latchFault cause).line.driving = s.line.driving ∧ (s.latchFault cause).line.silo = s.line.silo ∧
    (s.latchFault cause).line.order = s.line.order ∧
    (s.latchFault cause).line.receiveErrors = s.line.receiveErrors ∧
    (s.latchFault cause).line.overruns = s.line.overruns ∧ (s.latchFault cause).line.foreign = s.line.foreign ∧
    (s.latchFault cause).headroom.peers = s.headroom.peers ∧ (s.latchFault cause).headroom.aged = s.headroom.aged ∧
    (s.latchFault cause).headroom.suspect = s.headroom.suspect ∧
    (s.latchFault cause).headroom.reListen = s.headroom.reListen ∧
    (s.latchFault cause).headroom.sagRun = s.headroom.sagRun ∧
    (s.latchFault cause).headroom.sagEpisode = s.headroom.sagEpisode ∧
    (s.latchFault cause).slotTable.arrival = s.slotTable.arrival ∧ (s.latchFault cause).port.last = s.port.last ∧
    (s.latchFault cause).port.watchdog = s.port.watchdog ∧
    (s.latchFault cause).port.samplesPresent = s.port.samplesPresent ∧
    (s.latchFault cause).port.path = s.port.path ∧ (s.latchFault cause).port.readWaiting = s.port.readWaiting ∧
    (s.latchFault cause).port.onPort = s.port.onPort ∧ (s.latchFault cause).port.ackTimer = s.port.ackTimer ∧
    (s.latchFault cause).port.applied = s.port.applied ∧ (s.latchFault cause).port.estop = s.port.estop ∧
    (s.latchFault cause).guardUnit.effective = s.guardUnit.effective ∧ (s.latchFault cause).station = s.station ∧
    (s.latchFault cause).address = s.address ∧ (s.latchFault cause).config = s.config := by
  unfold State.latchFault
  (repeat' split) <;> simp

/-- Several faults latched one after another. -/
@[simp] theorem State.latchFaults_frame (s : State) (causes : List Cause) :
    (causes.foldl State.latchFault s).pending = s.pending ∧ (causes.foldl State.latchFault s).time = s.time ∧
    (causes.foldl State.latchFault s).startup = s.startup ∧
    (causes.foldl State.latchFault s).line.judgement = s.line.judgement ∧
    (causes.foldl State.latchFault s).line.driving = s.line.driving ∧
    (causes.foldl State.latchFault s).line.silo = s.line.silo ∧
    (causes.foldl State.latchFault s).line.order = s.line.order ∧
    (causes.foldl State.latchFault s).line.receiveErrors = s.line.receiveErrors ∧
    (causes.foldl State.latchFault s).line.overruns = s.line.overruns ∧
    (causes.foldl State.latchFault s).line.foreign = s.line.foreign ∧
    (causes.foldl State.latchFault s).headroom.peers = s.headroom.peers ∧
    (causes.foldl State.latchFault s).headroom.aged = s.headroom.aged ∧
    (causes.foldl State.latchFault s).headroom.suspect = s.headroom.suspect ∧
    (causes.foldl State.latchFault s).headroom.reListen = s.headroom.reListen ∧
    (causes.foldl State.latchFault s).headroom.sagRun = s.headroom.sagRun ∧
    (causes.foldl State.latchFault s).headroom.sagEpisode = s.headroom.sagEpisode ∧
    (causes.foldl State.latchFault s).slotTable.arrival = s.slotTable.arrival ∧
    (causes.foldl State.latchFault s).port.last = s.port.last ∧
    (causes.foldl State.latchFault s).port.watchdog = s.port.watchdog ∧
    (causes.foldl State.latchFault s).port.samplesPresent = s.port.samplesPresent ∧
    (causes.foldl State.latchFault s).port.path = s.port.path ∧
    (causes.foldl State.latchFault s).port.readWaiting = s.port.readWaiting ∧
    (causes.foldl State.latchFault s).port.onPort = s.port.onPort ∧
    (causes.foldl State.latchFault s).port.ackTimer = s.port.ackTimer ∧
    (causes.foldl State.latchFault s).port.applied = s.port.applied ∧
    (causes.foldl State.latchFault s).port.estop = s.port.estop ∧
    (causes.foldl State.latchFault s).guardUnit.effective = s.guardUnit.effective ∧
    (causes.foldl State.latchFault s).station = s.station ∧ (causes.foldl State.latchFault s).address = s.address ∧
    (causes.foldl State.latchFault s).config = s.config := by
  induction causes generalizing s with
  | nil => simp
  | cons c rest ih => simpa using ih (s.latchFault c)

@[simp] theorem State.guardSet_frame (s : State) (x : SampleSet) :
    (s.guardSet x).pending = s.pending ∧ (s.guardSet x).time = s.time ∧ (s.guardSet x).startup = s.startup ∧
    (s.guardSet x).line.judgement = s.line.judgement ∧ (s.guardSet x).line.driving = s.line.driving ∧
    (s.guardSet x).line.silo = s.line.silo ∧ (s.guardSet x).line.order = s.line.order ∧
    (s.guardSet x).line.receiveErrors = s.line.receiveErrors ∧ (s.guardSet x).line.overruns = s.line.overruns ∧
    (s.guardSet x).line.foreign = s.line.foreign ∧ (s.guardSet x).headroom.peers = s.headroom.peers ∧
    (s.guardSet x).headroom.aged = s.headroom.aged ∧ (s.guardSet x).headroom.suspect = s.headroom.suspect ∧
    (s.guardSet x).headroom.reListen = s.headroom.reListen ∧ (s.guardSet x).headroom.sagRun = s.headroom.sagRun ∧
    (s.guardSet x).headroom.sagEpisode = s.headroom.sagEpisode ∧
    (s.guardSet x).slotTable.arrival = s.slotTable.arrival ∧ (s.guardSet x).port.last = s.port.last ∧
    (s.guardSet x).port.watchdog = s.port.watchdog ∧ (s.guardSet x).port.samplesPresent = s.port.samplesPresent ∧
    (s.guardSet x).port.path = s.port.path ∧ (s.guardSet x).port.readWaiting = s.port.readWaiting ∧
    (s.guardSet x).port.onPort = s.port.onPort ∧ (s.guardSet x).port.ackTimer = s.port.ackTimer ∧
    (s.guardSet x).port.applied = s.port.applied ∧ (s.guardSet x).port.estop = s.port.estop ∧
    (s.guardSet x).guardUnit.effective = s.guardUnit.effective ∧ (s.guardSet x).station = s.station ∧
    (s.guardSet x).address = s.address ∧ (s.guardSet x).config = s.config := by
  unfold State.guardSet
  dsimp only
  (repeat' split) <;> simp

@[simp] theorem State.clearLatch_frame (s : State) :
    (s.clearLatch).pending = s.pending ∧ (s.clearLatch).time = s.time ∧ (s.clearLatch).startup = s.startup ∧
    (s.clearLatch).line.judgement = s.line.judgement ∧ (s.clearLatch).line.driving = s.line.driving ∧
    (s.clearLatch).line.silo = s.line.silo ∧ (s.clearLatch).line.order = s.line.order ∧
    (s.clearLatch).line.receiveErrors = s.line.receiveErrors ∧ (s.clearLatch).line.overruns = s.line.overruns ∧
    (s.clearLatch).line.foreign = s.line.foreign ∧ (s.clearLatch).headroom.peers = s.headroom.peers ∧
    (s.clearLatch).headroom.aged = s.headroom.aged ∧ (s.clearLatch).headroom.suspect = s.headroom.suspect ∧
    (s.clearLatch).headroom.reListen = s.headroom.reListen ∧ (s.clearLatch).headroom.sagRun = s.headroom.sagRun ∧
    (s.clearLatch).headroom.sagEpisode = s.headroom.sagEpisode ∧
    (s.clearLatch).slotTable.arrival = s.slotTable.arrival ∧ (s.clearLatch).port.last = s.port.last ∧
    (s.clearLatch).port.watchdog = s.port.watchdog ∧ (s.clearLatch).port.samplesPresent = s.port.samplesPresent ∧
    (s.clearLatch).port.path = s.port.path ∧ (s.clearLatch).port.readWaiting = s.port.readWaiting ∧
    (s.clearLatch).port.onPort = s.port.onPort ∧ (s.clearLatch).port.ackTimer = s.port.ackTimer ∧
    (s.clearLatch).port.applied = s.port.applied ∧ (s.clearLatch).port.estop = s.port.estop ∧
    (s.clearLatch).guardUnit.effective = s.guardUnit.effective ∧ (s.clearLatch).station = s.station ∧
    (s.clearLatch).address = s.address ∧ (s.clearLatch).config = s.config := by
  simp [State.clearLatch]

@[simp] theorem State.silencePort_frame (s : State) :
    (s.silencePort).pending = s.pending ∧ (s.silencePort).time = s.time ∧ (s.silencePort).startup = s.startup ∧
    (s.silencePort).line = s.line ∧ (s.silencePort).headroom = s.headroom ∧
    (s.silencePort).slotTable = s.slotTable ∧ (s.silencePort).engine = s.engine ∧
    (s.silencePort).port.last = s.port.last ∧ (s.silencePort).port.samplesPresent = s.port.samplesPresent ∧
    (s.silencePort).port.path = s.port.path ∧ (s.silencePort).port.readWaiting = s.port.readWaiting ∧
    (s.silencePort).port.onPort = s.port.onPort ∧ (s.silencePort).port.ackTimer = s.port.ackTimer ∧
    (s.silencePort).port.applied = s.port.applied ∧ (s.silencePort).port.estop = s.port.estop ∧
    (s.silencePort).port.hold = s.port.hold ∧ (s.silencePort).port.confirmedOpen = s.port.confirmedOpen ∧
    (s.silencePort).guardUnit.effective = s.guardUnit.effective ∧
    (s.silencePort).guardUnit.latch = s.guardUnit.latch ∧ (s.silencePort).guardUnit.further = s.guardUnit.further ∧
    (s.silencePort).guardUnit.resetting = s.guardUnit.resetting ∧ (s.silencePort).station = s.station ∧
    (s.silencePort).address = s.address ∧ (s.silencePort).config = s.config := by
  simp [State.silencePort]

@[simp] theorem State.takeSet_frame (s : State) (x : SampleSet) :
    (s.takeSet x).pending = s.pending ∧ (s.takeSet x).time = s.time ∧ (s.takeSet x).startup = s.startup ∧
    (s.takeSet x).line = s.line ∧ (s.takeSet x).headroom = s.headroom ∧ (s.takeSet x).slotTable = s.slotTable ∧
    (s.takeSet x).engine = s.engine ∧ (s.takeSet x).port.onPort = s.port.onPort ∧
    (s.takeSet x).port.pending = s.port.pending ∧ (s.takeSet x).port.ackTimer = s.port.ackTimer ∧
    (s.takeSet x).port.applied = s.port.applied ∧ (s.takeSet x).port.ceiling = s.port.ceiling ∧
    (s.takeSet x).port.standing = s.port.standing ∧ (s.takeSet x).port.hold = s.port.hold ∧
    (s.takeSet x).port.estop = s.port.estop ∧ (s.takeSet x).guardUnit = s.guardUnit ∧
    (s.takeSet x).station = s.station ∧ (s.takeSet x).address = s.address ∧ (s.takeSet x).config = s.config := by
  unfold State.takeSet
  (repeat' split) <;> simp

@[simp] theorem State.offerSet_frame (s : State) (x : SampleSet) (order : SetOrder) :
    (s.offerSet x order).pending = s.pending ∧ (s.offerSet x order).time = s.time ∧
    (s.offerSet x order).startup = s.startup ∧ (s.offerSet x order).line.judgement = s.line.judgement ∧
    (s.offerSet x order).line.driving = s.line.driving ∧ (s.offerSet x order).line.silo = s.line.silo ∧
    (s.offerSet x order).line.order = s.line.order ∧
    (s.offerSet x order).line.receiveErrors = s.line.receiveErrors ∧
    (s.offerSet x order).line.overruns = s.line.overruns ∧ (s.offerSet x order).line.foreign = s.line.foreign ∧
    (s.offerSet x order).headroom.peers = s.headroom.peers ∧ (s.offerSet x order).headroom.aged = s.headroom.aged ∧
    (s.offerSet x order).headroom.suspect = s.headroom.suspect ∧
    (s.offerSet x order).headroom.reListen = s.headroom.reListen ∧
    (s.offerSet x order).slotTable.arrival = s.slotTable.arrival ∧ (s.offerSet x order).port.last = s.port.last ∧
    (s.offerSet x order).port.watchdog = s.port.watchdog ∧
    (s.offerSet x order).port.samplesPresent = s.port.samplesPresent ∧
    (s.offerSet x order).port.path = s.port.path ∧ (s.offerSet x order).port.readWaiting = s.port.readWaiting ∧
    (s.offerSet x order).port.onPort = s.port.onPort ∧ (s.offerSet x order).port.ackTimer = s.port.ackTimer ∧
    (s.offerSet x order).port.applied = s.port.applied ∧ (s.offerSet x order).port.estop = s.port.estop ∧
    (s.offerSet x order).guardUnit.effective = s.guardUnit.effective ∧ (s.offerSet x order).station = s.station ∧
    (s.offerSet x order).address = s.address ∧ (s.offerSet x order).config = s.config := by
  unfold State.offerSet
  (repeat' split) <;> simp

@[simp] theorem State.answerMatches_frame (s : State) (sp : Setpoint) :
    (s.answerMatches sp).pending = s.pending ∧ (s.answerMatches sp).time = s.time ∧
    (s.answerMatches sp).startup = s.startup ∧ (s.answerMatches sp).line.judgement = s.line.judgement ∧
    (s.answerMatches sp).line.driving = s.line.driving ∧ (s.answerMatches sp).line.silo = s.line.silo ∧
    (s.answerMatches sp).line.order = s.line.order ∧
    (s.answerMatches sp).line.receiveErrors = s.line.receiveErrors ∧
    (s.answerMatches sp).line.overruns = s.line.overruns ∧ (s.answerMatches sp).line.foreign = s.line.foreign ∧
    (s.answerMatches sp).headroom.peers = s.headroom.peers ∧ (s.answerMatches sp).headroom.aged = s.headroom.aged ∧
    (s.answerMatches sp).headroom.suspect = s.headroom.suspect ∧
    (s.answerMatches sp).headroom.reListen = s.headroom.reListen ∧
    (s.answerMatches sp).headroom.sagRun = s.headroom.sagRun ∧
    (s.answerMatches sp).headroom.sagEpisode = s.headroom.sagEpisode ∧
    (s.answerMatches sp).slotTable.arrival = s.slotTable.arrival ∧ (s.answerMatches sp).port.last = s.port.last ∧
    (s.answerMatches sp).port.watchdog = s.port.watchdog ∧
    (s.answerMatches sp).port.samplesPresent = s.port.samplesPresent ∧
    (s.answerMatches sp).port.path = s.port.path ∧ (s.answerMatches sp).port.readWaiting = s.port.readWaiting ∧
    (s.answerMatches sp).port.onPort = s.port.onPort ∧ (s.answerMatches sp).port.ackTimer = s.port.ackTimer ∧
    (s.answerMatches sp).port.estop = s.port.estop ∧ (s.answerMatches sp).port.hold = s.port.hold ∧
    (s.answerMatches sp).guardUnit.effective = s.guardUnit.effective ∧
    (s.answerMatches sp).guardUnit.latch = s.guardUnit.latch ∧
    (s.answerMatches sp).guardUnit.further = s.guardUnit.further ∧ (s.answerMatches sp).station = s.station ∧
    (s.answerMatches sp).address = s.address ∧ (s.answerMatches sp).config = s.config := by
  simp [State.answerMatches]

@[simp] theorem State.answerDiffers_frame (s : State) (sp : Setpoint) :
    (s.answerDiffers sp).pending = s.pending ∧ (s.answerDiffers sp).time = s.time ∧
    (s.answerDiffers sp).startup = s.startup ∧ (s.answerDiffers sp).line.judgement = s.line.judgement ∧
    (s.answerDiffers sp).line.driving = s.line.driving ∧ (s.answerDiffers sp).line.silo = s.line.silo ∧
    (s.answerDiffers sp).line.order = s.line.order ∧
    (s.answerDiffers sp).line.receiveErrors = s.line.receiveErrors ∧
    (s.answerDiffers sp).line.overruns = s.line.overruns ∧ (s.answerDiffers sp).line.foreign = s.line.foreign ∧
    (s.answerDiffers sp).headroom.peers = s.headroom.peers ∧ (s.answerDiffers sp).headroom.aged = s.headroom.aged ∧
    (s.answerDiffers sp).headroom.suspect = s.headroom.suspect ∧
    (s.answerDiffers sp).headroom.reListen = s.headroom.reListen ∧
    (s.answerDiffers sp).headroom.sagRun = s.headroom.sagRun ∧
    (s.answerDiffers sp).headroom.sagEpisode = s.headroom.sagEpisode ∧
    (s.answerDiffers sp).slotTable.arrival = s.slotTable.arrival ∧ (s.answerDiffers sp).port.last = s.port.last ∧
    (s.answerDiffers sp).port.watchdog = s.port.watchdog ∧
    (s.answerDiffers sp).port.samplesPresent = s.port.samplesPresent ∧
    (s.answerDiffers sp).port.path = s.port.path ∧ (s.answerDiffers sp).port.readWaiting = s.port.readWaiting ∧
    (s.answerDiffers sp).port.onPort = s.port.onPort ∧ (s.answerDiffers sp).port.ackTimer = s.port.ackTimer ∧
    (s.answerDiffers sp).port.applied = s.port.applied ∧ (s.answerDiffers sp).port.estop = s.port.estop ∧
    (s.answerDiffers sp).guardUnit.effective = s.guardUnit.effective ∧ (s.answerDiffers sp).station = s.station ∧
    (s.answerDiffers sp).address = s.address ∧ (s.answerDiffers sp).config = s.config := by
  unfold State.answerDiffers
  dsimp only
  (repeat' split) <;> simp

end Sys2Proof.Machine
end

