-- ==== Sys2Proof/Safety.lean ====
section
/-!
DEFINITION. What counts as a sound state of the SC28, in the terms the statements use: the contactor, the setpoint path,
the transmit queue, the silo and the peer view, the own claim, the slots, the guard limits, the counters and the station
state, each with the rules that call for it. Each is decidable.
-/

namespace Sys2Proof.Machine

/-- The guard unit's hold is set exactly while the fault latch is set, a set hold keeps the standing request OPEN, and a
contactor confirmed open is not asked to be closed (R120, R121, R183). -/
abbrev State.contactorForm (s : State) : Prop :=
  s.port.hold = s.guardUnit.latch.isSome ∧
  (s.port.hold = true → s.port.standing = .opened) ∧
  (s.port.confirmedOpen = true → s.port.standing = .opened)

/-- Outside ON_LINE the standing request is OPEN and no check runs, save the abort that silencing began; RELEASE is left
at once (R11, R75, R137, R143). -/
abbrev State.stationForm (s : State) : Prop :=
  (s.station ≠ .onLine →
    s.port.standing = .opened ∧
    (s.engine.phase = .idle ∨ s.station = .offLine ∧ s.engine.phase = .aborting)) ∧
  s.engine.phase ≠ .release

/-- A setpoint of the path that is marked as a drop has value zero. -/
abbrev Setpoint.dropIsZero (x : Setpoint) : Prop := x.drop = true → x.value = 0

/-- Drops are zero, and nothing waits behind a drop ON_PORT (R113 to R116). -/
abbrev Port.pathForm (p : Port) : Prop :=
  (∀ u ∈ p.pending, u.dropIsZero) ∧
  (∀ o ∈ p.onPort, o.setpoint.dropIsZero ∧ (o.setpoint.drop = true → p.pending = none))

/-- In RECOVER the load is off and nothing is on its way to it; in SETTLE the newest setpoint of the path is zero (R135,
R136). -/
abbrev State.unloadedForm (s : State) : Prop :=
  (s.engine.phase = .recover → s.port.applied = 0 ∧ s.port.pending = none ∧ s.port.onPort = none) ∧
  (s.engine.phase = .settle →
    (∀ u ∈ s.port.pending, u.value = 0) ∧ (s.port.pending = none → ∀ o ∈ s.port.onPort, o.setpoint.value = 0))

/-- The order of the transmit queue: by header value, then by entry order (R24). -/
abbrev Entry.before (a b : Entry) : Prop :=
  a.frame.header < b.frame.header ∨ a.frame.header = b.frame.header ∧ a.entryOrder < b.entryOrder

/-- The line unit has a frame of its own on the line. -/
def LineState.isSending : LineState → Bool
  | .sending _ => true
  | .apart | .looped | .busy | .idle | .receiving _ => false

/-- The transmit queue stands in order and within its quotas of one SHED, one CLAIM and ten REPLY frames, at most one
entry is sending, and only while the part sends; apart from the line nothing is queued (R13, R24 to R27, R34). -/
abbrev State.queueForm (s : State) : Prop :=
  s.line.queue.Pairwise Entry.before ∧
  (∀ e ∈ s.line.queue, e.entryOrder < s.line.nextEntry) ∧
  (∀ e ∈ s.line.queue, e.isShed = true ∨ e.isClaim = true ∨ e.isReply = true) ∧
  s.line.queue.countP Entry.isShed ≤ 1 ∧
  s.line.queue.countP Entry.isClaim ≤ 1 ∧
  s.line.queue.countP Entry.isReply ≤ Config.replyQuota ∧
  s.line.queue.countP Entry.sending ≤ 1 ∧
  (∀ e ∈ s.line.queue, e.sending = true → s.line.judgement.isSending = true) ∧
  (∀ f ∈ s.line.waiting, f.cls = 1) ∧
  (s.station.connected = false → s.line.queue = [] ∧ s.line.waiting = none)

/-- The amounts of an entry: a hold above 0, or an ask above what is held and at most 400 (R36). -/
def Peer.amountsFit (p : Peer) : Bool :=
  match p.state with
  | .holding => decide (0 < p.held)
  | .asking a => decide (p.held < a) && decide (a ≤ Config.claimTop)

/-- An entry of the peer view is one that R36 admits beside the part's own address. -/
abbrev Peer.form (own : Address) (p : Peer) : Prop :=
  p.address.toNat < Config.bayAddresses ∧ p.address ≠ own ∧ p.held ≤ Config.claimTop ∧
  p.amountsFit = true ∧ 1 ≤ p.period ∧ p.period ≤ Config.refreshTop ∧
  p.expiry = later p.heard (Config.expiryPeriods * p.period * Config.unitsPer100ms)

/-- The silo holds at most eight frames, all of which pass R30, and none apart from the line; the peer view stands in the
order of its addresses with entries that R36 admits, and is empty outside JOINING and ON_LINE (R30, R31, R36). -/
abbrev State.viewForm (s : State) : Prop :=
  s.line.silo.length ≤ Config.siloPlaces ∧
  (∀ h ∈ s.line.silo, filterFrame s.address h.frame = .enters) ∧
  (s.station.connected = false → s.line.silo = []) ∧
  s.headroom.peers.Pairwise (fun a b => a.address.toNat < b.address.toNat) ∧
  (∀ p ∈ s.headroom.peers, p.form s.address) ∧
  (s.station.builds = false → s.headroom.peers = [])

/-- Every field of the record in use lies in its range of R7's table. -/
abbrev ConfigRecord.inRange (c : ConfigRecord) : Prop :=
  (100 ≤ c.capacity ∧ c.capacity ≤ 8000) ∧ c.reserve ≤ c.capacity - 100 ∧
  (800 ≤ c.efficiency ∧ c.efficiency ≤ 990) ∧ (10000 ≤ c.nominalVoltage ∧ c.nominalVoltage ≤ 60000) ∧
  (5 ≤ c.contestWindow ∧ c.contestWindow ≤ 200) ∧ (1 ≤ c.refreshPeriod ∧ c.refreshPeriod ≤ 50) ∧
  (10 ≤ c.backoffBase ∧ c.backoffBase ≤ 1000) ∧
  (48 ≤ c.ownerLow ∧ c.ownerLow ≤ c.ownerHigh ∧ c.ownerHigh ≤ 62) ∧
  (100 ≤ c.guardCurrent ∧ c.guardCurrent ≤ 8000) ∧ (10000 ≤ c.guardVoltage ∧ c.guardVoltage ≤ 65000) ∧
  (0 ≤ c.guardTemperature ∧ c.guardTemperature ≤ 1200) ∧
  (c.sagThreshold < c.sagClear ∧ c.sagClear ≤ 6000) ∧ (1 ≤ c.sagCount ∧ c.sagCount ≤ 64) ∧
  (100 ≤ c.shedHold ∧ c.shedHold ≤ 5000) ∧ (1 ≤ c.startWait ∧ c.startWait ≤ 30) ∧
  (1 ≤ c.ackTimeout ∧ c.ackTimeout ≤ 50)

/-- A need that R73 admits: 1..400 FU. -/
abbrev needFits (amount : Nat) : Prop := 1 ≤ amount ∧ amount ≤ Config.claimTop

/-- The slot is ASSEMBLING. -/
def Slot.isAssembling : Slot → Bool
  | .assembling _ _ _ _ => true
  | .vacant | .held _ _ | .active _ _ | .done _ _ _ _ => false

/-- Every check that a slot or the engine holds has a need of 1..400 FU, because what validation reads is in range: a
record and limits stand wherever a slot may be assembled (R7, R8, R73, R104, R179, R180). -/
abbrev State.needForm (s : State) : Prop :=
  (∀ c ∈ s.startup.config, c.inRange) ∧
  (∀ l ∈ s.guardUnit.effective, 100 ≤ l.current ∧ s.startup.config.isSome = true) ∧
  (s.station = .loading → s.guardUnit.effective = none) ∧
  (s.station = .selfLoop ∨ s.station.builds = true →
    s.startup.config.isSome = true ∧ s.guardUnit.effective.isSome = true) ∧
  (s.station.builds = false → ∀ n : Fin 8, (s.slotTable.slot n).isAssembling = false) ∧
  (∀ n : Fin 8, ∀ w ∈ (s.slotTable.slot n).work, needFits w.need) ∧
  (∀ c ∈ s.engine.check, needFits c.need)

/-- A need that is being asked for stands above the hold and within 400 FU. -/
def Headroom.asksMore (u : Headroom) : Bool :=
  match u.need with
  | none => false
  | some n => decide (u.held < n.amount) && decide (n.amount ≤ Config.claimTop)

/-- A need that uses the hold lies within it, and the hold is on its way to nothing but that need, or to zero where none
stands (R54, R55). -/
def Headroom.usesHold (u : Headroom) : Bool :=
  match u.need with
  | none => u.target.isNone || u.target == some 0
  | some n => decide (1 ≤ n.amount) && decide (n.amount ≤ u.held) && (u.target.isNone || u.target == some n.amount)

/-- No timer of the record runs but those named by the flags: contest, backoff, refresh with hold-stale. -/
def Headroom.quietBut (u : Headroom) (contest backoff holding : Bool) : Bool :=
  (contest || u.contestTimer.isNone) && (backoff || u.backoffTimer.isNone)
    && (holding || u.refreshTimer.isNone && u.staleTimer.isNone)

/-- What each state of the own claim carries, as the table before R43 gives it: the hold, the need and the timers. -/
def Headroom.claimForm (u : Headroom) : Bool :=
  match u.claim with
  | .barred | .idle => u.held == 0 && u.need.isNone && u.target.isNone && u.quietBut false false false
  | .askQueued => u.asksMore && u.target.isNone && u.quietBut false false false
  | .contest =>
    u.asksMore && u.target.isNone && u.own.isSome && (u.contestTimer.isSome || u.note.isSome)
      && u.quietBut true false false
  | .holding =>
    decide (1 ≤ u.held) && decide (u.held ≤ Config.claimTop) && u.usesHold && u.quietBut false false true
  | .backoff => u.asksMore && u.target.isNone && u.backoffTimer.isSome && u.quietBut false true false

/-- The own claim carries what its state gives it, in LOADING, SELF_LOOP, JOINING and DEGRADED it is BARRED, and no check
brings it another need than one of 1..400 FU (R43, R56, R73). -/
abbrev State.claimForm (s : State) : Prop :=
  s.headroom.claimForm = true ∧
  (s.station ≠ .onLine → s.station ≠ .offLine → s.headroom.claim = .barred) ∧
  s.needForm

/-- The start queue holds every HELD slot once and no other slot, and an ACTIVE slot is the slot of the engine's check
(R74, R75, R124). -/
abbrev State.slotForm (s : State) : Prop :=
  s.slotTable.queue.Nodup ∧
  (∀ n : Fin 8, n ∈ s.slotTable.queue ↔ (s.slotTable.slot n).isHeld = true) ∧
  (∀ n : Fin 8, (s.slotTable.slot n).isActive = true →
    s.engine.phase ≠ .idle ∧ s.engine.check.map Check.slot = some n)

/-- The first limits are nowhere above the second (R179). -/
abbrev Limits.within (e c : Limits) : Prop :=
  e.current ≤ c.current ∧ e.voltage ≤ c.voltage ∧ e.temperature ≤ c.temperature

/-- The effective limits are unset while no record is in use and are never above the configured ones; in LOADING no
record is in use (R3, R8, R179). -/
abbrev State.limitForm (s : State) : Prop :=
  (∀ e ∈ s.guardUnit.effective, ∃ c ∈ s.startup.config, e.within c.limits) ∧
  (s.station = .loading → s.startup.config = none ∧ s.guardUnit.effective = none)

/-- Every count that saturates at 255 stays there (R7, R33, R40, R50, R183). -/
abbrev State.counterForm (s : State) : Prop :=
  s.startup.clampCount ≤ Config.counterTop ∧ s.line.receiveErrors ≤ Config.counterTop ∧
  s.line.overruns ≤ Config.counterTop ∧ s.line.foreign ≤ Config.counterTop ∧
  s.line.replyDrops ≤ Config.counterTop ∧ s.headroom.aged ≤ Config.counterTop ∧
  s.headroom.yields ≤ Config.counterTop ∧ s.guardUnit.further ≤ Config.counterTop

/-! ### What the statements speak about -/

/-- The line unit hands on `h`: the oldest frame of the silo, of a class and kind, with `rest` behind it (R32). -/
abbrev State.handing (s : State) (h : Heard) (rest : List Heard) (cls kind : Nat) : Prop :=
  s.station.connected = true ∧ s.line.silo = h :: rest ∧ h.frame.cls.toNat = cls ∧ h.frame.kind.toNat = kind

/-- The part once that frame has left the silo (R32). -/
def State.taking (s : State) (rest : List Heard) : State := s.setLine { s.line with silo := rest }

/-- The first three tests of R63 pass: owner range, no BAY_RESET in progress, the payload length of the kind. -/
abbrev State.requestPasses (s : State) (f : Frame) : Prop :=
  (s.config.ownerLow ≤ f.source.toNat ∧ f.source.toNat ≤ s.config.ownerHigh) ∧
  s.guardUnit.resetting = none ∧ f.payload.length = requestLength f.kind.toNat

/-- The requests by their kinds, each with the block that takes it (R32, R89). -/
def requestOf : Nat → Option (Instr × Block)
  | 0 => some (.openSlot, .slotTable)
  | 1 => some (.part, .slotTable)
  | 2 => some (.cancel, .slotTable)
  | 3 => some (.clear, .slotTable)
  | 4 => some (.fetch, .slotTable)
  | 5 => some (.status, .slotTable)
  | 6 => some (.tighten, .guardUnit)
  | 7 => some (.clearFault, .guardUnit)
  | 8 => some (.bayReset, .guardUnit)
  | _ => none

/-- What is done with a request that is refused: one REFUSE with the code of the reason and the detail, or nothing at
all where the request was sent to all stations (R63, R64, R93, R107). -/
def State.refusing (s : State) (block : Block) (f : Frame) (reason detail : Nat) : State :=
  if f.target = 63 then s
  else
    s.offerReplies block
      [{ cls := 3, urgency := 3, source := s.address, target := f.source, kind := 0,
         payload := [byte f.kind.toNat, byte (byteAt f.payload 0), byte reason, byte detail] }]

/-- The part with slot `n` holding `x`. -/
def State.withSlot (s : State) (n : Fin 8) (x : Slot) : State :=
  { s with slotTable := { s.slotTable with slots := s.slotTable.slots.set n x } }

/-- The part with slot `n` VACANT and out of the start queue. -/
def State.withVacated (s : State) (n : Fin 8) : State :=
  { s with slotTable := { s.slotTable with
      slots := s.slotTable.slots.set n .vacant, queue := s.slotTable.queue.filter (fun m => m != n) } }

/-- A slot `n` that would hold `head` goes before slot `m` in the configured start order: by slot number, or by priority,
then by arrival number, then by slot number (R62, R74). -/
abbrev State.goesBefore (s : State) (n : Fin 8) (head : SlotHead) (m : Fin 8) : Prop :=
  match s.config.startOrder, s.slotTable.startKey m with
  | .slotNumber, _ => n < m
  | .priorityThenArrival, (priority, arrival) =>
    head.priority < priority ∨
    head.priority = priority ∧
      (arrivalEarlier head.arrival arrival = true ∨ arrivalEarlier arrival head.arrival = false ∧ n < m)

/-- A fault reported to the guard unit takes the latch if it is clear, with the hold and an open contactor, and is
counted as a further fault if it is set (R120, R183). -/
abbrev State.latchedFrom (t s : State) (cause : Cause) : Prop :=
  t.guardUnit.latch = some (s.guardUnit.latch.getD cause) ∧
  t.guardUnit.further = (if s.guardUnit.latch = none then 0 else min (s.guardUnit.further + 1) 255) ∧
  (s.guardUnit.latch = none → t.port.hold = true ∧ t.port.standing = .opened)

/-- The engine loads the shelf: PRELOAD, RAMP or STEP (spec/07). -/
def Phase.loads : Phase → Bool
  | .preload | .ramp | .step => true
  | .idle | .quiet | .soak | .claiming | .frozen | .settle | .recover | .release | .aborting => false

/-- The phases in which every order to abort is taken (R138). -/
def Phase.abortable : Phase → Bool
  | .quiet | .soak | .claiming | .preload | .ramp | .step | .frozen => true
  | .idle | .settle | .recover | .release | .aborting => false

/-- The part may hear a frame whose start bit stands at `start`: the line is idle and the frame begins at its stamp, or
the part lost the arbitration it began at `start` (R17, R18, R22). -/
abbrev State.hears (s : State) (stamp start : Word) : Prop :=
  s.station.connected = true ∧
  (s.line.judgement = .idle ∧ start = stamp ∨ s.line.judgement = .receiving start)

/-- The part's own frame `e` is on the line, its start bit sent at `start`. -/
abbrev State.onLineWith (s : State) (start : Word) (e : Entry) : Prop :=
  s.line.judgement = .sending start ∧ s.line.queue.find? Entry.sending = some e

/-- The line unit after its own frame `e` has completed (R20, R22, R23). -/
def Line.afterOwn (l : Line) (e : Entry) : Line :=
  { l with
    judgement := .busy, driving := [], queue := l.queue.filter (fun x => x.entryOrder != e.entryOrder)
    order := l.order + 1, collisions := 0, collided := none }

/-- The line unit after a frame heard has completed (R20, R22). -/
def Line.afterHeard (l : Line) : Line :=
  { l with judgement := .busy, order := l.order + 1, collisions := 0, collided := none }

/-- A block's drop stands somewhere in the setpoint path (R115). -/
abbrev Port.dropInPath (p : Port) : Prop :=
  (∃ u ∈ p.pending, u.drop = true) ∨ (∃ o ∈ p.onPort, o.setpoint.drop = true)

/-! ### What replies carry, byte for byte -/

/-- The engine phases in the order of their codes (R94). -/
def phaseOrder : List Phase :=
  [.idle, .quiet, .soak, .claiming, .preload, .ramp, .step, .frozen, .settle, .recover, .release, .aborting]

/-- The verdicts in the order of their codes (R105). -/
def verdictOrder : List Verdict :=
  [.pass, .failLow, .failHigh, .noTrip, .noFold, .trippedInDerate, .notRun, .aborted]

/-- The causes in the order of their codes (R106). -/
def causeOrder : List Cause :=
  [.none, .cancelled, .notAtRest, .soakTimeout, .holdStale, .shedLimit, .estop, .guardV, .guardI, .guardT,
    .loadStageSilent, .loadStageMismatch, .samplesLost, .recoverFailed, .stationSilenced]

/-- The check kinds in the order of their codes, from 1 (R91). -/
def kindOrder : List CheckKind := [.tripRamp, .tripTime, .derate]

/-- The clamp flags in bits 4 and 5 (R94, R96). -/
def clampByte (w : Work) : Nat :=
  (if w.ceilingClamped = true then 16 else 0) + (if w.dwellClamped = true then 32 else 0)

/-- The six bytes that show a slot (R81, R94). -/
def State.slotBytes (s : State) (n : Fin 8) : List Byte :=
  let shown (state clamps progress : Nat) (h : SlotHead) : List Byte :=
    [byte (n.val + 16 * state), byte h.owner.toNat, byte (kindOrder.idxOf h.kind + 1 + 4 * h.priority + clamps),
      byte (h.arrival.toNat % 256), byte (h.arrival.toNat / 256), byte progress]
  match s.slotTable.slot n with
  | .vacant => [byte n.val, 0, 0, 0, 0, 0]
  | .assembling h _ parts _ => shown 1 0 parts.length h
  | .held h w => shown 2 (clampByte w) (s.slotTable.queue.idxOf n) h
  | .active h w => shown 3 (clampByte w) (phaseOrder.idxOf s.engine.phase) h
  | .done h w _ _ => shown 4 (clampByte w) 0 h

/-- The 28 bytes of a result block (R96). -/
def resultBytes (h : SlotHead) (w : Work) (r : ResultRecord) : List Byte :=
  [byte (verdictOrder.idxOf r.verdict + 8 * causeOrder.idxOf r.cause),
    byte (r.restarts + (if r.clipped = true then 4 else 0) + (if r.carried = true then 8 else 0)
      + (if r.furtherFault = true then 16 else 0))]
    ++ ([r.measured, r.expected, r.bandLower, r.bandUpper].map bytes16).flatten ++ bytesSigned16 r.tUsed
    ++ ([r.claimAmount, r.headroomWait, r.runDuration].map bytes16).flatten ++ bytes32 r.endStamp
    ++ bytes16 r.peakCurrent ++ [byte h.owner.toNat, byte (kindOrder.idxOf h.kind + 1 + clampByte w)]
    ++ bytes16 h.arrival.toNat

/-- The four RESULT frames of a slot, seven bytes of the block in each (R96). -/
def State.resultFrames (s : State) (target : Address) (n : Fin 8) (block : List Byte) : List Frame :=
  [0, 1, 2, 3].map fun p =>
    { cls := 3, urgency := 3, source := s.address, target := target, kind := BitVec.ofNat 5 (4 + p),
      payload := byte (n.val + 16 * p) :: (block.drop (7 * p)).take 7 }

/-- The two frames of a STATUS_REPLY group (R99). -/
def State.statusFrames (s : State) (target : Address) : List Frame :=
  let bit (b : Bool) (value : Nat) : Nat := if b = true then value else 0
  let station := [StationState.loading, .selfLoop, .joining, .onLine, .degraded, .offLine].idxOf s.station
  let fault := [none, some StationFault.strapInvalid, some .configUnreadable, some .configBad, some .loopFailed,
    some .dupAddress].idxOf s.startup.fault
  let claim := [ClaimState.idle, .askQueued, .contest, .holding, .backoff, .barred].idxOf s.headroom.claim
  let own := s.headroom.held + 512 * claim + 4096 * phaseOrder.idxOf s.engine.phase
  let first := (s.guardUnit.latch.map (fun c => causeOrder.idxOf c)).getD 0
  let frame (kind : BitVec 5) (payload : List Byte) : Frame :=
    { cls := 3, urgency := 3, source := s.address, target := target, kind := kind, payload := payload }
  [frame 8 ([byte (station + 8 * fault + bit (s.config.startOrder == .slotNumber) 64
        + bit s.startup.config.isSome 128), byte s.startup.clampCount] ++ bytes32 s.time ++
      [byte (first + bit s.headroom.sagEpisode 16 + bit s.headroom.suspect 32), byte s.guardUnit.further]),
    frame 9 ([s.line.receiveErrors, s.line.overruns, s.line.foreign, s.line.replyDrops, s.headroom.aged,
      s.headroom.peers.length].map byte ++ [byte (own % 256), byte (own / 256)])]

/-! ### What the end of a check reports -/

/-- The fields of a result record that the check's own record fixes when the check ends at `s` (R97, R98, R161, R178):
durations in 10 ms, the band of a trip kind from its parameters, and that of DERATE as RAMP's beginning fixed it. -/
abbrev State.reports (s : State) (r : ResultRecord) : Prop :=
  let e := s.engine
  let waited := e.headroomWait + if e.phase = .claiming then (s.time - e.claimingSince).toNat else 0
  r.restarts = e.restarts ∧ r.clipped = e.clipped ∧ r.carried = e.carried ∧ r.furtherFault = e.furtherFault ∧
  r.claimAmount = e.claimAmount ∧ r.headroomWait = min (waited / 100) 65535 ∧
  r.runDuration = min ((s.time - e.startStamp).toNat / 100) 65535 ∧ r.endStamp = s.time ∧
  r.peakCurrent = e.peakCurrent ∧
  (r.expected, r.bandLower, r.bandUpper, r.tUsed) =
    match e.check.map Check.params, e.derate.band with
    | some (.tripRamp p), _ => (0, p.windowLow, p.windowHigh, 0)
    | some (.tripTime p), _ => (0, p.timeLow, p.timeHigh, 0)
    | some (.derate _), some b => (b.expected, b.lower, b.upper, b.tUsed)
    | _, _ => (0, 0, 0, 0)

/-- What a set has done to the result's fields before the check ends with it (R97, R125). -/
def Engine.sawSet (e : Engine) (x : SampleSet) : Engine :=
  { e with peakCurrent := max e.peakCurrent x.current, clipped := e.clipped || x.clipped }

/-- The owner of slot `n` is told by a DONE_NOTE, which stands in the queue of `t` where the quota allows it (R27, R76,
R95). -/
abbrev State.noted (s t : State) (n : Fin 8) (head : SlotHead) (r : ResultRecord) : Prop :=
  s.station.connected = true → s.line.queue.countP Entry.isReply < 10 →
    ∃ x ∈ t.line.queue, s.line.nextEntry ≤ x.entryOrder ∧ x.frame =
      { cls := 3, urgency := 3, source := s.address, target := head.owner, kind := 3,
        payload := [byte n.val, byte (verdictOrder.idxOf r.verdict)] ++ bytes16 head.arrival.toNat }

/-! ### Sets one after another -/

/-- The check engine takes sample sets one after another, each at its arrival stamp. -/
def State.engineSets (s : State) (sets : List (Word × SampleSet)) : State :=
  sets.foldl (fun t x => (t.setTime x.1).engineSet x.2) s

/-- The guard unit takes sample sets one after another. -/
def State.guardSets (s : State) (sets : List SampleSet) : State := sets.foldl State.guardSet s

/-- The headroom unit takes sample sets one after another. -/
def State.headroomSets (s : State) (sets : List SampleSet) : State := sets.foldl State.headroomSet s

end Sys2Proof.Machine
end

