-- ==== Sys2Proof/Laws/Operations.lean ====
section
/-!
SUPPORT. What the shared operations do, said once for each: handing a frame on, the tests every request passes, refusing
and vacating, the own frame on the line, the place in the start queue, the sum of a contest, an abort by phase, and the
end of a check. Proofs about commands cite these instead of unfolding the operations.
-/

namespace Sys2Proof.Machine

/-! ### Handing on and answering requests -/

theorem State.handOn_of_handing {s : State} {h : Heard} {rest : List Heard} {cls kind : Nat}
    (hh : s.handing h rest cls kind) : s.handOn cls kind = some (h, s.taking rest) := by
  obtain ⟨h1, h2, h3, h4⟩ := hh
  simp [State.handOn, h1, h2, h3, h4, State.taking]

/-- A frame that leaves the silo changes the line unit alone. -/
@[simp] theorem State.taking_frame (s : State) (rest : List Heard) :
    (s.taking rest).pending = s.pending ∧ (s.taking rest).time = s.time ∧ (s.taking rest).startup = s.startup ∧
    (s.taking rest).headroom = s.headroom ∧ (s.taking rest).slotTable = s.slotTable ∧
    (s.taking rest).engine = s.engine ∧ (s.taking rest).port = s.port ∧ (s.taking rest).guardUnit = s.guardUnit ∧
    (s.taking rest).config = s.config ∧ (s.taking rest).station = s.station ∧ (s.taking rest).address = s.address ∧
    (s.taking rest).effectiveCurrent = s.effectiveCurrent ∧
    (s.taking rest).line = { s.line with silo := rest } := by
  simp [State.taking, State.setLine, State.config, State.station, State.address, State.effectiveCurrent]

/-- A request that passes the first tests is refused by none of them. -/
theorem State.requestFails_of_passes {s : State} {f : Frame} (h : s.requestPasses f) (rest : List Heard) :
    (s.taking rest).requestFails f = none := by
  obtain ⟨⟨h1, h2⟩, h3, h4⟩ := h
  simp [State.requestFails, State.taking, State.setLine, State.ownsRequests, State.config] at *
  simp [h1, h2, h3, h4]

theorem requestSlot_of_number {f : Frame} {n : Fin 8} (h : byteAt f.payload 0 = n.val) : requestSlot f = some n := by
  have := n.2
  simp [requestSlot, h]

theorem State.refuse_eq_refusing (s : State) (b : Block) (f : Frame) (r : Reason) (d : Nat) :
    s.refuse b f r d = s.refusing b f r.code d := by
  simp [State.refuse, State.refusing, State.refuseFrame, State.replyFrame, Config.allStations]

theorem State.vacate_eq_withVacated (s : State) (n : Fin 8) : s.vacate n = s.withVacated n := by
  simp [State.vacate, State.withVacated, SlotTable.put, dequeueSlot, State.setSlotTable]

/-! ### The part's own frame on the line -/

theorem Line.attempt_of_onLineWith {s : State} {start : Word} {e : Entry} (h : s.onLineWith start e) :
    s.line.attempt = some (start, e) := by
  obtain ⟨h1, h2⟩ := h
  simp [Line.attempt, Line.sendingEntry, h1, h2]

theorem Line.completed_eq_afterOwn (l : Line) (e : Entry) : l.completed e = l.afterOwn e := by
  simp [Line.completed, Line.afterOwn, Line.dropEntries, bne, BEq.beq]

theorem State.hearing_of_hears {s : State} {stamp start : Word} (h : s.hears stamp start) :
    s.hearing stamp = some start := by
  obtain ⟨h1, ⟨h2, h3⟩ | h2⟩ := h <;> simp [State.hearing, *]

/-! ### The start queue and the contest -/

/-- A slot enters the queue before the first slot it precedes, and the others keep their order (R74). -/
theorem enqueueSlot_place (precedes : Fin 8 → Fin 8 → Bool) (n : Fin 8) (queue : List (Fin 8)) :
    ∃ before after, queue = before ++ after ∧ enqueueSlot precedes n queue = before ++ n :: after ∧
      (∀ m ∈ before, precedes n m = false) ∧ ∀ m ∈ after.head?, precedes n m = true := by
  induction queue with
  | nil => exact ⟨[], [], by simp [enqueueSlot]⟩
  | cons m rest ih =>
    by_cases h : precedes n m = true
    · exact ⟨[], m :: rest, by simp [enqueueSlot, h]⟩
    · obtain ⟨before, after, h1, h2, h3, h4⟩ := ih
      exact ⟨m :: before, after, by simp [h1], by simp [enqueueSlot, h, h2], by simp_all, h4⟩

/-- The sum of a contest is what is held and what earlier asks ask above it (R48). -/
theorem contestSum_eq (own : Word) (peers : List Peer) :
    contestSum own peers = (peers.map Peer.held).sum +
      ((peers.filter (fun p => earlier p.order own)).map (fun p => match p.state with
        | .holding => 0
        | .asking a => a - p.held)).sum := by
  induction peers with
  | nil => rfl
  | cons p rest ih =>
    simp only [contestSum, List.map_cons, List.sum_cons] at *
    rw [ih]
    by_cases he : earlier p.order own = true <;> simp [he] <;> cases p.state <;> simp <;> omega

/-! ### Aborts and the end of a check -/

/-- An abort order with a cause other than LOAD_STAGE_SILENT, in a phase in which every order is taken: ABORTING, with the
engine and the setpoint path alone changed (R138). -/
theorem State.orderAbort_abortable (s : State) (cause : Cause) (h : s.engine.phase.abortable = true)
    (hc : cause ≠ .loadStageSilent) :
    s.orderAbort cause = { s with engine := (s.orderAbort cause).engine, port := s.port.writeDrop } ∧
    (s.orderAbort cause).engine.phase = .aborting ∧ (s.orderAbort cause).engine.cause = some cause ∧
    (s.orderAbort cause).engine.noResult = (cause == .stationSilenced) ∧
    (s.orderAbort cause).engine.check = s.engine.check ∧
    (s.orderAbort cause).engine.verdict = s.engine.verdict := by
  cases hp : s.engine.phase <;> simp [hp, Phase.abortable] at h <;>
    simp [State.orderAbort, hp, hc, State.beginAbort, State.enterAbort, State.writeDrop, State.setEngine,
      State.setPort, Engine.leaveClaiming, Engine.endLoading, Engine.stopTimers]

theorem SlotTable.slot_put_ne {t : SlotTable} {n m : Fin 8} (x : Slot) (h : n ≠ m) : (t.put n x).slot m = t.slot m := by
  simp only [SlotTable.put, SlotTable.slot]
  exact Vector.getElem_set_ne _ _ (fun e => h (Fin.ext e))

theorem SlotTable.slot_put_self (t : SlotTable) (n : Fin 8) (x : Slot) : (t.put n x).slot n = x := by
  simp [SlotTable.put, SlotTable.slot]

/-- Only a HELD slot at the queue's head starts (R75). -/
theorem State.startable_held {s : State} {n : Fin 8} {h : SlotHead} {w : Work} (hs : s.startable = some (n, h, w)) :
    s.mayStart = true ∧ s.slotTable.queue.head? = some n ∧ s.slotTable.slot n = .held h w := by
  unfold State.startable at hs
  split at hs
  · split at hs
    · cases hs
    · split at hs
      · simp at hs
        obtain ⟨rfl, rfl, rfl⟩ := hs
        simp_all
      · cases hs
  · cases hs

theorem State.startable_of_empty {s : State} (h : s.slotTable.queue = []) : s.startable = none := by
  unfold State.startable
  split <;> simp [h]

/-- The start of another slot leaves a DONE slot as it is. -/
theorem State.examineStart_done {s : State} {n : Fin 8} {h : SlotHead} {w : Work} {r : ResultRecord} {l : Option Nat}
    (hs : s.slotTable.slot n = .done h w r l) : s.examineStart.slotTable.slot n = .done h w r l := by
  unfold State.examineStart
  split
  · exact hs
  · rename_i m h' w' he
    have hm := (State.startable_held he).2.2
    have hne : m ≠ n := by
      rintro rfl
      rw [hs] at hm
      cases hm
    have := SlotTable.slot_put_ne (t := s.slotTable) (.active h' w') hne
    simp [SlotTable.slot, SlotTable.put] at *
    rw [this]
    exact hs

theorem State.finishCheck_done {s : State} (carry : Bool) {n : Fin 8} {h : SlotHead} {w : Work} {r : ResultRecord}
    {l : Option Nat} (hs : s.slotTable.slot n = .done h w r l) :
    (s.finishCheck carry).slotTable.slot n = .done h w r l := by
  unfold State.finishCheck State.reportIdle
  dsimp only
  split
  · exact State.examineStart_done (by simpa using hs)
  · simpa using hs

/-- The hand-back of a result makes the check's ACTIVE slot DONE and unlocked (R76). -/
theorem State.handBack_done {s : State} {c : Check} {h : SlotHead} {w : Work} (r : ResultRecord)
    (hc : s.engine.check = some c) (hs : s.slotTable.slot c.slot = .active h w) :
    (s.handBack r).slotTable.slot c.slot = .done h w r none := by
  simp only [State.handBack, hc, State.slotDone, hs, State.offerReplies_frame]
  exact SlotTable.slot_put_self _ _ _

/-- RELEASE makes the check's slot DONE with the record of the engine as it stands (R137). -/
theorem State.release_done {s : State} {c : Check} {h : SlotHead} {w : Work} (hc : s.engine.check = some c)
    (hs : s.slotTable.slot c.slot = .active h w) :
    s.release.slotTable.slot c.slot = .done h w ((s.engine.leaveClaiming s.time).resultRecord s.time) none := by
  unfold State.release
  dsimp only
  apply State.finishCheck_done
  split
  · exact State.handBack_done _ (by simp [hc]) (by simpa using hs)
  · exact State.handBack_done _ (by simp [hc]) (by simpa using hs)

/-- The end of an abort with a result makes the check's slot DONE (R140). -/
theorem State.finishAbort_done {s : State} (mismatched : Bool) {c : Check} {h : SlotHead} {w : Work}
    (hn : s.engine.noResult = false) (hc : s.engine.check = some c) (hs : s.slotTable.slot c.slot = .active h w) :
    (s.finishAbort mismatched).slotTable.slot c.slot = .done h w (s.engine.resultRecord s.time) none := by
  have h1 : (if s.engine.abortOpens mismatched = true then s.requestOpen else s).engine = s.engine := by
    split <;> simp
  have h2 : (if s.engine.abortOpens mismatched = true then s.requestOpen else s).time = s.time := by split <;> simp
  have h3 : (if s.engine.abortOpens mismatched = true then s.requestOpen else s).slotTable = s.slotTable := by
    split <;> simp
  unfold State.finishAbort
  dsimp only
  apply State.finishCheck_done
  simp only [State.withdrawNeed_frame, h1, h2, hn]
  exact State.handBack_done _ (by simp [h1, hc]) (by simpa [h3] using hs)

/-- With no slot queued the end of a check leaves the engine idle and the contactor as it is requested (R75, R137). -/
theorem State.finishCheck_idle {s : State} (carry : Bool) (hq : s.slotTable.queue = []) :
    (s.finishCheck carry).engine.phase = .idle ∧ (s.finishCheck carry).engine.check = none ∧
    (s.finishCheck carry).port.standing = s.port.standing := by
  unfold State.finishCheck State.reportIdle
  dsimp only
  rw [State.startable_of_empty (by simpa using hq)]
  simp only [State.dropCarry]
  simp
  split <;> simp [Engine.reset]

theorem State.release_idle {s : State} (hq : s.slotTable.queue = []) :
    s.release.engine.phase = .idle ∧ s.release.engine.check = none ∧
    s.release.port.standing = s.port.standing := by
  unfold State.release
  dsimp only
  split
  · obtain ⟨a, b, c⟩ := State.finishCheck_idle
      (s := (s.setEngine (s.engine.leaveClaiming s.time)).handBack _) _ (by simpa using hq)
    exact ⟨a, b, by simpa using c⟩
  · obtain ⟨a, b, c⟩ := State.finishCheck_idle
      (s := ((s.setEngine (s.engine.leaveClaiming s.time)).withdrawNeed).handBack _) _ (by simpa using hq)
    exact ⟨a, b, by simpa using c⟩

/-! ### A latched fault -/

/-- While a fault is latched no check starts (R75). -/
theorem State.startable_of_latched {s : State} (h : s.guardUnit.latch.isSome = true) : s.startable = none := by
  have : s.guardUnit.latch.isNone = false := by cases hl : s.guardUnit.latch <;> simp_all
  simp [State.startable, State.mayStart, this]

theorem State.finishCheck_latched {s : State} (carry : Bool) (h : s.guardUnit.latch.isSome = true) :
    (s.finishCheck carry).port.standing = s.port.standing ∧ (s.finishCheck carry).engine.phase = .idle := by
  unfold State.finishCheck State.reportIdle
  dsimp only
  rw [State.startable_of_latched (by simpa using h)]
  simp only [State.dropCarry]
  simp
  split <;> simp [Engine.reset]

/-- The end of an abort while a fault is latched leaves the contactor requested open, if it was (R139). -/
theorem State.finishAbort_latched {s : State} (mismatched : Bool) (h : s.guardUnit.latch.isSome = true)
    (ho : s.port.standing = .opened) :
    (s.finishAbort mismatched).port.standing = .opened ∧ (s.finishAbort mismatched).engine.phase = .idle := by
  have h1 : (if s.engine.abortOpens mismatched = true then s.requestOpen else s).port.standing = .opened := by
    split <;> simp [State.requestOpen, State.openContactor, ho]
  have h2 : (if s.engine.abortOpens mismatched = true then s.requestOpen else s).guardUnit.latch =
      s.guardUnit.latch := by split <;> simp
  unfold State.finishAbort
  generalize (if s.engine.abortOpens mismatched = true then s.requestOpen else s) = u at h1 h2
  dsimp only
  split
  · obtain ⟨a, b⟩ := State.finishCheck_latched false (s := u.withdrawNeed.vacateActive) (by simp [h2, h])
    exact ⟨by rw [a]; simp [h1], b⟩
  · obtain ⟨a, b⟩ := State.finishCheck_latched false
      (s := u.withdrawNeed.handBack (u.engine.resultRecord u.time)) (by simp [h2, h])
    exact ⟨by rw [a]; simp [h1], b⟩

/-- An abort order while a fault is latched leaves the contactor requested open, if it was (R138, R139). -/
theorem State.orderAbort_latched {s : State} (cause : Cause) (h : s.guardUnit.latch.isSome = true)
    (ho : s.port.standing = .opened) : (s.orderAbort cause).port.standing = .opened := by
  have begun (noResult : Bool) : (s.beginAbort (some cause) noResult).port.standing = .opened := by
    simp only [State.beginAbort]
    split
    · exact (State.finishAbort_latched _ (by simpa using h) (by simpa using ho)).1
    · simpa using ho
  unfold State.orderAbort
  split
  case h_12 =>
    unfold State.secondCause
    repeat' split
    all_goals first
      | exact (State.finishAbort_latched _ (by simpa using h) (by simpa using ho)).1
      | simpa using ho
  all_goals (repeat' split)
  all_goals first
    | exact begun _
    | simpa using ho

/-- A fault reported to the guard unit takes the latch or is counted as a further fault (R183). -/
theorem State.latchFault_latchedFrom (s : State) (cause : Cause) : (s.latchFault cause).latchedFrom s cause := by
  unfold State.latchFault
  cases h : s.guardUnit.latch with
  | none =>
    refine ⟨by simp [h], by simp [h], fun _ => ⟨by simp [State.setHold, State.openContactor], ?_⟩⟩
    exact State.orderAbort_latched cause (by simp) (by simp [State.setHold, State.openContactor])
  | some _ => exact ⟨by simp [h], by simp [h, countUp, Config.counterTop], by simp [h]⟩

/-! ### Codes in the order of their tables (R91, R94, R105, R106) -/

theorem Phase.code_eq (p : Phase) : p.code = phaseOrder.idxOf p := by cases p <;> decide
theorem Verdict.code_eq (v : Verdict) : v.code = verdictOrder.idxOf v := by cases v <;> decide
theorem Cause.code_eq (c : Cause) : c.code = causeOrder.idxOf c := by cases c <;> decide
theorem CheckKind.code_eq (k : CheckKind) : k.code = kindOrder.idxOf k + 1 := by cases k <;> decide
theorem clampBits_eq (w : Work) : clampBits (some w) = clampByte w := by
  cases w with | mk _ c d _ => cases c <;> cases d <;> rfl

/-! ### Shed events, dwells and limits -/

/-- What a shed event does to the contest: an ask completed before it is denied (R47, R60). -/
theorem Headroom.shedEvent_eq (u : Headroom) (order : Word) :
    u.shedEvent order =
      { u with denial := u.denial || (u.claim == .contest && u.own.any (fun own => earlier own order)) } := by
  obtain ⟨_, _, _, _, claim, _, _, _, _, own, _, _, _, _, _, _, _, _, _, _, _, _⟩ := u
  cases claim <;> cases own <;> simp [Headroom.shedEvent]
  split <;> simp_all

/-- The part's own SHED: the engine is told, and the contest unless the SHED was late for it (R60, log 35). -/
theorem State.ownShed_eq (s : State) (e : Entry) (order : Word) :
    s.ownShed e order =
      State.engineShed (s.setHeadroom
        (if s.headroom.lateShed = some e.entryOrder then s.headroom else s.headroom.shedEvent order)) := by
  unfold State.ownShed State.shedEvent
  by_cases h : s.headroom.lateShed = some e.entryOrder <;> simp [h, State.setHeadroom]

/-- What a dwell makes of a set: nothing before its start, else one set more, and its end at the last (R130). -/
theorem State.countDwell_cases (s : State) (length : Nat) (atEnd : State → State) :
    (s.inDwell = false ∧ s.countDwell length atEnd = s) ∨
    (s.inDwell = true ∧ s.engine.dwellCount + 1 < length ∧ s.countDwell length atEnd = s.dwellCounted) ∨
    (s.inDwell = true ∧ length ≤ s.engine.dwellCount + 1 ∧ s.countDwell length atEnd = atEnd s.dwellCounted) := by
  unfold State.countDwell
  cases s.inDwell
  · simp
  · by_cases h : length ≤ s.engine.dwellCount + 1
    · simp [h]
    · simp [h, Nat.lt_of_not_le h]

/-- A set counts towards a dwell when its stamp is later than the dwell's start (R130). -/
theorem State.inDwell_iff (s : State) :
    s.inDwell = true ↔ ∃ start, s.engine.dwellStart = some start ∧ earlier start s.time = true := by
  unfold State.inDwell
  cases s.engine.dwellStart <;> simp

/-- A limit is passed when station time is later than its instant (R2, log 34). -/
theorem overdue_iff (now : Word) (t : Timer) : overdue now t = true ↔ ∃ i, t = some i ∧ earlier i now = true := by
  cases t <;> simp [overdue]

end Sys2Proof.Machine
end

