-- ==== Sys2Proof/Laws/CheckEnd.lean ====
section
/-!
SUPPORT. What the end of a check leaves behind: REPLY frames stay queued through every operation of the headroom unit
and of the engine's idle report, the DONE_NOTE of R76 is offered, and the record handed back reports the check's own
record (R97). Beside them, where an entry is placed (R24) and which curve point a validation refuses (R103).
-/

namespace Sys2Proof.Machine

/-! ### The transmit queue keeps its REPLY frames -/

/-- Where R24 puts an entry: after every entry of lower or equal header value, before every entry of higher. -/
theorem insertEntry_eq (e : Entry) (q : List Entry) :
    insertEntry e q = q.takeWhile (fun x => decide (x.frame.header ≤ e.frame.header)) ++
      e :: q.dropWhile (fun x => decide (x.frame.header ≤ e.frame.header)) := by
  induction q with
  | nil => rfl
  | cons x rest ih =>
    unfold insertEntry
    by_cases h : e.frame.header < x.frame.header
    · simp [h, Nat.not_le.mpr h]
    · simp [h, Nat.not_lt.mp h, ih]

theorem mem_insertEntry {x e : Entry} {q : List Entry} : x ∈ insertEntry e q ↔ x = e ∨ x ∈ q := by
  induction q with
  | nil => simp [insertEntry]
  | cons y rest ih =>
    unfold insertEntry
    split
    · simp
    · simp only [List.mem_cons, ih]; tauto

/-- Every REPLY of a line unit stays queued, and entry orders go on from where they stood. -/
structure Line.repliesStay (l m : Line) : Prop where
  orders : l.nextEntry ≤ m.nextEntry
  stay : ∀ x ∈ l.queue, x.isReply = true → x ∈ m.queue

theorem Line.repliesStay.refl (l : Line) : l.repliesStay l := ⟨Nat.le_refl _, fun _ h _ => h⟩

theorem Line.repliesStay.trans {l m k : Line} (a : l.repliesStay m) (b : m.repliesStay k) : l.repliesStay k :=
  ⟨Nat.le_trans a.orders b.orders, fun x h r => b.stay x (a.stay x h r) r⟩

theorem Line.accept_replies (b : Block) (l : Line) (f : Frame) : l.repliesStay (l.accept b f) :=
  ⟨Nat.le_succ _, fun _ h _ => mem_insertEntry.mpr (.inr h)⟩

theorem Line.dropEntries_replies {p : Entry → Bool} (l : Line) (hp : ∀ x : Entry, x.isReply = true → p x = false) :
    l.repliesStay (l.dropEntries p) :=
  ⟨Nat.le_refl _, fun x h r => by simp [Line.dropEntries, h, hp x r]⟩

theorem Entry.isClaim_of_isReply {x : Entry} (h : x.isReply = true) : x.isClaim = false := by
  simp only [Entry.isReply, Entry.isClaim, beq_iff_eq] at h ⊢
  rw [h]; decide

theorem Line.offerClaim_replies (f : Frame) (l : Line) : l.repliesStay (l.offerClaim f) := by
  unfold Line.offerClaim
  split
  · exact l.accept_replies _ _
  · split
    · exact ⟨Nat.le_refl _, fun _ h _ => h⟩
    · exact (l.dropEntries_replies fun _ h => Entry.isClaim_of_isReply h).trans (Line.accept_replies _ _ _)

theorem Line.withdrawClaim_replies (l : Line) : l.repliesStay l.withdrawClaim := by
  unfold Line.withdrawClaim
  split
  · exact ⟨Nat.le_refl _, fun _ h _ => h⟩
  · exact l.dropEntries_replies fun _ h => by simp [Entry.isClaim_of_isReply h]

theorem Line.foldl_accept_replies (b : Block) (group : List Frame) (l : Line) :
    l.repliesStay (group.foldl (Line.accept b) l) := by
  induction group generalizing l with
  | nil => exact .refl _
  | cons f rest ih => exact (l.accept_replies b f).trans (ih _)

theorem Line.offerReplies_replies (b : Block) (group : List Frame) (l : Line) :
    l.repliesStay (l.offerReplies b group) := by
  unfold Line.offerReplies
  split
  · exact l.foldl_accept_replies b group
  · exact ⟨Nat.le_refl _, fun _ h _ => h⟩

theorem State.offerClaim_replies {s : State} {l : Line} (hl : s.line = l) (k : ClaimKind) (h a : Nat) :
    l.repliesStay (s.offerClaim k h a).line := by
  subst hl
  unfold State.offerClaim
  split
  · exact s.line.offerClaim_replies _
  · exact .refl _

theorem State.offerReplies_replies {s : State} {l : Line} (hl : s.line = l) (b : Block) (g : List Frame) :
    l.repliesStay (s.offerReplies b g).line := by
  subst hl
  unfold State.offerReplies
  split
  · exact s.line.offerReplies_replies b g
  · exact .refl _

theorem State.tryLower_replies {s : State} {l : Line} (hl : s.line = l) : l.repliesStay s.tryLower.line := by
  subst hl
  unfold State.tryLower
  repeat' split
  all_goals first
    | exact .refl _
    | exact State.offerClaim_replies rfl _ _ _

theorem State.portReport_replies {s : State} {l : Line} (hl : s.line = l) : l.repliesStay s.portReport.line := by
  subst hl
  unfold State.portReport
  split
  · unfold State.tryBar; split <;> exact .refl _
  · exact State.tryLower_replies rfl

theorem State.lowerToZero_replies {s : State} {l : Line} (hl : s.line = l) : l.repliesStay s.lowerToZero.line := by
  unfold State.lowerToZero
  exact State.tryLower_replies hl

theorem State.withdrawNeed_replies {s : State} {l : Line} (hl : s.line = l) :
    l.repliesStay s.withdrawNeed.line := by
  subst hl
  unfold State.withdrawNeed
  split
  · exact .refl _
  · dsimp only
    split
    · split
      · exact s.line.withdrawClaim_replies
      · exact s.line.withdrawClaim_replies.trans (State.lowerToZero_replies rfl)
    · split
      · apply State.offerClaim_replies; rfl
      · refine .trans ?_ (State.lowerToZero_replies rfl)
        apply State.offerClaim_replies; rfl
    · split
      · exact .refl _
      · exact State.lowerToZero_replies rfl
    · exact State.lowerToZero_replies rfl
    all_goals exact .refl _

theorem State.dropCarry_replies {s : State} {l : Line} (hl : s.line = l) : l.repliesStay s.dropCarry.line := by
  subst hl
  unfold State.dropCarry
  split
  · exact State.withdrawNeed_replies rfl
  · exact .refl _

theorem State.enterQuiet_line (s : State) : s.enterQuiet.line = s.line := by
  unfold State.enterQuiet State.quietContactor State.closeWasRefused State.enterAbort
  (repeat' split) <;> rfl

theorem State.handOver_replies {s : State} {l : Line} (hl : s.line = l) (n : Fin 8) (h : SlotHead) (w : Work) :
    l.repliesStay (s.handOver n h w).line := by
  subst hl
  unfold State.handOver
  dsimp only
  rw [State.enterQuiet_line]
  show s.line.repliesStay (s.settleCarry w).line
  unfold State.settleCarry
  split
  · split
    · exact .refl _
    · exact State.withdrawNeed_replies rfl
  · exact .refl _

theorem State.examineStart_replies {s : State} {l : Line} (hl : s.line = l) :
    l.repliesStay s.examineStart.line := by
  subst hl
  unfold State.examineStart
  split
  · exact .refl _
  · apply State.handOver_replies; rfl

theorem State.completeReset_replies {s : State} {l : Line} (hl : s.line = l) :
    l.repliesStay s.completeReset.line := by
  subst hl
  unfold State.completeReset
  split
  · exact .refl _
  · dsimp only
    split
    · exact .refl _
    · apply State.offerReplies_replies; rfl

/-- A REPLY that is queued when the engine reports idle is queued after it, the start of the next slot included. -/
theorem State.reportIdle_replies {s : State} {l : Line} (hl : s.line = l) : l.repliesStay s.reportIdle.line := by
  have h := State.completeReset_replies hl
  unfold State.reportIdle
  dsimp only
  split
  · exact h.trans (State.examineStart_replies rfl)
  · exact h.trans (State.dropCarry_replies rfl)

theorem State.finishCheck_replies {s : State} {l : Line} (hl : s.line = l) (carry : Bool) :
    l.repliesStay (s.finishCheck carry).line := State.reportIdle_replies hl

/-! ### The REPLY quota -/

theorem countP_insertEntry (p : Entry → Bool) (e : Entry) (q : List Entry) :
    (insertEntry e q).countP p = q.countP p + if p e = true then 1 else 0 := by
  induction q with
  | nil => simp [insertEntry, List.countP_cons]
  | cons x rest ih =>
    unfold insertEntry
    split
    · simp [List.countP_cons]
    · simp only [List.countP_cons, ih]; omega

theorem Line.accept_claim_count (b : Block) (l : Line) (f : Frame) (h : f.cls = 1) :
    (l.accept b f).queue.countP Entry.isReply = l.queue.countP Entry.isReply := by
  simp [Line.accept, countP_insertEntry, Entry.isReply, h]

theorem Line.dropEntries_count {p : Entry → Bool} (l : Line) (hp : ∀ x : Entry, x.isReply = true → p x = false) :
    (l.dropEntries p).queue.countP Entry.isReply = l.queue.countP Entry.isReply := by
  simp only [Line.dropEntries, List.countP_filter]
  congr 1
  funext x
  cases hx : x.isReply
  · rfl
  · simp [hp x hx]

theorem State.offerClaim_count (s : State) (k : ClaimKind) (h a : Nat) :
    (s.offerClaim k h a).line.queue.countP Entry.isReply = s.line.queue.countP Entry.isReply := by
  unfold State.offerClaim
  split
  · show (s.line.offerClaim _).queue.countP _ = _
    unfold Line.offerClaim
    split
    · exact Line.accept_claim_count _ _ _ rfl
    · split
      · rfl
      · rw [Line.accept_claim_count _ _ _ rfl, Line.dropEntries_count _ fun _ h => Entry.isClaim_of_isReply h]
  · rfl

theorem State.tryLower_count (s : State) :
    s.tryLower.line.queue.countP Entry.isReply = s.line.queue.countP Entry.isReply := by
  unfold State.tryLower
  (repeat' split) <;> first | rfl | exact State.offerClaim_count _ _ _ _

theorem Line.withdrawClaim_count (l : Line) :
    l.withdrawClaim.queue.countP Entry.isReply = l.queue.countP Entry.isReply := by
  unfold Line.withdrawClaim
  split
  · rfl
  · exact l.dropEntries_count fun _ h => by simp [Entry.isClaim_of_isReply h]

/-- A need withdrawn leaves the number of REPLY frames in the queue, which the quota counts (R27). -/
theorem State.withdrawNeed_count (s : State) :
    s.withdrawNeed.line.queue.countP Entry.isReply = s.line.queue.countP Entry.isReply := by
  unfold State.withdrawNeed State.lowerToZero
  split
  · rfl
  · dsimp only
    (repeat' split) <;>
      simp only [State.tryLower_count, State.setHeadroom_line, State.setLine_line, State.offerClaim_count,
        Line.withdrawClaim_count]


/-! ### DONE_NOTE and result record at the end of a check -/

theorem State.noted_of_line {s u t : State} {n : Fin 8} {h : SlotHead} {r : ResultRecord} (hn : s.noted u n h r)
    (hl : u.line.repliesStay t.line) : s.noted t n h r := by
  intro a b
  obtain ⟨x, hx, ho, hf⟩ := hn a b
  exact ⟨x, hl.stay x hx (by simp [Entry.isReply, hf]), ho, hf⟩

theorem State.noted_of_start {s u t : State} {n : Fin 8} {h : SlotHead} {r : ResultRecord} (hn : u.noted t n h r)
    (hs : u.startup = s.startup) (hl : s.line.repliesStay u.line)
    (hc : u.line.queue.countP Entry.isReply = s.line.queue.countP Entry.isReply) : s.noted t n h r := by
  intro a b
  have hst : u.station = s.station := by simp [State.station, hs]
  have had : u.address = s.address := by simp [State.address, hs]
  obtain ⟨x, hx, ho, hf⟩ := hn (by rw [hst]; exact a) (by omega)
  exact ⟨x, hx, Nat.le_trans hl.orders ho, by rw [hf, had]⟩

/-- The end of a check offers its owner a DONE_NOTE (R76, R95). -/
theorem State.handBack_noted {s : State} {c : Check} {h : SlotHead} {w : Work} (r : ResultRecord)
    (hc : s.engine.check = some c) (hs : s.slotTable.slot c.slot = .active h w) :
    s.noted (s.handBack r) c.slot h r := by
  intro a b
  have hst : (s.putSlot c.slot (.done h w r none)).station = s.station := rfl
  simp only [State.handBack, hc, State.slotDone, hs, State.offerReplies, hst, a, if_true]
  have had : Line.admits (s.putSlot c.slot (.done h w r none)).line 1 = true := by
    exact decide_eq_true (Nat.succ_le_of_lt b)
  simp only [Line.offerReplies, List.length_singleton, had, if_true, List.foldl_cons, List.foldl_nil,
    State.setLine_line]
  refine ⟨_, mem_insertEntry.mpr (.inl rfl), Nat.le_refl _, ?_⟩
  simp [State.doneNote, State.replyFrame, Verdict.code_eq, State.address]

theorem State.release_noted {s : State} {c : Check} {h : SlotHead} {w : Work} (hc : s.engine.check = some c)
    (hs : s.slotTable.slot c.slot = .active h w) :
    s.noted s.release c.slot h ((s.engine.leaveClaiming s.time).resultRecord s.time) := by
  unfold State.release
  dsimp only
  refine State.noted_of_line ?_ (State.finishCheck_replies rfl _)
  split
  · refine State.noted_of_start (State.handBack_noted _ (by simp [hc]) (by simpa using hs)) rfl (.refl _) rfl
  · refine State.noted_of_start (State.handBack_noted (w := w) _ ?_ ?_) ?_ ?_ ?_
    · simp [hc]
    · simpa using hs
    · simp
    · exact State.withdrawNeed_replies rfl
    · rw [State.withdrawNeed_count]; rfl

theorem State.finishAbort_noted {s : State} (mismatched : Bool) {c : Check} {h : SlotHead} {w : Work}
    (hc : s.engine.check = some c) (hs : s.slotTable.slot c.slot = .active h w) (hn : s.engine.noResult = false) :
    s.noted (s.finishAbort mismatched) c.slot h (s.engine.resultRecord s.time) := by
  unfold State.finishAbort
  dsimp only
  have hq : (if s.engine.abortOpens mismatched = true then s.requestOpen else s).line = s.line ∧
     (if s.engine.abortOpens mismatched = true then s.requestOpen else s).engine = s.engine ∧
     (if s.engine.abortOpens mismatched = true then s.requestOpen else s).slotTable = s.slotTable ∧
     (if s.engine.abortOpens mismatched = true then s.requestOpen else s).time = s.time ∧
     (if s.engine.abortOpens mismatched = true then s.requestOpen else s).startup = s.startup := by
    split <;> simp
  generalize (if s.engine.abortOpens mismatched = true then s.requestOpen else s) = u at hq
  obtain ⟨q1, q2, q3, q4, q5⟩ := hq
  rw [if_neg (by simp [q2, hn])]
  refine State.noted_of_line ?_ (State.finishCheck_replies rfl _)
  rw [q2, q4]
  refine State.noted_of_start (u := u.withdrawNeed) (State.handBack_noted (w := w) _ ?_ ?_) ?_ ?_ ?_
  · simp [q2, hc]
  · simpa [q3] using hs
  · simp [q5]
  · exact State.withdrawNeed_replies q1
  · rw [State.withdrawNeed_count, q1]

/-- The record that is handed back reports what the check's record held (R97, R98, R161, R178). -/
theorem State.reports_resultRecord (s : State) : s.reports ((s.engine.leaveClaiming s.time).resultRecord s.time) := by
  have hb : (s.engine.leaveClaiming s.time).bandFields = s.engine.bandFields := by
    unfold Engine.leaveClaiming; split <;> rfl
  have hw : (s.engine.leaveClaiming s.time).headroomWait =
      s.engine.headroomWait + if s.engine.phase = .claiming then (s.time - s.engine.claimingSince).toNat else 0 := by
    unfold Engine.leaveClaiming; by_cases h : s.engine.phase = .claiming <;> simp [h, elapsed]
  unfold State.reports Engine.resultRecord
  dsimp only
  rw [hb, hw]
  refine ⟨?_, ?_, ?_, ?_, ?_, rfl, ?_, rfl, ?_, ?_⟩
  all_goals try (unfold Engine.leaveClaiming; split <;> rfl)
  unfold Engine.bandFields
  rcases s.engine.check with _ | ⟨_, _, p, _⟩
  · rcases s.engine.derate.band <;> rfl
  · rcases p with p | p | p <;> rcases hb : s.engine.derate.band <;> simp

/-! ### Which curve point is refused (R103) -/

theorem curveFails_cons (index : Nat) (before : Option Int) (p : Point) (rest : List Point) :
    curveFails index before (p :: rest) =
      if (∃ t ∈ before, p.temperature ≤ t) ∨ 60000 < p.power then some index
      else curveFails (index + 1) (some p.temperature) rest := by
  cases before <;> simp [curveFails]

/-- Point `j` of a curve is refused: its power, or its temperature against the point before it (R103). -/
def curveBad (before : Option Int) (curve : List Point) (j : Nat) : Prop :=
  ∃ q ∈ curve[j]?, 60000 < q.power ∨ (j = 0 ∧ ∃ t ∈ before, q.temperature ≤ t) ∨
    0 < j ∧ ∃ p ∈ curve[j - 1]?, q.temperature ≤ p.temperature

theorem curveBad_zero (before : Option Int) (p : Point) (rest : List Point) :
    curveBad before (p :: rest) 0 ↔ (∃ t ∈ before, p.temperature ≤ t) ∨ 60000 < p.power := by
  simp only [curveBad, List.getElem?_cons_zero, Option.mem_def, Option.some.injEq, exists_eq_left']
  simp [or_comm]

theorem curveBad_succ (before : Option Int) (p : Point) (rest : List Point) (j : Nat) :
    curveBad before (p :: rest) (j + 1) ↔ curveBad (some p.temperature) rest j := by
  cases j with
  | zero => simp [curveBad]
  | succ j => simp [curveBad]

theorem curveFails_some (curve : List Point) (index : Nat) (before : Option Int) (j : Nat)
    (h : curveBad before curve j) (hn : ∀ i, i < j → ¬ curveBad before curve i) :
    curveFails index before curve = some (index + j) := by
  induction curve generalizing index before j with
  | nil => obtain ⟨q, hq, _⟩ := h; simp at hq
  | cons p rest ih =>
    rw [curveFails_cons]
    cases j with
    | zero => rw [if_pos ((curveBad_zero _ _ _).mp h)]; rfl
    | succ j =>
      rw [if_neg (fun hb => hn 0 (by omega) ((curveBad_zero _ _ _).mpr hb)),
        ih (index + 1) (some p.temperature) j ((curveBad_succ _ _ _ _).mp h)
          (fun i hi hb => hn (i + 1) (by omega) ((curveBad_succ _ _ _ _).mpr hb))]
      congr 1; omega

theorem curveFails_none (curve : List Point) (index : Nat) (before : Option Int)
    (hn : ∀ j, ¬ curveBad before curve j) : curveFails index before curve = none := by
  induction curve generalizing index before with
  | nil => rfl
  | cons p rest ih =>
    rw [curveFails_cons, if_neg (fun hb => hn 0 ((curveBad_zero _ _ _).mpr hb))]
    exact ih _ _ (fun j hb => hn (j + 1) ((curveBad_succ _ _ _ _).mpr hb))

end Sys2Proof.Machine
end

