-- ==== Sys2Proof/Certificates/Slice0/Obligations.lean ====
section
/-!
DEFINITION. The statements for the provers, each from the rules of spec/ that its docstring names. A statement whose
conclusion is `exec c s = .next t` says where the command completes; with `t` written as an update of `s` it says its
frame as well: whatever the update does not name is as before.
-/

open Sys2Proof Sys2Proof.Machine

/-! ### The block -/

/-- A step takes the command at the front of the queue and executes it with the queue's rest. -/
def Obligations.StepTakesFrontCommand : Prop :=
  ∀ (c : Instr) (rest : List Instr) (s : State),
    step { s with pending := c :: rest } = exec c { s with pending := rest }

/-- No command stops the block, and none touches the commands that wait (log 1, log 2). -/
def Obligations.EveryCommandCompletes : Prop :=
  ∀ (c : Instr) (s : State), ∃ t, exec c s = .next t ∧ t.pending = s.pending

/-- What R3, R34, R36, R40, R42, R43, R57, R61, R62, R74, R108, R111, R113, R120, R121, R124, R179, R181 and R183 give for
power reset holds of the reset state, which is sound in every sense of Safety. -/
def Obligations.ResetValues : Prop :=
  let s := State.reset
  (s.time = 0 ∧ s.station = .loading ∧ s.startup.fault = none ∧ s.startup.config = none ∧ s.startup.clampCount = 0 ∧
    s.startup.joinTimer = none ∧ s.startup.address = none) ∧
  (s.line.queue = [] ∧ s.line.waiting = none ∧ s.line.silo = [] ∧ s.line.order = 0 ∧ s.line.collisions = 0 ∧
    s.line.receiveErrors = 0 ∧ s.line.overruns = 0 ∧ s.line.foreign = 0 ∧ s.line.replyDrops = 0) ∧
  (s.headroom.peers = [] ∧ s.headroom.aged = 0 ∧ s.headroom.suspect = false ∧ s.headroom.reListen = none ∧
    s.headroom.claim = .barred ∧ s.headroom.held = 0 ∧ s.headroom.need = none ∧ s.headroom.own = none ∧
    s.headroom.target = none ∧ s.headroom.denial = false ∧ s.headroom.yields = 0 ∧
    s.headroom.contestTimer = none ∧ s.headroom.backoffTimer = none ∧ s.headroom.refreshTimer = none ∧
    s.headroom.staleTimer = none ∧ s.headroom.sagRun = 0 ∧ s.headroom.sagEpisode = false) ∧
  ((∀ n, s.slotTable.slot n = .vacant) ∧ s.slotTable.arrival = 0 ∧ s.slotTable.queue = []) ∧
  (s.engine.phase = .idle ∧ s.engine.check = none ∧ s.engine.restarts = 0 ∧ s.engine.verdict = none ∧
    s.engine.cause = none ∧ s.engine.mark = none ∧ s.engine.carry = false ∧ s.engine.startWait = none ∧
    s.engine.rest = none ∧ s.engine.shedHold = none ∧ s.engine.offTime = none ∧ s.engine.recoverWait = none) ∧
  (s.port.last = none ∧ s.port.watchdog = none ∧ s.port.samplesPresent = true ∧ s.port.pending = none ∧
    s.port.onPort = none ∧ s.port.ackTimer = none ∧ s.port.applied = 0 ∧ s.port.ceiling = 0 ∧
    s.port.standing = .opened ∧ s.port.hold = false ∧ s.port.confirmedOpen = false) ∧
  (s.guardUnit.effective = none ∧ s.guardUnit.runVoltage = 0 ∧ s.guardUnit.runCurrent = 0 ∧
    s.guardUnit.runTemperature = 0 ∧ s.guardUnit.latch = none ∧ s.guardUnit.further = 0) ∧
  (s.contactorForm ∧ s.stationForm ∧ s.port.pathForm ∧ s.unloadedForm ∧ s.queueForm ∧ s.viewForm ∧ s.claimForm ∧ s.slotForm ∧
    s.limitForm ∧ s.counterForm)

/-! ### Start-up (01) -/

/-- POWER_RESET returns every block to its power reset values and reads the straps: a bay address begins the
configuration read, any other enters OFF_LINE (R1, R3, R4, R5), and an emergency-stop input asserted at that moment
latches ESTOP (R122, R182). The waiting commands and the input's level are kept (log 2, log 4). -/
def Obligations.PowerResetBeginsAnew : Prop :=
  ∀ (straps : Address) (s : State),
    let begun : StartUp :=
      if straps.toNat < 48 then
        { StartUp.reset with
          address := some straps, configRead := some { device := 86, offset := 0, count := 40, due := 500 } }
      else { StartUp.reset with address := some straps, station := .offLine, fault := some .strapInvalid }
    let clear : State := { State.reset with pending := s.pending, startup := begun }
    (s.port.estop = false → exec (.powerReset straps) s = .next clear) ∧
    (s.port.estop = true →
      exec (.powerReset straps) s = .next { clear with
        port := { clear.port with estop := true, hold := true }
        guardUnit := { clear.guardUnit with latch := some .estop } })

/-- Station time advances by 1 at a tick, wrapping, is 0 after power reset, and every other command leaves it (R1). -/
def Obligations.StationTimeMovesByTicksAlone : Prop :=
  (∀ s : State, exec .stationTimeTick s = .next { s with time := s.time + 1 }) ∧
  (∀ (c : Instr) (s t : State), exec c s = .next t →
    t.time = match c with
      | .powerReset _ => 0
      | .stationTimeTick => s.time + 1
      | _ => s.time)

/-- The configuration read ends in SELF_LOOP with the clamped record in use, the effective limits set and the test frame
sent, or in DEGRADED with the fault of its failure; a record that is complete later than 50 ms after the start of its read
is a failure as well (R5, R6, R8, R9, R12, R179). That a record complete at that very instant is in time is the model's
reading (log 34). -/
def Obligations.ConfigReadEnds : Prop :=
  ∀ s : State, s.station = .loading → ∀ read ∈ s.startup.configRead,
    let degraded (fault : StationFault) : State := { s with
      startup := { s.startup with station := .degraded, fault := some fault, config := none, configRead := none }
      line := { s.line with judgement := .busy } }
    (∀ record : List Byte, record.length = 40 →
      exec (.configReadComplete record) s = .next
        (if earlier read.due s.time = true then degraded .configUnreadable
        else if (checkSequence (bytesBits (record.take 38))).toNat = field16 record 38 then
          { s with
            startup := { s.startup with
              station := .selfLoop, config := some (clampRecord record).1, clampCount := (clampRecord record).2
              configRead := none, loopTimer := some (later s.time 100) }
            line := { s.line with judgement := .looped, driving := (testFrame s.address).coded }
            guardUnit := { s.guardUnit with effective := some (clampRecord record).1.limits } }
        else degraded .configBad)) ∧
    exec .configReadNotAcknowledged s = .next (degraded .configUnreadable) ∧
    (reached s.time read.due = true → exec .configReadTimeout s = .next (degraded .configUnreadable))

/-- Every field of an accepted record is brought into its range in the order of R7's table, the pairs are adjusted, and
the clamp count counts each change once (R7, R100). -/
def Obligations.RecordIsClamped : Prop :=
  ∀ b : List Byte,
    let c := (clampRecord b).1
    let low := max 48 (min (byteAt b 13) 62)
    let high := max 48 (min (byteAt b 14) 62)
    let threshold := min (field16 b 22) 6000
    let clear := min (field16 b 24) 6000
    c.inRange ∧
    (c.capacity = max 100 (min (field16 b 0) 8000) ∧ c.reserve = min (field16 b 2) (c.capacity - 100) ∧
      c.efficiency = max 800 (min (field16 b 4) 990) ∧ c.nominalVoltage = max 10000 (min (field16 b 6) 60000) ∧
      c.contestWindow = max 5 (min (byteAt b 8) 200) ∧ c.refreshPeriod = max 1 (min (byteAt b 9) 50) ∧
      c.backoffBase = max 10 (min (field16 b 10) 1000) ∧
      c.startOrder = (if byteAt b 12 = 0 then .priorityThenArrival else .slotNumber)) ∧
    (c.guardCurrent = max 100 (min (field16 b 16) 8000) ∧ c.guardVoltage = max 10000 (min (field16 b 18) 65000) ∧
      c.guardTemperature = max 0 (min (signed16 b 20) 1200) ∧ c.sagCount = max 1 (min (byteAt b 15) 64) ∧
      c.shedHold = max 100 (min (field16 b 26) 5000) ∧ c.startWait = max 1 (min (byteAt b 28) 30) ∧
      c.ackTimeout = max 1 (min (byteAt b 29) 50)) ∧
    ((c.ownerLow, c.ownerHigh) = (if high < low then (48, 62) else (low, high))) ∧
    ((c.sagThreshold, c.sagClear) =
      (if threshold < clear then (threshold, clear)
        else if threshold ≤ 5950 then (threshold, threshold + 50) else (5950, 6000))) ∧
    (clampRecord b).2 =
      ([decide (c.capacity ≠ field16 b 0), decide (c.reserve ≠ field16 b 2), decide (c.efficiency ≠ field16 b 4),
        decide (c.nominalVoltage ≠ field16 b 6), decide (c.contestWindow ≠ byteAt b 8),
        decide (c.refreshPeriod ≠ byteAt b 9), decide (c.backoffBase ≠ field16 b 10), decide (1 < byteAt b 12),
        decide (low ≠ byteAt b 13), decide (high ≠ byteAt b 14), decide (c.guardCurrent ≠ field16 b 16),
        decide (c.guardVoltage ≠ field16 b 18), decide (c.guardTemperature ≠ signed16 b 20),
        decide (threshold ≠ field16 b 22), decide (clear ≠ field16 b 24), decide (c.sagCount ≠ byteAt b 15),
        decide (c.shedHold ≠ field16 b 26), decide (c.startWait ≠ byteAt b 28), decide (c.ackTimeout ≠ byteAt b 29),
        decide (high < low), decide (clear ≤ threshold)].countP id)

/-- The self-loop test ends in JOINING when every bit agrees within 10 ms and in OFF_LINE otherwise, and the join timer
leads to ON_LINE, where the own claim becomes IDLE and the start conditions are examined (R9, R10, R11, R13, R17, R111,
R113). That a frame back at that very instant is in time is the model's reading (log 34). -/
def Obligations.SelfLoopAndJoining : Prop :=
  ∀ s : State,
    let failed : State := { s with
      startup := { s.startup with
        station := .offLine, fault := some .loopFailed, configRead := none, loopTimer := none, joinTimer := none }
      line := { s.line with judgement := .apart, driving := [], queue := [], waiting := none, silo := [] } }
    (s.station = .selfLoop →
      ((∀ i ∈ s.startup.loopTimer, earlier i s.time = false) →
        exec (.loopedFrameReceived (testFrame s.address).coded) s = .next { s with
          startup := { s.startup with
            station := .joining, loopTimer := none, joinTimer := some (later s.time 150000) }
          line := { s.line with judgement := .busy, driving := [] }
          port := Port.writeDrop { s.port with watchdog := some (later s.time 3) } }) ∧
      (∀ i ∈ s.startup.loopTimer, earlier i s.time = true → ∀ bits,
        exec (.loopedFrameReceived bits) s = .next failed) ∧
      (∀ bits, bits ≠ (testFrame s.address).coded → exec (.loopedFrameReceived bits) s = .next failed) ∧
      (∀ i ∈ s.startup.loopTimer, reached s.time i = true → exec .selfLoopTimeout s = .next failed)) ∧
    (s.station = .joining → ∀ i ∈ s.startup.joinTimer, reached s.time i = true →
      exec .joinTimerExpiry s = .next (State.examineStart { s with
        startup := { s.startup with station := .onLine, joinTimer := none }
        headroom := { s.headroom with claim := .idle } }))

/-- The station state changes only as the table of the chapter's Station States gives, with the fault it gives; OFF_LINE
is left by power reset alone (R3 to R6, R9 to R13). -/
def Obligations.StationStateTransitions : Prop :=
  ∀ (c : Instr) (s t : State), s.queueForm → exec c s = .next t →
    (t.station = s.station ∧ t.startup.fault = s.startup.fault) ∨
    match c with
    | .powerReset straps =>
      if straps.toNat < 48 then t.station = .loading ∧ t.startup.fault = none
      else t.station = .offLine ∧ t.startup.fault = some .strapInvalid
    | .configReadComplete _ =>
      s.station = .loading ∧ (t.station = .selfLoop ∧ t.startup.fault = s.startup.fault ∨
        t.station = .degraded ∧ (t.startup.fault = some .configBad ∨ t.startup.fault = some .configUnreadable))
    | .configReadNotAcknowledged | .configReadTimeout =>
      s.station = .loading ∧ t.station = .degraded ∧ t.startup.fault = some .configUnreadable
    | .loopedFrameReceived _ =>
      s.station = .selfLoop ∧ (t.station = .joining ∧ t.startup.fault = s.startup.fault ∨
        t.station = .offLine ∧ t.startup.fault = some .loopFailed)
    | .selfLoopTimeout => s.station = .selfLoop ∧ t.station = .offLine ∧ t.startup.fault = some .loopFailed
    | .joinTimerExpiry => s.station = .joining ∧ t.station = .onLine ∧ t.startup.fault = s.startup.fault
    | .sendCollision =>
      s.station.connected = true ∧ t.station = .offLine ∧ t.startup.fault = some .dupAddress
    | _ => False

/-- Outside ON_LINE the contactor is commanded open and no check runs, save the abort that silencing began, and the
engine is never left in RELEASE: every step keeps it (R11, R75, R137, R143). -/
def Obligations.StationFormKept : Prop :=
  ∀ s t : State, s.stationForm → step s = .next t → t.stationForm

/-! ### The bay line (02, 05) -/

/-- A receiver reads from the bits of a frame what was sent when the frame is valid, and received-in-error when it is
not: a length above 8, a kind not defined for its class, source 63 (R14, R15, R29, R87, R88, R89). -/
def Obligations.CodedFrameReadsBack : Prop :=
  ∀ f : Frame, f.payload.length ≤ 15 →
    readBits f.coded = if f.valid = true then .valid f else .inError

/-- A coded frame never holds nine equal bits in a row; broken off before its last check bit it is incomplete; and with
check bits that disagree with its contents it is received-in-error, whatever its class, target or kind (R15, R17, R29,
R88). -/
def Obligations.CodedFramesAndDamage : Prop :=
  ∀ f : Frame, f.payload.length ≤ 8 →
    (∀ (b : Bool) (before after : List Bool), f.coded ≠ before ++ List.replicate 9 b ++ after) ∧
    (∀ n, 0 < n → n < f.coded.length → readBits (f.coded.take n) = .incomplete) ∧
    (∀ check : Half, check ≠ checkSequence f.contents →
      readBits (stuff true 0 (false :: (f.contents ++ fieldBits 16 check.toNat))) = .inError)

/-- On an idle line the head of the transmit queue begins, and nothing else changes (R18, R24). -/
def Obligations.TransmitStartSendsHead : Prop :=
  ∀ (s : State) (e : Entry) (rest : List Entry),
    s.station.connected = true → s.line.judgement = .idle → s.line.queue = e :: rest →
    exec .transmitStart s = .next { s with line := { s.line with
      judgement := .sending s.time, driving := e.frame.coded, queue := { e with sending := true } :: rest } }

/-- The completion of the part's own REPLY takes it out of the queue, numbers it and ends any collision count; RESULT
part 3 releases the lock of its slot, and no other slot changes (R20, R22, R23, R83). A lock held as the entry order of
its group's first frame, with part 3 three numbers on, is the model's (log 19). -/
def Obligations.OwnReplyCompletes : Prop :=
  ∀ (s : State) (start : Word) (e : Entry), s.onLineWith start e → e.isReply = true →
    ∃ slots : Vector Slot 8,
      exec .frameSent s = .next { s with
        line := s.line.afterOwn e, slotTable := { s.slotTable with slots := slots } } ∧
      ∀ n : Fin 8, slots[n] = match s.slotTable.slot n with
        | .done h w r (some first) => .done h w r (if e.entryOrder = first + 3 then none else some first)
        | x => x

/-- The completion of the part's own CLAIM. The current ASK starts the contest with its order number; a HOLD in HOLDING
sets the refresh and hold-stale timers; an ASK withdrawn while it was sent, with no CLAIM offered since, is set right by
a DROP; a waiting CLAIM is accepted after the report (R25, R44, R45, R51, R52, R53). That the completion of a CLAIM
which a waiting one has replaced as the current claim frame does nothing else, also of a HOLD in HOLDING, is the model's
reading of R44 beside R52 (log 20). Offering a CLAIM makes it the current claim frame: it is accepted when none is held,
takes the place of a queued one, whose collision count ends, and becomes the waiting CLAIM behind one that is being sent
(R16, R24, R25, R44, R90). -/
def Obligations.OwnClaimCompletes : Prop :=
  (∀ (s : State) (kind : ClaimKind) (held asked : Nat),
    let l := s.line
    let f : Frame :=
      { cls := 1, urgency := BitVec.ofNat 2 (3 - s.headroom.priority), source := s.address, target := 63
        kind := match kind with
          | .ask => 0
          | .hold => 1
          | .drop => 2
        payload := bytes16 held ++ bytes16 asked ++ [byte s.config.refreshPeriod] }
    let entry : Entry :=
      { frame := f, block := .headroom, entryOrder := l.nextEntry, sending := false, removing := false }
    let placed (queue : List Entry) : List Entry :=
      queue.takeWhile (fun x => decide (x.frame.header ≤ f.header)) ++
        entry :: queue.dropWhile (fun x => decide (x.frame.header ≤ f.header))
    let offered (l : Line) : State :=
      { s with line := l, headroom := { s.headroom with current := some { kind := kind, held := held, asked := asked } } }
    let counted := ∃ x ∈ l.queue, x.isClaim = true ∧ l.collided = some x.entryOrder
    (s.station.connected = false → s.offerClaim kind held asked = s) ∧
    (s.station.connected = true →
      (l.queue.find? Entry.isClaim = none → s.offerClaim kind held asked =
        offered { l with queue := placed l.queue, nextEntry := l.nextEntry + 1 }) ∧
      (∀ e, l.queue.find? Entry.isClaim = some e → e.sending = true → s.offerClaim kind held asked =
        offered { l with waiting := some f }) ∧
      (∀ e, l.queue.find? Entry.isClaim = some e → e.sending = false → s.offerClaim kind held asked =
        offered { l with
          queue := placed (l.queue.filter (fun x => !x.isClaim)), nextEntry := l.nextEntry + 1
          collisions := if counted then 0 else l.collisions
          collided := if counted then none else l.collided }))) ∧
  ∀ (s : State) (start : Word) (e : Entry), s.onLineWith start e → e.isClaim = true →
    let u := s.headroom
    let period := s.config.refreshPeriod
    (s.line.waiting = none → u.current.isSome = true → e.frame.kind = 0 → u.claim = .askQueued →
      exec .frameSent s = .next { s with line := s.line.afterOwn e, headroom := { u with
        claim := .contest, own := some (s.line.order + 1), denial := false, askCompleted := some s.time
        contestTimer := some (later s.time (s.config.contestWindow * 10)) } }) ∧
    (s.line.waiting = none → u.current.isSome = true → e.frame.kind = 1 → u.claim = .holding →
      exec .frameSent s = .next { s with line := s.line.afterOwn e, headroom := { u with
        refreshTimer := some (later s.time (period * 1000))
        staleTimer := some (later s.time (2 * period * 1000)) } }) ∧
    (s.line.waiting = none → u.current = none → e.frame.kind = 0 → u.claim = .idle ∨ u.claim = .holding →
      exec .frameSent s = .next (State.setLine
        (State.offerClaim { s with line := s.line.afterOwn e } .drop u.held u.held)
        (State.offerClaim { s with line := s.line.afterOwn e } .drop u.held u.held).line.admitWaiting)) ∧
    (∀ w, s.line.waiting = some w →
      exec .frameSent s = .next { s with
        line := Line.accept .headroom { s.line.afterOwn e with waiting := none } w })

/-- An attempt that ends in lost arbitration or in a first or second send collision leaves the frame in its place, unless
a CLAIM waits, which replaces it, or a BAY_RESET marked it, which removes it and, as a RESULT frame, releases its slot's
lock. A collision counts for its own frame alone and drives the abort run; a lost arbitration counts nothing, and the part
receives from its own start bit on. A counted frame that leaves the queue takes the count with it (R18 to R20, R22, R25,
R28, R83). That a RESULT frame is known as its slot's by the lock, held as the entry order of the group's first frame with
the group in the four numbers from it on, is the model's (log 19). -/
def Obligations.FailedAttempts : Prop :=
  ∀ (s : State) (start : Word) (e : Entry), s.onLineWith start e →
    let stays := s.line.queue.map (fun x => { x with sending := false })
    let gone := s.line.queue.filter (fun x => x.entryOrder != e.entryOrder)
    let count := if s.line.collided = some e.entryOrder then s.line.collisions + 1 else 1
    let kept := if s.line.collided = some e.entryOrder then 0 else s.line.collisions
    let keptFor := if s.line.collided = some e.entryOrder then none else s.line.collided
    (e.isClaim = false ∨ s.line.waiting = none → e.removing = false →
      exec .arbitrationLost s = .next { s with line := { s.line with
        judgement := .receiving start, driving := [], queue := stays } } ∧
      (count < 3 → exec .sendCollision s = .next { s with line := { s.line with
        judgement := .busy, driving := List.replicate 16 false, queue := stays, collisions := count
        collided := some e.entryOrder } })) ∧
    (∀ w, e.isClaim = true → s.line.waiting = some w →
      let placed := insertEntry
        { frame := w, block := .headroom, entryOrder := s.line.nextEntry, sending := false, removing := false } gone
      e.removing = false →
      exec .arbitrationLost s = .next { s with line := { s.line with
        judgement := .receiving start, driving := [], queue := placed, waiting := none
        nextEntry := s.line.nextEntry + 1, collisions := kept, collided := keptFor } } ∧
      (count < 3 → exec .sendCollision s = .next { s with line := { s.line with
        judgement := .busy, driving := List.replicate 16 false, queue := placed, waiting := none
        nextEntry := s.line.nextEntry + 1, collisions := 0, collided := none } })) ∧
    (e.isReply = true → e.removing = true →
      ∃ slots : Vector Slot 8,
        let removed (l : Line) : State :=
          { s with line := { l with queue := gone }, slotTable := { s.slotTable with slots := slots } }
        exec .arbitrationLost s = .next (removed { s.line with
          judgement := .receiving start, driving := [], collisions := kept, collided := keptFor }) ∧
        (count < 3 → exec .sendCollision s = .next (removed { s.line with
          judgement := .busy, driving := List.replicate 16 false, collisions := 0, collided := none })) ∧
        ∀ n : Fin 8, slots[n] = match s.slotTable.slot n with
          | .done h w r (some first) =>
            .done h w r (if first ≤ e.entryOrder ∧ e.entryOrder ≤ first + 3 then none else some first)
          | x => x)

/-- The third send collision of one frame silences the part: OFF_LINE with DUP_ADDRESS, the line unit emptied, and from
JOINING or ON_LINE the peer view emptied, every slot but the ACTIVE one vacated, a drop in the setpoint path, the standing
request OPEN, the ceiling 0 and the watchdog stopped (R13, R20, R34, R56, R85, R123). That it does so although a
CLAIM waits behind the frame, or although a BAY_RESET marked the frame for removal, the collision counted before the
replacement of R25 or the removal of R28, is the model's reading (log 21). -/
def Obligations.ThirdCollisionSilences : Prop :=
  ∀ (s : State) (start : Word) (e : Entry), s.onLineWith start e →
    s.line.collided = some e.entryOrder → 2 ≤ s.line.collisions →
    ∃ t, exec .sendCollision s = .next t ∧ t.station = .offLine ∧ t.startup.fault = some .dupAddress ∧
      t.line.judgement = .apart ∧ t.line.driving = [] ∧ t.line.queue = [] ∧ t.line.waiting = none ∧ t.line.silo = [] ∧
      t.line.order = s.line.order ∧ t.line.receiveErrors = s.line.receiveErrors ∧
      t.headroom.peers = [] ∧ t.headroom.suspect = false ∧ t.headroom.reListen = none ∧ t.time = s.time ∧
      t.guardUnit.latch = s.guardUnit.latch ∧
      (s.station.builds = true →
        t.port.dropInPath ∧ t.port.standing = .opened ∧ t.port.ceiling = 0 ∧ t.port.watchdog = none ∧
        t.slotTable.queue = [] ∧ t.slotTable.arrival = s.slotTable.arrival ∧
        ∀ n : Fin 8, (s.slotTable.slot n).isActive = false → t.slotTable.slot n = .vacant)

/-- The completion of a valid frame heard takes an order number. SHED enters the silo; so does a CLAIM from another bay,
and a REQUEST addressed to the part or, of kind CANCEL, STATUS or BAY_RESET, to all stations. Another CLAIM, another
REQUEST to all stations and a frame of class 4..7 are counted as foreign; a REQUEST to another station and a REPLY are
discarded. At a full silo an entering frame is an overrun, and the peer view becomes SUSPECT (R20, R22, R30, R31,
R41). -/
def Obligations.HeardFrameIsFiltered : Prop :=
  ∀ (s : State) (stamp start : Word) (f : Frame), s.hears stamp start → f.valid = true →
    let l := s.line.afterHeard
    let enters : State :=
      if s.line.silo.length < 8 then
        { s with line := { l with silo := s.line.silo ++ [{ frame := f, stamp := start, order := l.order }] } }
      else State.markSuspect { s with line := { l with overruns := min (s.line.overruns + 1) 255 } }
    let counted : State := { s with line := { l with foreign := min (s.line.foreign + 1) 255 } }
    let discarded : State := { s with line := l }
    exec (.frameReceived stamp f.coded) s = .next
      (if f.cls = 0 then enters
      else if f.cls = 1 then (if f.source.toNat < 48 ∧ f.source ≠ s.address then enters else counted)
      else if f.cls = 2 then
        (if f.target = s.address then enters
        else if f.target = 63 then (if f.kind.toNat ∈ [2, 5, 8] then enters else counted)
        else discarded)
      else if f.cls = 3 then discarded else counted)

/-- A frame received in error is counted and makes the peer view SUSPECT (R29, R41); the line's eleven recessive bits make
it idle (R17). -/
def Obligations.ErrorAndIdle : Prop :=
  ∀ (s : State) (stamp start : Word) (bits : List Bool),
    (s.hears stamp start → readBits bits = .inError ∨ readBits bits = .incomplete →
      exec (.receivedInError bits) s = .next (State.markSuspect { s with line := { s.line with
        judgement := .busy, receiveErrors := min (s.line.receiveErrors + 1) 255 } })) ∧
    (s.station.connected = true → s.line.judgement = .busy →
      exec .lineIdle s = .next { s with line := { s.line with judgement := .idle, driving := [] } })

/-- More than eight dominant bits in a row are an abort run, from the start bit on or in the middle of a frame. It
discards the frame in progress, also one received after a lost arbitration, and changes nothing but the judgement of the
line, which waits for the next idle (R21, R88). Its bits are neither a valid frame nor one received in error, and that
FRAME_RECEIVED and RECEIVED_IN_ERROR change nothing with them is the model's choice (log 9, log 1). -/
def Obligations.AbortRunDiscards : Prop :=
  ∀ (s : State) (stamp start : Word), s.hears stamp start →
    exec .abortRunSeen s = .next { s with line := { s.line with judgement := .busy } } ∧
    (∀ bits : List Bool,
      (∃ (n : Nat) (after : List Bool), 8 < n ∧ bits = List.replicate n false ++ after) ∨
      (∃ (f : Frame) (m n : Nat) (after : List Bool), f.payload.length ≤ 8 ∧ 8 < n ∧ m + 16 ≤ f.coded.length ∧
        bits = f.coded.take m ++ List.replicate n false ++ after) →
      readBits bits = .abortRun ∧
      exec (.frameReceived stamp bits) s = .next s ∧ exec (.receivedInError bits) s = .next s)

/-- Every count that saturates at 255 stays within it, and the line order counter is raised by 1 at a completion, returns
to 0 at power reset, and stands still at every other command (R7, R22, R33, R35, R40, R50, R183). -/
def Obligations.CountersAndOrderNumber : Prop :=
  ∀ (c : Instr) (s t : State), exec c s = .next t →
    (s.counterForm → t.counterForm) ∧
    match c with
    | .powerReset _ => t.line.order = 0
    | .frameSent =>
      ((∃ start e, s.onLineWith start e) → t.line.order = s.line.order + 1) ∧
      ((¬ ∃ start e, s.onLineWith start e) → t.line.order = s.line.order)
    | .frameReceived stamp bits =>
      let valid := (∃ start, s.hears stamp start) ∧ ∃ f, readBits bits = .valid f
      (valid → t.line.order = s.line.order + 1) ∧ (¬ valid → t.line.order = s.line.order)
    | _ => t.line.order = s.line.order

/-- The transmit queue keeps its order and its quotas, with at most one entry sending (R24 to R28). -/
def Obligations.QueueFormKept : Prop :=
  ∀ s t : State, s.queueForm → step s = .next t → t.queueForm

/-! ### Announcements (03) -/

/-- An ASK from another bay sets the entry of its source, whose asked amount is present when it is above the held amount;
every other entry is as before (R36 to R38). A CLAIM of another length than 5 is discarded and makes the peer view
SUSPECT, to listen again for three of the longest refresh periods known (R41, R89); in DEGRADED it is discarded
(R12). -/
def Obligations.AskSetsEntry : Prop :=
  ∀ (s : State) (h : Heard) (rest : List Heard),
    let f := h.frame
    let held := min (field16 f.payload 0) 400
    let asked := min (field16 f.payload 2) 400
    let sent := byteAt f.payload 4
    let period := if sent = 0 ∨ 50 < sent then 50 else sent
    let entry (state : PeerState) : Peer :=
      { address := f.source, state := state, held := held, order := h.order, heard := h.stamp, period := period,
        expiry := later h.stamp (3 * period * 1000) }
    (s.handing h rest 1 0 → s.station.builds = true → f.payload.length = 5 →
      ∃ peers : List Peer,
        exec .ask s = .next { s.taking rest with headroom := { s.headroom with peers := peers } } ∧
        peerAt f.source peers =
          (if held < asked then some (entry (.asking asked)) else if held = 0 then none else some (entry .holding)) ∧
        ∀ a, a ≠ f.source → peerAt a peers = peerAt a s.headroom.peers) ∧
    (∀ (kind : Nat) (c : Instr), (kind, c) ∈ [(0, Instr.ask), (1, Instr.hold), (2, Instr.drop)] →
      s.handing h rest 1 kind →
      (s.station.builds = false → exec c s = .next (s.taking rest)) ∧
      (s.station.builds = true → f.payload.length ≠ 5 →
        ∃ longest : Nat,
          exec c s = .next { s.taking rest with headroom := { s.headroom with
            suspect := true, reListen := some (later s.time (3 * longest * 1000)) } } ∧
          (s.headroom.peers = [] → longest = s.config.refreshPeriod) ∧
          (s.headroom.peers ≠ [] →
            (∃ p ∈ s.headroom.peers, p.period = longest) ∧ ∀ p ∈ s.headroom.peers, p.period ≤ longest)))

/-- A HOLD or a DROP of a held amount above 0 sets the entry of its source to HOLDING and renews its order number, stamp,
period and expiry; one of 0 removes it. Both kinds do the same, and every other entry is as before (R39). -/
def Obligations.HoldAndDropSetEntry : Prop :=
  ∀ (s : State) (h : Heard) (rest : List Heard) (kind : Nat) (c : Instr),
    (kind, c) ∈ [(1, Instr.hold), (2, Instr.drop)] → s.handing h rest 1 kind → s.station.builds = true →
    h.frame.payload.length = 5 →
    let held := min (field16 h.frame.payload 0) 400
    let sent := byteAt h.frame.payload 4
    let period := if sent = 0 ∨ 50 < sent then 50 else sent
    ∃ peers : List Peer,
      exec c s = .next { s.taking rest with headroom := { s.headroom with peers := peers } } ∧
      peerAt h.frame.source peers =
        (if held = 0 then none
          else some
            { address := h.frame.source, state := .holding, held := held, order := h.order, heard := h.stamp,
              period := period, expiry := later h.stamp (3 * period * 1000) }) ∧
      ∀ a, a ≠ h.frame.source → peerAt a peers = peerAt a s.headroom.peers

/-- A shed event is a SHED handed on, or the completion of the part's own. It denies a contest whose ask it follows, save
that an own SHED that still waited for the line at the contest timer's expiry denies nothing. In a loading phase the
engine falls back to its mark and is FROZEN for the shed hold, or aborts with SHED_LIMIT after two restarts; FROZEN is
held anew; no other phase heeds it. In DEGRADED a SHED is discarded (R12, R47, R59, R60, R133, R134, R157). That an own
SHED on the line at the expiry, or offered after it, counts is the model's reading (log 35). -/
def Obligations.ShedEventRule : Prop :=
  (∀ (s : State) (h : Heard) (rest : List Heard), s.handing h rest 0 0 → s.station.builds = false →
    exec .shed s = .next (s.taking rest)) ∧
  ∀ (c : Instr) (s s1 : State) (order : Word) (late : Bool),
    (∃ h rest, s.handing h rest 0 0 ∧ s.station.builds = true ∧ c = .shed ∧ order = h.order ∧ s1 = s.taking rest ∧
      late = false) ∨
    (∃ start e, s.onLineWith start e ∧ e.isShed = true ∧ c = .frameSent ∧ order = s.line.order + 1 ∧
      s1 = { s with line := s.line.afterOwn e } ∧ late = (s.headroom.lateShed == some e.entryOrder)) →
    let u := s.headroom
    let told : State := { s1 with headroom := { u with
      denial := u.denial || (!late && u.claim == .contest && u.own.any (fun own => earlier own order)) } }
    let e := s.engine
    let hold := some (later s.time (s.config.shedHold * 10))
    (e.phase.loads = true → e.restarts < 2 →
      exec c s = .next { told with
        engine := { e with
          phase := .frozen, frozenFrom := some e.phase, restarts := e.restarts + 1, shedHold := hold, awaiting := true
          dwellStart := none, dwellCount := 0, finalHold := false, trip := { e.trip with timeOut := none } }
        port := if s.station = .offLine then s.port else s.port.writeSetpoint (e.mark.getD 0) }) ∧
    (e.phase.loads = true → 2 ≤ e.restarts →
      ∃ after : Engine,
        exec c s = .next { told with engine := after, port := s.port.writeDrop } ∧
        after.phase = .aborting ∧ after.cause = some .shedLimit ∧ after.noResult = false ∧
        after.verdict = e.verdict ∧ after.check = e.check) ∧
    (e.phase = .frozen →
      exec c s = .next { told with engine := { e with shedHold := hold, trip := { e.trip with timeOut := none } } }) ∧
    (e.phase.loads = false → e.phase ≠ .frozen → exec c s = .next told)

/-- The silo and the peer view keep their form: at most eight frames that R30 admits, and entries of other bays in address
order with the amounts, the period and the expiry that the rules of the view give (R30, R31, R36 to R40). -/
def Obligations.ViewFormKept : Prop :=
  ∀ s t : State, s.viewForm → step s = .next t → t.viewForm

/-! ### Slots (04, 05) -/

/-- The tests every request passes first, in R63's order: owner range, BAY_RESET in progress, payload length, slot number.
A request that fails one changes nothing and is answered by one REFUSE, or by nothing at target 63; CANCEL alone names
all slots, at target 63 (R32, R63, R64, R93, R180). That byte 1 of a REFUSE of STATUS, CLEAR_FAULT or BAY_RESET is the
first payload byte when the request had one is R93's word against R63's and R180's zero (log 29). -/
def Obligations.RefusedRequestChangesNothing : Prop :=
  ∀ (s : State) (h : Heard) (rest : List Heard) (kind : Nat) (c : Instr) (block : Block),
    requestOf kind = some (c, block) → s.handing h rest 2 kind →
    let f := h.frame
    let owned := s.config.ownerLow ≤ f.source.toNat ∧ f.source.toNat ≤ s.config.ownerHigh
    let refused (reason : Nat) : State := (s.taking rest).refusing block f reason 255
    (¬ owned → exec c s = .next (refused 1)) ∧
    (owned → s.guardUnit.resetting.isSome = true → exec c s = .next (refused 13)) ∧
    (owned → s.guardUnit.resetting = none → f.payload.length ≠ requestLength kind → exec c s = .next (refused 6)) ∧
    (s.requestPasses f → kind ≤ 4 → 8 ≤ byteAt f.payload 0 →
      ¬ (kind = 2 ∧ f.target = 63 ∧ byteAt f.payload 0 = 15) → exec c s = .next (refused 6))

/-- OPEN begins the assembly of a VACANT slot with the next arrival number and a deadline 500 ms after its arrival stamp,
or is refused by the first test of R67 that fails (R62, R67). At the deadline the assembly ends: the slot is vacated and
the owner told ASSEMBLY_BROKEN (R71). That the command of the expiry changes nothing before the deadline is the model's
choice (log 6, log 1). -/
def Obligations.OpenAndDeadline : Prop :=
  (∀ (s : State) (h : Heard) (rest : List Heard) (n : Fin 8),
    s.handing h rest 2 0 → s.requestPasses h.frame → byteAt h.frame.payload 0 = n.val →
    let f := h.frame
    let s1 := s.taking rest
    let parts := byteAt f.payload 3
    let opened (kind : CheckKind) : State :=
      { s1 with slotTable := { s1.slotTable with
          arrival := s.slotTable.arrival + 1
          slots := s.slotTable.slots.set n (.assembling
            { owner := f.source, kind := kind, priority := byteAt f.payload 2, arrival := s.slotTable.arrival + 1 }
            parts [] (later h.stamp 5000)) } }
    exec .openSlot s = .next
      (if s.station = .degraded then s1.refusing .slotTable f 2 255
      else if s.slotTable.slot n ≠ .vacant then s1.refusing .slotTable f 3 255
      else
        match byteAt f.payload 1 with
        | 1 =>
          if byteAt f.payload 2 ≤ 3 ∧ parts = 3 then opened .tripRamp else s1.refusing .slotTable f 6 255
        | 2 =>
          if byteAt f.payload 2 ≤ 3 ∧ parts = 3 then opened .tripTime else s1.refusing .slotTable f 6 255
        | 3 =>
          if byteAt f.payload 2 ≤ 3 ∧ 5 ≤ parts ∧ parts ≤ 12 then opened .derate
          else s1.refusing .slotTable f 6 255
        | _ => s1.refusing .slotTable f 5 255)) ∧
  (∀ (s : State) (n : Fin 8) (head : SlotHead) (expected : Nat) (parts : List (List Byte)) (deadline : Word),
    s.slotTable.slot n = .assembling head expected parts deadline →
    exec (.assemblyDeadlineExpiry n) s = .next
      (if reached s.time deadline = true then
        (s.withVacated n).offerReplies .slotTable
          [{ cls := 3, urgency := 3, source := s.address, target := head.owner, kind := 0,
             payload := [0, byte n.val, 7, 254] }]
      else s))

/-- A PART is stored when it comes from the owner in its order, breaks the assembly when it comes from the owner out of
order, and is refused at a slot that is not ASSEMBLING or is another owner's (R68 to R70). -/
def Obligations.PartStoresOrBreaks : Prop :=
  ∀ (s : State) (h : Heard) (rest : List Heard) (n : Fin 8),
    s.handing h rest 2 1 → s.requestPasses h.frame → byteAt h.frame.payload 0 = n.val →
    let f := h.frame
    let s1 := s.taking rest
    match s.slotTable.slot n with
    | .vacant => exec .part s = .next (s1.refusing .slotTable f 10 255)
    | .held _ _ | .active _ _ | .done _ _ _ _ => exec .part s = .next (s1.refusing .slotTable f 3 255)
    | .assembling head expected parts deadline =>
      (head.owner ≠ f.source → exec .part s = .next (s1.refusing .slotTable f 3 255)) ∧
      (head.owner = f.source → byteAt f.payload 1 ≠ parts.length →
        exec .part s = .next ((s1.withVacated n).refusing .slotTable f 7 parts.length)) ∧
      (head.owner = f.source → byteAt f.payload 1 = parts.length → parts.length + 1 < expected →
        exec .part s = .next
          (s1.withSlot n (.assembling head expected (parts ++ [f.payload.drop 2]) deadline)))

/-- The last PART validates the slot. A slot that fails is vacated with the reason; a slot that passes becomes HELD,
enters the start queue immediately before the first slot that it goes before, is shown to the sender, and the start
conditions are examined (R73 to R75). -/
def Obligations.LastPartValidates : Prop :=
  ∀ (s : State) (h : Heard) (rest : List Heard) (n : Fin 8) (head : SlotHead) (expected : Nat)
    (parts : List (List Byte)) (deadline : Word),
    s.handing h rest 2 1 → s.requestPasses h.frame → byteAt h.frame.payload 0 = n.val →
    s.slotTable.slot n = .assembling head expected parts deadline → head.owner = h.frame.source →
    byteAt h.frame.payload 1 = parts.length → expected ≤ parts.length + 1 →
    let s1 := s.taking rest
    match validate s.config s.effectiveCurrent head.kind (parts ++ [h.frame.payload.drop 2]) with
    | .refused reason detail =>
      exec .part s = .next ((s1.withVacated n).refusing .slotTable h.frame reason.code detail)
    | .held work =>
      ∃ before after : List (Fin 8),
        s.slotTable.queue = before ++ after ∧
        (n ∉ s.slotTable.queue → (∀ m ∈ before, ¬ s.goesBefore n head m) ∧ ∀ m ∈ after.head?, s.goesBefore n head m) ∧
        exec .part s = .next (State.examineStart (State.replySlot
          { s1 with slotTable := { s1.slotTable with
              slots := s.slotTable.slots.set n (.held head work), queue := before ++ n :: after } }
          h.frame.source n))

/-- Whatever part data a validation accepts, the check it leaves stays within the guard limit it was given, within 400 FU
and the feeder headroom, and within every range of R103 after the clamps of R104. What a validation makes of the parts of
each kind: the bytes each parameter is read from, the part index of the first failing test, the clamps with their flags,
the claim need, and the two claim refusals (R54, R73, R101 to R104). -/
def Obligations.ValidatedWorkInRange : Prop :=
  (∀ (c : ConfigRecord) (guard : Nat) (parts : List (List Byte)),
    let p (i : Nat) : List Byte := parts.getD i []
    let bad (index : Nat) : Validated := .refused .badParam index
    let claimed (params : Params) (ceiling : Nat) (ceilingClamped dwellClamped : Bool) : Validated :=
      let need := (ceiling * c.nominalVoltage + c.efficiency * 1000 - 1) / (c.efficiency * 1000)
      if 400 < need then .refused .claimTooLarge 255
      else if c.capacity - c.reserve < need then .refused .claimExceedsFeeder 255
      else .held { params := params, ceilingClamped := ceilingClamped, dwellClamped := dwellClamped, need := need }
    let tail : TripTail :=
      { collapseVoltage := field16 (p 2) 0, collapseCount := byteAt (p 2) 2, offTime := byteAt (p 2) 3
        recoverWait := field16 (p 2) 4 }
    let tailBad := tail.collapseCount = 0 ∨ 16 < tail.collapseCount ∨ tail.offTime = 0 ∨ 100 < tail.offTime ∨
      tail.recoverWait = 0 ∨ 600 < tail.recoverWait
    (let start := field16 (p 0) 0
      let rise := field16 (p 0) 2
      let dwell := field16 (p 0) 4
      let low := field16 (p 1) 0
      let high := field16 (p 1) 2
      let ceiling := field16 (p 1) 4
      let top := min ceiling guard
      validate c guard .tripRamp parts =
        if 1000 < dwell then bad 0
        else if ceiling = 0 ∨ high < low ∨ ceiling < high ∨ ceiling < start then bad 1
        else if tailBad then bad 2
        else claimed
          (.tripRamp
            { ramp := { start := min start top, rise := max rise 1, dwell := max dwell 1, ceiling := top }
              windowLow := min low top, windowHigh := min high top, tail := tail })
          top (decide (guard < ceiling)) (decide (rise = 0 ∨ dwell = 0))) ∧
    (let overload := field16 (p 0) 0
      let low := field16 (p 0) 2
      let high := field16 (p 0) 4
      let preload := field16 (p 1) 0
      let dwell := field16 (p 1) 2
      let timeOut := field16 (p 1) 4
      let top := min overload guard
      validate c guard .tripTime parts =
        if overload = 0 ∨ high < low ∨ 65534 < high then bad 0
        else if overload ≤ preload ∨ timeOut = 0 ∨ 60000 < timeOut then bad 1
        else if tailBad then bad 2
        else claimed
          (.tripTime
            { overload := top, timeLow := low, timeHigh := high, preload := min preload top, preDwell := max dwell 1
              timeOut := timeOut, tail := tail })
          top (decide (guard < overload)) (decide (dwell = 0))) ∧
    (let tLow := signed16 (p 0) 0
      let tHigh := signed16 (p 0) 2
      let soak := field16 (p 0) 4
      let start := field16 (p 1) 0
      let rise := field16 (p 1) 2
      let dwell := field16 (p 1) 4
      let folds := byteAt (p 2) 2
      let ceiling := field16 (p 3) 0
      let points := byteAt (p 3) 2
      let block := field16 (p 3) 3
      let top := min ceiling guard
      let curve := (parts.drop 4).map (fun q => ({ temperature := signed16 q 0, power := field16 q 2 } : Point))
      let badPoint (j : Nat) := ∃ q ∈ curve[j]?, 60000 < q.power ∨
        0 < j ∧ ∃ before ∈ curve[j - 1]?, q.temperature ≤ before.temperature
      (tHigh < tLow ∨ soak = 0 → validate c guard .derate parts = bad 0) ∧
      (¬ (tHigh < tLow ∨ soak = 0) →
        (1000 < dwell → validate c guard .derate parts = bad 1) ∧
        (¬ 1000 < dwell →
          (folds = 0 ∨ 16 < folds → validate c guard .derate parts = bad 2) ∧
          (¬ (folds = 0 ∨ 16 < folds) →
            let badCeiling := ceiling = 0 ∨ ceiling < start ∨ points + 4 ≠ parts.length ∨ block < 1000 ∨ 60000 < block
            (badCeiling → validate c guard .derate parts = bad 3) ∧
            (¬ badCeiling →
              (∀ j, badPoint j → (∀ i, i < j → ¬ badPoint i) → validate c guard .derate parts = bad (4 + j)) ∧
              ((∀ j, ¬ badPoint j) → validate c guard .derate parts = claimed
                (.derate
                  { tLow := tLow, tHigh := tHigh, soakMaximum := soak
                    ramp := { start := min start top, rise := max rise 1, dwell := max dwell 1, ceiling := top }
                    foldVoltage := field16 (p 2) 0, foldCount := folds, tolLow := byteAt (p 2) 3
                    tolHigh := byteAt (p 2) 4, stability := byteAt (p 2) 5, points := points, blockSets := block
                    curve := curve })
                top (decide (guard < ceiling)) (decide (rise = 0 ∨ dwell = 0))))))))) ∧
  ∀ (c : ConfigRecord) (guard : Nat) (kind : CheckKind) (parts : List (List Byte)) (w : Work),
    validate c guard kind parts = .held w →
    let rampFits (r : Ramp) := r.start ≤ r.ceiling ∧ 1 ≤ r.rise ∧ 1 ≤ r.dwell ∧ r.dwell ≤ 1000
    let tailFits (t : TripTail) :=
      (1 ≤ t.collapseCount ∧ t.collapseCount ≤ 16) ∧ (1 ≤ t.offTime ∧ t.offTime ≤ 100) ∧
      (1 ≤ t.recoverWait ∧ t.recoverWait ≤ 600)
    w.params.kind = kind ∧ w.params.ceiling ≤ guard ∧ w.need = c.needOf w.params.ceiling ∧ w.need ≤ 400 ∧
    w.need ≤ c.capacity - c.reserve ∧
    (w.ceilingClamped = true → w.params.ceiling = guard) ∧
    match w.params with
    | .tripRamp p => rampFits p.ramp ∧ p.windowLow ≤ p.windowHigh ∧ p.windowHigh ≤ p.ramp.ceiling ∧ tailFits p.tail
    | .tripTime p =>
      p.preload ≤ p.overload ∧ p.timeLow ≤ p.timeHigh ∧ p.timeHigh ≤ 65534 ∧ 1 ≤ p.preDwell ∧
      (1 ≤ p.timeOut ∧ p.timeOut ≤ 60000) ∧ tailFits p.tail
    | .derate p =>
      rampFits p.ramp ∧ p.tLow ≤ p.tHigh ∧ 1 ≤ p.soakMaximum ∧ (1 ≤ p.foldCount ∧ p.foldCount ≤ 16) ∧
      (1000 ≤ p.blockSets ∧ p.blockSets ≤ 60000) ∧ p.curve.length = p.points ∧ p.points + 4 = parts.length ∧
      p.curve.Pairwise (fun a b => a.temperature < b.temperature) ∧ ∀ x ∈ p.curve, x.power ≤ 60000

/-- CANCEL of one slot: an ASSEMBLING slot of the sender and a HELD slot are vacated; an ACTIVE slot orders the engine to
abort, which SETTLE, RECOVER and an abort in progress do not heed; VACANT and DONE slots are refused. CANCEL of all slots
vacates every HELD slot and cancels the ACTIVE one, unanswered (R64, R72, R77 to R79, R138). The reply to the CANCEL of an
ACTIVE slot shows the slot after the order (log 28). -/
def Obligations.CancelRules : Prop :=
  ∀ (s : State) (h : Heard) (rest : List Heard), s.handing h rest 2 2 → s.requestPasses h.frame →
    let f := h.frame
    let s1 := s.taking rest
    let answered (n : Fin 8) (t : State) : State := if f.target = 63 then t else t.replySlot f.source n
    let cancelled (u v : State) :=
      (u.engine.phase.abortable = true →
        v = { u with engine := v.engine, port := u.port.writeDrop } ∧
        v.engine.phase = .aborting ∧ v.engine.cause = some .cancelled ∧ v.engine.noResult = false ∧
        v.engine.check = u.engine.check) ∧
      (u.engine.phase = .settle ∨ u.engine.phase = .recover ∨
        u.engine.phase = .aborting ∧ u.engine.selfCause ≠ some .cancelled → v = u)
    (∀ n : Fin 8, byteAt f.payload 0 = n.val →
      match s.slotTable.slot n with
      | .vacant | .done _ _ _ _ => exec .cancel s = .next (s1.refusing .slotTable f 10 255)
      | .assembling head _ _ _ =>
        exec .cancel s = .next
          (if head.owner = f.source then answered n (s1.withVacated n) else s1.refusing .slotTable f 3 255)
      | .held _ _ => exec .cancel s = .next (answered n (s1.withVacated n))
      | .active _ _ => ∃ t, exec .cancel s = .next (answered n t) ∧ cancelled s1 t) ∧
    (byteAt f.payload 0 = 15 → f.target = 63 →
      ∃ s2 t : State, exec .cancel s = .next t ∧
        s2 = { s1 with slotTable := { s1.slotTable with slots := s2.slotTable.slots, queue := [] } } ∧
        (∀ n : Fin 8, s2.slotTable.slot n =
          if (s.slotTable.slot n).isHeld = true then .vacant else s.slotTable.slot n) ∧
        ((∀ n : Fin 8, (s.slotTable.slot n).isActive = false) → t = s2) ∧
        ((∃ n : Fin 8, (s.slotTable.slot n).isActive = true) → cancelled s2 t))

/-- CLEAR vacates an unlocked DONE slot and shows it. FETCH of an unlocked DONE slot offers its four RESULT frames; the
slot is locked when the group is accepted whole, and keeps as it was when the group is dropped and counted; FETCH of
another slot shows it, and a locked slot is refused. STATUS is answered by the two parts of the part's status. The bytes
are those of the tables of the three replies (R24, R27, R65, R80 to R82, R91, R94, R96, R99, R105, R106). A lock held as
the entry order of the group's first frame is the model's (log 19). -/
def Obligations.ClearFetchStatus : Prop :=
  (∀ (s : State) (h : Heard) (rest : List Heard) (n : Fin 8), s.handing h rest 2 3 → s.requestPasses h.frame →
    byteAt h.frame.payload 0 = n.val →
    let s1 := s.taking rest
    exec .clear s = .next
      (match s.slotTable.slot n with
      | .vacant | .held _ _ | .active _ _ => s1.refusing .slotTable h.frame 10 255
      | .assembling _ _ _ _ => s1.refusing .slotTable h.frame 3 255
      | .done _ _ _ (some _) => s1.refusing .slotTable h.frame 4 255
      | .done _ _ _ none => (s1.withVacated n).replySlot h.frame.source n)) ∧
  (∀ (s : State) (h : Heard) (rest : List Heard) (n : Fin 8), s.handing h rest 2 4 → s.requestPasses h.frame →
    byteAt h.frame.payload 0 = n.val →
    let s1 := s.taking rest
    match s.slotTable.slot n with
    | .vacant | .assembling _ _ _ _ | .held _ _ | .active _ _ =>
      exec .fetch s = .next (s1.replySlot h.frame.source n)
    | .done _ _ _ (some _) => exec .fetch s = .next (s1.refusing .slotTable h.frame 4 255)
    | .done head work result none =>
      (s.line.queue.countP Entry.isReply ≤ 6 →
        exec .fetch s = .next (State.withSlot
          { s1 with line :=
              (s1.resultFrames h.frame.source n (resultBytes head work result)).foldl (Line.accept .slotTable) s1.line }
          n (.done head work result (some s.line.nextEntry)))) ∧
      (6 < s.line.queue.countP Entry.isReply →
        exec .fetch s = .next { s1 with line := { s1.line with replyDrops := min (s.line.replyDrops + 4) 255 } })) ∧
  (∀ (s : State) (h : Heard) (rest : List Heard), s.handing h rest 2 5 → s.requestPasses h.frame →
    let s1 := s.taking rest
    exec .status s = .next (s1.offerReplies .slotTable (s1.statusFrames h.frame.source))) ∧
  (∀ (s : State) (target : Address) (n : Fin 8), s.replySlot target n = s.offerReplies .slotTable
    [{ cls := 3, urgency := 3, source := s.address, target := target, kind := 1, payload := s.slotBytes n }])

/-- A slot becomes ACTIVE only from HELD at the head of the start queue, or as the slot that the last PART has just put
at its head, in ON_LINE, with no fault latched before the command and no BAY_RESET in progress after it. The engine was
idle, or its check has ended with the command; its record is set up for the slot, which leaves the queue (R11, R74, R75,
R125, R184, R185). The premise slotForm is the invariant of SlotFormKept. When these conditions hold and the start
conditions are examined, the head does start: the engine takes it over with a fresh record, the port gets its ceiling, and
QUIET brings a load that may stand down by a drop, begins the rest count, or closes the contactor and waits for
power-good (R125, R126, R137). -/
def Obligations.StartConditions : Prop :=
  (∀ (c : Instr) (s t : State) (n : Fin 8), s.slotForm → exec c s = .next t →
    (s.slotTable.slot n).isActive = false → (t.slotTable.slot n).isActive = true →
    t.station = .onLine ∧ t.guardUnit.resetting = none ∧ (s.guardUnit.latch = none ∨ c = .clearFault) ∧
    (s.engine.phase = .idle ∨ ∀ check ∈ s.engine.check, check.slot ≠ n →
      (t.slotTable.slot check.slot).isActive = false) ∧
    (t.engine.phase = .quiet ∨ t.engine.phase = .aborting) ∧ n ∉ t.slotTable.queue ∧
    ∀ head work, t.slotTable.slot n = .active head work →
      (s.slotTable.queue.head? = some n ∧ s.slotTable.slot n = .held head work ∨
        c = .part ∧ (∃ expected parts deadline, s.slotTable.slot n = .assembling head expected parts deadline) ∧
          ∀ m ∈ s.slotTable.queue.head?, s.goesBefore n head m) ∧
      t.engine.check = some { slot := n, priority := head.priority, params := work.params, need := work.need }) ∧
  (∀ (s : State) (n : Fin 8) (head : SlotHead) (work : Work) (rest : List (Fin 8)),
    s.station = .onLine → s.engine.phase = .idle → s.guardUnit.latch = none → s.guardUnit.resetting = none →
    s.port.hold = false → s.slotTable.queue = n :: rest → n ∉ rest → s.slotTable.slot n = .held head work →
    s.reportIdle = s.examineStart ∧
    (s.engine.carry = false ∨
        (work.params.kind = .tripRamp ∨ work.params.kind = .tripTime) ∧ work.need ≤ s.headroom.held →
      let ceiling := match work.params with
        | .tripRamp p => p.ramp.ceiling
        | .tripTime p => p.overload
        | .derate p => p.ramp.ceiling
      let engine : Engine := { Engine.reset with
        phase := .quiet, carry := s.engine.carry, startStamp := s.time
        check := some { slot := n, priority := head.priority, params := work.params, need := work.need } }
      let started (e : Engine) (p : Port) : State := { s with
        slotTable := { s.slotTable with slots := s.slotTable.slots.set n (.active head work), queue := rest }
        engine := e, port := { p with ceiling := ceiling } }
      let unloaded := s.port.applied = 0 ∧ s.port.pending = none ∧ s.port.onPort = none
      (¬ unloaded → s.examineStart = started { engine with quiet := .drop } s.port.writeDrop) ∧
      (unloaded → s.port.standing = .closed → s.examineStart =
        started { engine with quiet := .rest, restCount := 0, rest := some (later s.time 20000) } s.port) ∧
      (unloaded → s.port.standing = .opened → s.examineStart =
        started
          { engine with
            quiet := .powerGood, restCount := 0, startWait := some (later s.time (s.config.startWait * 10000)) }
          { s.port with standing := .closed, confirmedOpen := false })))

/-- The start queue holds every HELD slot once and nothing else, and an ACTIVE slot is the engine's, whatever command is
taken (R74, R75, R84, R85, R124). -/
def Obligations.SlotFormKept : Prop :=
  ∀ s t : State, s.slotForm → step s = .next t → t.slotForm

/-! ### Guard unit (10) -/

/-- TIGHTEN sets an effective limit to the value sent, brought within its range's lower end and the configured limit, and
answers with both; it is refused in DEGRADED and with a limit code above 2 (R95, R179, R180). -/
def Obligations.TightenSetsLimit : Prop :=
  ∀ (s : State) (h : Heard) (rest : List Heard), s.handing h rest 2 6 → s.requestPasses h.frame →
    let f := h.frame
    let s1 := s.taking rest
    let c := s.config
    let answered (l : Limits) (code : Nat) (now configured : List Byte) : State :=
      State.offerReplies { s1 with guardUnit := { s.guardUnit with effective := some l } } .guardUnit
        [{ cls := 3, urgency := 3, source := s.address, target := f.source, kind := 2,
           payload := byte code :: (now ++ configured) }]
    (s.station = .degraded ∨ s.guardUnit.effective = none → exec .tighten s = .next (s1.refusing .guardUnit f 2 255)) ∧
    (∀ l, s.station ≠ .degraded → s.guardUnit.effective = some l →
      let current := min (max (field16 f.payload 1) 100) c.guardCurrent
      let voltage := min (max (field16 f.payload 1) 10000) c.guardVoltage
      let temperature := min (max (signed16 f.payload 1) 0) c.guardTemperature
      (byteAt f.payload 0 = 0 →
        exec .tighten s = .next
          (answered { l with current := current } 0 (bytes16 current) (bytes16 c.guardCurrent))) ∧
      (byteAt f.payload 0 = 1 →
        exec .tighten s = .next
          (answered { l with voltage := voltage } 1 (bytes16 voltage) (bytes16 c.guardVoltage))) ∧
      (byteAt f.payload 0 = 2 →
        exec .tighten s = .next
          (answered { l with temperature := temperature } 2 (bytesSigned16 temperature)
            (bytesSigned16 c.guardTemperature))) ∧
      (2 < byteAt f.payload 0 → exec .tighten s = .next (s1.refusing .guardUnit f 6 255)))

/-- The effective limits are unset while no record is in use and are never above the configured ones, whatever command is
taken (R3, R8, R179, R180, R185). -/
def Obligations.LimitFormKept : Prop :=
  ∀ s t : State, s.limitForm → step s = .next t → t.limitForm

/-- CLEAR_FAULT without a fault is refused, and so is one whose first cause still stands. Otherwise latch and hold are
released, the start conditions are examined, and what stands of ESTOP, SAMPLES_LOST and LOAD_STAGE_SILENT is latched anew
in that order, each after the first as a further fault; the sender gets the status (R184, R64). The order of examination
and re-latching is the rule's order of text (log 23); that GUARD_T's condition does not stand while the effective limits
are unset is the model's reading (log 31). -/
def Obligations.ClearFaultRules : Prop :=
  ∀ (s : State) (h : Heard) (rest : List Heard), s.handing h rest 2 7 → s.requestPasses h.frame →
    let f := h.frame
    let s1 := s.taking rest
    let silent := s.port.onPort.any OnPort.unanswered
    let hot := match s.port.last, s.guardUnit.effective with
      | some x, some l => decide (l.temperature < x.set.temperature)
      | some _, none => false
      | none, _ => true
    let stands : Cause → Bool
      | .estop => s.port.estop
      | .samplesLost => !s.port.samplesPresent
      | .loadStageSilent => silent
      | .guardT => hot
      | _ => false
    let standing := (if s.port.estop = true then [Cause.estop] else []) ++
      ((if s.port.samplesPresent = true then [] else [Cause.samplesLost]) ++
        (if silent = true then [Cause.loadStageSilent] else []))
    let cleared : State := State.examineStart { s1 with
      guardUnit := { s.guardUnit with latch := none, further := 0 }, port := { s.port with hold := false } }
    (s.guardUnit.latch = none → exec .clearFault s = .next (s1.refusing .guardUnit f 12 255)) ∧
    (∀ cause, s.guardUnit.latch = some cause → stands cause = true →
      exec .clearFault s = .next (s1.refusing .guardUnit f 11 255)) ∧
    (∀ cause, s.guardUnit.latch = some cause → stands cause = false →
      ∃ t : State,
        exec .clearFault s = .next (t.replyStatus .guardUnit f.source) ∧
        t = standing.foldl State.latchFault cleared ∧
        t.guardUnit.latch = standing.head? ∧ t.guardUnit.further = standing.length - 1 ∧
        t.port.hold = !standing.isEmpty)

/-- BAY_RESET vacates every slot and empties the start queue, returns the effective limits to the configured ones, takes
the queued REPLY frames away, and ends the engine's check without a result: at once when the engine is idle, and otherwise
by an abort, whose end is the engine's idle report. SHED, CLAIM and a waiting CLAIM stay in the line unit, the latch, the
hold, the arrival counter, the silo and the configuration stay as well, and a BAY_RESET sent to the part is answered by
its status at its completion (R28, R35, R84, R99, R140, R142, R185). That a counted REPLY which leaves the queue takes the
collision count with it is R20's word against R35's (log 36). -/
def Obligations.BayResetRule : Prop :=
  (∀ (s : State) (h : Heard) (rest : List Heard), s.handing h rest 2 8 → s.requestPasses h.frame →
    let f := h.frame
    let leaves (e : Entry) : Bool := e.isReply && !e.sending
    let counted := ∃ e ∈ s.line.queue, leaves e = true ∧ s.line.collided = some e.entryOrder
    let line : Line := { s.line with
      silo := rest
      queue := (s.line.queue.filter (fun e => !leaves e)).map
        (fun e => if e.isReply = true then { e with removing := true } else e)
      collisions := if counted then 0 else s.line.collisions
      collided := if counted then none else s.line.collided }
    let cleared : State := { s with
      line := line
      slotTable := { slots := Vector.replicate 8 .vacant, arrival := s.slotTable.arrival, queue := [] }
      guardUnit := { s.guardUnit with
        resetting := none, effective := s.guardUnit.effective.map (fun _ => s.config.limits) } }
    (s.engine.phase = .idle → s.engine.carry = false →
      exec .bayReset s = .next
        (if f.target = 63 then cleared else cleared.offerReplies .guardUnit (cleared.statusFrames f.source))) ∧
    ∃ t, exec .bayReset s = .next t ∧
      t.slotTable = cleared.slotTable ∧
      t.guardUnit.effective = cleared.guardUnit.effective ∧
      t.guardUnit.latch = s.guardUnit.latch ∧ t.guardUnit.further = s.guardUnit.further ∧
      t.port.hold = s.port.hold ∧ t.startup = s.startup ∧ t.line.silo = rest ∧ t.line.order = s.line.order ∧
      t.line.queue.filter Entry.isShed = s.line.queue.filter Entry.isShed ∧
      (∀ e ∈ t.line.queue, e.isReply = true → e.entryOrder < s.line.nextEntry →
        e.sending = true ∧ e.removing = true) ∧
      (s.engine.phase = .idle → t.engine.phase = .idle ∧ t.guardUnit.resetting = none) ∧
      (s.engine.phase ≠ .idle →
        t.guardUnit.resetting = some { source := f.source, target := f.target } ∧ t.line = line ∧
        t.engine.phase = .aborting ∧ t.engine.noResult = true ∧ t.engine.check = s.engine.check ∧
        t.headroom = s.headroom) ∧
      (s.engine.phase ≠ .idle → s.engine.phase ≠ .aborting → t.engine.cause = none ∧ t.port.dropInPath)) ∧
  (∀ (s : State) (r : ResetRequest), s.guardUnit.resetting = some r → s.slotTable.queue = [] →
    let ended : State := { s with guardUnit := { s.guardUnit with resetting := none } }
    (s.engine.carry = false →
      s.reportIdle =
        if r.target = 63 then ended else ended.offerReplies .guardUnit (ended.statusFrames r.source)) ∧
    (∀ o ∈ s.port.onPort, o.setpoint.drop = true → s.engine.phase = .aborting → s.engine.noResult = true →
      ∃ t u : State, exec (.setpointAcknowledgement o.setpoint.value) s = .next t ∧ t = u.reportIdle.portReport ∧
        u.engine = Engine.reset ∧ u.slotTable.queue = [] ∧ u.guardUnit.resetting = some r ∧
        t.guardUnit.resetting = none ∧ t.engine.phase = .idle))

/-- A latched first cause stays until CLEAR_FAULT or power reset, and the count of further faults does not fall
(R183). -/
def Obligations.LatchStays : Prop :=
  ∀ (c : Instr) (s t : State) (cause : Cause), s.guardUnit.latch = some cause → s.guardUnit.further ≤ 255 →
    exec c s = .next t → c ≠ .clearFault → (∀ straps, c ≠ .powerReset straps) →
    t.guardUnit.latch = some cause ∧ s.guardUnit.further ≤ t.guardUnit.further

/-- The port's faults reach the latch: no sample set for 300 µs, no answer within the acknowledgement time-out, and the
emergency-stop input asserted. They abort a check in a loading phase, at once without a wait for its drop when the load
stage is silent; the input released changes its level alone. In ABORTING such a fault is a second cause: the first cause
stays, FURTHER_FAULT is set and the contactor step is remembered, save for the cause that the engine itself took first, and
LOAD_STAGE_SILENT ends the wait (R111, R119, R122, R138, R139, R141, R182, R183). -/
def Obligations.PortFaultsLatch : Prop :=
  ∀ s : State,
    let aborted (t : State) (cause : Cause) :=
      s.engine.phase.abortable = true → t.engine.phase = .aborting ∧ t.engine.cause = some cause ∧ t.port.dropInPath
    (s.station.builds = true → ∀ i ∈ s.port.watchdog, reached s.time i = true →
      ∃ t, exec .sampleWatchdogExpiry s = .next t ∧ t.latchedFrom s .samplesLost ∧ aborted t .samplesLost ∧
        t.port.watchdog = none ∧ t.port.samplesPresent = false) ∧
    (∀ o ∈ s.port.onPort, ∀ i ∈ s.port.ackTimer, reached s.time i = true →
      ∃ t, exec .acknowledgementTimerExpiry s = .next t ∧ t.latchedFrom s .loadStageSilent ∧
        t.port.onPort = some { o with unanswered := true } ∧ t.port.ackTimer = none ∧
        (s.engine.phase.abortable = true → t.engine.phase = .idle ∧ t.port.dropInPath ∧ t.headroom.need = none ∧
          ∀ check ∈ s.engine.check, ∀ head work, s.slotTable.slot check.slot = .active head work →
            ∃ r, t.slotTable.slot check.slot = .done head work r none ∧ r.cause = .loadStageSilent)) ∧
    (s.port.estop = false →
      ∃ t, exec (.emergencyStopChange true) s = .next t ∧ t.latchedFrom s .estop ∧ aborted t .estop ∧
        t.port.estop = true) ∧
    (s.port.estop = true →
      exec (.emergencyStopChange false) s = .next { s with port := { s.port with estop := false } }) ∧
    (s.engine.phase = .aborting →
      let e := s.engine
      let second (cause : Cause) : Engine :=
        if e.selfCause = some cause then { e with selfCause := none }
        else { e with furtherFault := true, mustOpen := true }
      (s.station.builds = true → ∀ i ∈ s.port.watchdog, reached s.time i = true →
        ∃ t, exec .sampleWatchdogExpiry s = .next t ∧ t.engine = second .samplesLost) ∧
      (s.port.estop = false →
        ∃ t, exec (.emergencyStopChange true) s = .next t ∧ t.engine = second .estop) ∧
      (∀ o ∈ s.port.onPort, ∀ i ∈ s.port.ackTimer, reached s.time i = true →
        ∃ t, exec .acknowledgementTimerExpiry s = .next t ∧
          (e.selfCause = some .loadStageSilent → t.engine = second .loadStageSilent) ∧
          (e.selfCause ≠ some .loadStageSilent →
            t.engine.phase = .idle ∧ t.port.standing = .opened ∧
            (e.noResult = false → ∀ check ∈ e.check, ∀ head work, s.slotTable.slot check.slot = .active head work →
              ∃ r, t.slotTable.slot check.slot = .done head work r none ∧ r.cause = e.cause.getD .none ∧
                r.furtherFault = true))))

/-- Four sets in a row above the voltage limit, four in a row above 105 % of the current limit, or sixty-four in a row
above the temperature limit latch their fault while the contactor is commanded closed; a set within a limit ends that
limit's run, whichever it is (R181). -/
def Obligations.GuardRunLatches : Prop :=
  ∀ (s : State) (l : Limits) (sets : List SampleSet),
    s.guardUnit.effective = some l → s.port.commandedClosed = true → s.guardUnit.latch = none →
    s.guardUnit.runVoltage = 0 → s.guardUnit.runCurrent = 0 → s.guardUnit.runTemperature = 0 →
    let tooHigh (x : SampleSet) := l.voltage < x.voltage
    let tooMuch (x : SampleSet) := l.current * 21 / 20 < x.current
    let tooHot (x : SampleSet) := l.temperature < x.temperature
    let within (x : SampleSet) := ¬ tooHigh x ∧ ¬ tooMuch x ∧ ¬ tooHot x
    ((∀ x ∈ sets, tooHigh x ∧ ¬ tooMuch x ∧ ¬ tooHot x) →
      (sets.length < 4 →
        s.guardSets sets = { s with guardUnit := { s.guardUnit with runVoltage := sets.length } } ∧
        ∀ x, within x → (s.guardSets sets).guardSet x = s) ∧
      (sets.length = 4 → (s.guardSets sets).latchedFrom s .guardV)) ∧
    ((∀ x ∈ sets, ¬ tooHigh x ∧ tooMuch x ∧ ¬ tooHot x) →
      (sets.length < 4 →
        s.guardSets sets = { s with guardUnit := { s.guardUnit with runCurrent := sets.length } } ∧
        ∀ x, within x → (s.guardSets sets).guardSet x = s) ∧
      (sets.length = 4 → (s.guardSets sets).latchedFrom s .guardI)) ∧
    ((∀ x ∈ sets, ¬ tooHigh x ∧ ¬ tooMuch x ∧ tooHot x) →
      (sets.length < 64 →
        s.guardSets sets = { s with guardUnit := { s.guardUnit with runTemperature := sets.length } } ∧
        ∀ x, within x → (s.guardSets sets).guardSet x = s) ∧
      (sets.length = 64 → (s.guardSets sets).latchedFrom s .guardT))

/-- The hold is set exactly while a fault is latched, a set hold keeps the contactor requested open, and a contactor
confirmed open is not requested closed, whatever command is taken (R120, R121, R183, R184). -/
def Obligations.ContactorFormKept : Prop :=
  ∀ s t : State, s.contactorForm → step s = .next t → t.contactorForm

/-! ### Feeder headroom (03) -/

/-- At the contest timer's expiry the newest frame of the silo is noted. Once it has been handed on, the contest is
decided: what the peers hold, what they asked for earlier, and the own need must fit into F − R, with the view not SUSPECT
and no shed denial. A fit is granted with HOLD(A); otherwise the unit offers DROP(H) and backs off for
B × 2^min(k, 4) + (own address mod 8) × floor(B / 8) ms (R48 to R50). The note as the order number of that frame is the
model's (log 18), and so is that a decision taken before its time changes nothing (log 1); the own SHED that still waits
for the line at the expiry is kept for R60's exception (log 35). -/
def Obligations.ContestRule : Prop :=
  ∀ s : State, s.headroom.claim = .contest →
    let u := s.headroom
    let c := s.config
    (∀ i ∈ u.contestTimer, reached s.time i = true →
      exec .contestTimerExpiry s = .next { s with headroom := { u with
        contestTimer := none
        note := some (match s.line.silo.getLast? with | none => .siloEmpty | some h => .upTo h.order)
        lateShed := (s.line.queue.find? (fun e => e.isShed && !e.sending)).map Entry.entryOrder } }) ∧
    (∀ noted ∈ u.note, ∀ own ∈ u.own, ∀ need ∈ u.need,
      let waits := ∃ order, noted = .upTo order ∧ ∃ h ∈ s.line.silo, h.order = order
      let sum := (u.peers.map Peer.held).sum +
        ((u.peers.filter (fun p => earlier p.order own)).map (fun p => match p.state with
          | .holding => 0
          | .asking a => a - p.held)).sum
      let fits := sum + need.amount ≤ c.capacity - c.reserve ∧ u.suspect = false ∧ u.denial = false
      let wait := c.backoffBase * 2 ^ min u.yields 4 + s.address.toNat % 8 * (c.backoffBase / 8)
      let decided : Headroom := { u with denial := false, own := none, askCompleted := none, note := none,
                                         lateShed := none, contestTimer := none }
      (waits → exec .contestDecision s = .next s) ∧
      (¬ waits → fits →
        exec .contestDecision s = .next (State.granted (State.offerClaim
          { s with headroom := { decided with
              claim := .holding, held := need.amount, yields := 0
              staleTimer := u.askCompleted.map (fun t => later t (2 * c.refreshPeriod * 1000)) } }
          .hold need.amount need.amount) false)) ∧
      (¬ waits → ¬ fits →
        exec .contestDecision s = .next (State.offerClaim
          { s with headroom := { decided with
              claim := .backoff, yields := min (u.yields + 1) 255
              backoffTimer := some (later s.time (wait * 10)) } }
          .drop u.held u.held)))

/-- A grant taken in CLAIMING ends the headroom wait, records the claimed amount and begins the load: a ramp from Is with
N = ceil((Ic − Is) / ΔI) steps, or a pre-load at Ip. DERATE needs its latest block good and completed after its first good
one; T_used and the band about the expected power are then fixed. It otherwise returns to SOAK and withdraws its need
(R129, R131, R137, R147, R152, R168, R170). -/
def Obligations.GrantBeginsLoading : Prop :=
  ∀ (s : State) (c : Check) (atOnce : Bool), s.engine.phase = .claiming → s.engine.check = some c →
    let e := s.engine
    let d := e.derate
    let waited : Engine := { e with
      headroomWait := e.headroomWait + (s.time - e.claimingSince).toNat, claimAmount := c.need }
    let path (v : Nat) : Port := if s.station = .offLine then s.port else s.port.writeSetpoint v
    let begun (e : Engine) (r : Ramp) : Engine := { e with
      phase := .ramp, mark := some r.start, stepCount := some ((r.ceiling - r.start + r.rise - 1) / r.rise)
      stepIndex := some 0, dwellStart := none, dwellCount := 0, runCount := 0, finalHold := false, awaiting := true }
    let fit (b : SoakBlock) := d.latest = some b ∧ b.good = true ∧ ∃ first ∈ d.firstGood, first < b.number
    (∀ p, c.params = .tripRamp p →
      s.granted atOnce = { s with
        engine := begun { waited with carried := e.carried || atOnce } p.ramp, port := path p.ramp.start }) ∧
    (∀ p, c.params = .tripTime p →
      s.granted atOnce = { s with
        engine := { waited with
          carried := e.carried || atOnce, phase := .preload, mark := some p.preload, dwellStart := none
          dwellCount := 0, runCount := 0, finalHold := false, awaiting := true }
        port := path p.preload }) ∧
    (∀ p, c.params = .derate p →
      (∀ b, fit b →
        let power := (curveAt p.curve b.average).toNat
        let band : Band :=
          { tUsed := b.average, expected := power, lower := power - power * p.tolLow / 1000,
            upper := min (power + power * p.tolHigh / 1000) 65535 }
        s.granted atOnce = { s with
          engine := begun
            { waited with derate := { d with
                soakTimer := none, openBlock := { count := 0, sum := 0, least := none, greatest := none }
                blockNumber := 0, latest := none, firstGood := none, band := some band
                powerMaximum := 0, origin := none } }
            p.ramp
          port := path p.ramp.start }) ∧
      ((¬ ∃ b, fit b) → s.granted atOnce = State.withdrawNeed { s with engine := { waited with phase := .soak } }))

/-- The other timers of the headroom unit, each at its instant: the backoff asks again, the refresh repeats HOLD(H), the
hold-stale timer orders an abort that RECOVER does not heed, a peer's entry ages out and is counted, and the view ends
being SUSPECT (R40, R41, R51 to R53, R138, R144). -/
def Obligations.HeadroomTimers : Prop :=
  ∀ s : State,
    let u := s.headroom
    (u.claim = .backoff → ∀ need ∈ u.need, ∀ i ∈ u.backoffTimer, reached s.time i = true →
      exec .backoffTimerExpiry s = .next (State.offerClaim
        { s with headroom := { u with claim := .askQueued, backoffTimer := none } } .ask u.held need.amount)) ∧
    (u.claim = .holding → ∀ i ∈ u.refreshTimer, reached s.time i = true →
      exec .refreshTimerExpiry s = .next (State.offerClaim
        { s with headroom := { u with refreshTimer := none } } .hold u.held u.held)) ∧
    (u.claim = .holding → ∀ i ∈ u.staleTimer, reached s.time i = true →
      let stale : State := { s with headroom := { u with staleTimer := none } }
      ((s.engine.phase.abortable = true ∨ s.engine.phase = .settle) →
        ∃ after : Engine,
          exec .holdStaleTimerExpiry s = .next { stale with engine := after, port := s.port.writeDrop } ∧
          after.phase = .aborting ∧ after.cause = some .holdStale ∧ after.verdict = s.engine.verdict) ∧
      (s.engine.phase = .recover → exec .holdStaleTimerExpiry s = .next stale) ∧
      (s.engine.phase = .idle → exec .holdStaleTimerExpiry s = .next
        (if s.engine.carry = true then
          State.withdrawNeed { stale with engine := { s.engine with carry := false } } else stale))) ∧
    (s.station.builds = true → ∀ (a : Address), ∀ e ∈ peerAt a u.peers, reached s.time e.expiry = true →
      exec (.peerEntryExpiry a) s = .next { s with headroom := { u with
        peers := u.peers.filter (fun p => p.address != a), aged := min (u.aged + 1) 255 } }) ∧
    (∀ i ∈ u.reListen, reached s.time i = true →
      exec .reListenTimerExpiry s = .next { s with headroom := { u with reListen := none, suspect := false } })

/-- In ON_LINE a run of sag-count sets below the sag threshold begins an episode, which offers one SHED with the feeder
voltage of the run's last set; a set at or above the sag clear ends it; outside ON_LINE the detector stands still (R57,
R58, R90). -/
def Obligations.SagRun : Prop :=
  ∀ (s : State) (sets : List SampleSet) (x : SampleSet),
    let c := s.config
    let u := s.headroom
    (s.station = .onLine → u.sagEpisode = false → u.sagRun = 0 → (∀ y ∈ sets, y.feeder < c.sagThreshold) →
      (sets.length < c.sagCount →
        s.headroomSets sets = { s with headroom := { u with sagRun := sets.length } } ∧
        (c.sagThreshold ≤ x.feeder → (s.headroomSets sets).headroomSet x = s)) ∧
      (sets.length + 1 = c.sagCount → x.feeder < c.sagThreshold →
        s.headroomSets (sets ++ [x]) = { s with
          headroom := { u with sagRun := c.sagCount, sagEpisode := true }
          line := s.line.offerShed
            { cls := 0, urgency := 0, source := s.address, target := 63, kind := 0,
              payload := byte s.address.toNat :: bytes16 x.feeder } })) ∧
    (s.station = .onLine → u.sagEpisode = true →
      s.headroomSet x =
        if c.sagClear ≤ x.feeder then { s with headroom := { u with sagEpisode := false, sagRun := 0 } } else s) ∧
    (s.station ≠ .onLine → s.headroomSet x = s)

/-- The own claim carries in each of its states the hold, the need and the timers that the table before R43 gives it:
BARRED and IDLE no hold and no need, ASK_QUEUED, CONTEST and BACKOFF a need above the hold and within 400 FU, HOLDING a
hold of 1..400 FU and at most a need within it, each with its own timers alone. Outside ON_LINE and OFF_LINE it is BARRED.
Beside it every slot and the engine's check have a need of 1..400 FU, whatever command is taken (R43 to R56, R73). -/
def Obligations.ClaimFormKept : Prop :=
  ∀ s t : State, s.claimForm → step s = .next t → t.claimForm

/-- A hold comes down only to an amount that covers the need of the applied setpoint, or with the contactor confirmed
open. A need stated is asked for in IDLE and above a hold, and granted at once within a hold, which is then lowered to it;
a need withdrawn ends the ask, the contest, the backoff or the hold, and a hold above zero is lowered to zero. RELEASE
keeps the need of a granted trip check whose claim is HOLDING, for the next trip check whose need the hold covers, and
withdraws every other (R45 to R47, R51, R54 to R56, R129, R137). At the port's report a hold with a reduction target comes
down when its condition is met, and in OFF_LINE a claim still HOLDING enters BARRED when the load is off. That an ask withdrawn from the waiting place stays the
CLAIM last offered is log 32; that a hold is lowered by the applied setpoint as known is log 33. -/
def Obligations.LowerOnlyWhenLoadIsOff : Prop :=
  (∀ (c : Instr) (s t : State), s.headroom.claim = .holding → exec c s = .next t →
    t.headroom.held < s.headroom.held →
    t.config.needOf t.port.applied ≤ t.headroom.held ∨ t.port.confirmedOpen = true) ∧
  (∀ (s : State) (amount priority : Nat),
    let u := s.headroom
    let stated : Headroom := { u with need := some { amount := amount, priority := priority }, priority := priority }
    (u.claim = .idle → s.stateNeed amount priority =
      State.offerClaim { s with headroom := { stated with claim := .askQueued } } .ask 0 amount) ∧
    (u.claim = .holding → u.held < amount → s.stateNeed amount priority =
      State.offerClaim
        { s with headroom := { stated with
            claim := .askQueued, target := none, refreshTimer := none, staleTimer := none } } .ask u.held amount) ∧
    (u.claim = .holding → amount = u.held → s.stateNeed amount priority =
      { s with headroom := { stated with target := none } }) ∧
    (u.claim = .holding → amount < u.held →
      let carried : State := State.offerClaim { s with headroom := { stated with target := some amount } } .hold amount
        amount
      s.stateNeed amount priority =
        if s.port.applied = 0 then
          { carried with headroom := { carried.headroom with held := amount, target := none } }
        else { s with headroom := { stated with target := some amount } }) ∧
    (u.claim = .barred ∨ u.claim = .askQueued ∨ u.claim = .contest ∨ u.claim = .backoff →
      s.stateNeed amount priority = s)) ∧
  (∀ (s : State) (c : Check), s.headroom.claim = .holding → c.need ≤ s.headroom.held →
    s.enterClaiming c = State.granted (State.stateNeed
      { s with engine := { s.engine with phase := .claiming, claimingSince := s.time, carry := false } }
      c.need c.priority) true) ∧
  (∀ s : State,
    let u := s.headroom
    let gone : Headroom := { u with need := none, yields := 0, claim := .idle }
    let down (v : State) : State :=
      let w : State := { v with headroom := { v.headroom with claim := .holding, target := some 0 } }
      let x := w.offerClaim .drop 0 0
      if s.config.needOf s.port.applied = 0 ∨ s.port.confirmedOpen = true then
        { x with headroom := { x.headroom with
            held := 0, target := none, claim := .idle, refreshTimer := none, staleTimer := none, yields := 0 } }
      else w
    let ended (v : State) : State := if u.held = 0 then v else down v
    let unsent (e : Entry) : Bool := e.isClaim && !e.sending
    let counted := ∃ e ∈ s.line.queue, unsent e = true ∧ s.line.collided = some e.entryOrder
    (u.need = none → s.withdrawNeed = s) ∧
    (u.need.isSome = true →
      (u.claim = .askQueued → ∀ w, s.line.waiting = some w → s.withdrawNeed =
        ended { s with line := { s.line with waiting := none }, headroom := gone }) ∧
      (u.claim = .askQueued → s.line.waiting = none → s.withdrawNeed =
        ended { s with
          line := { s.line with
            queue := s.line.queue.filter (fun e => !unsent e)
            collisions := if counted then 0 else s.line.collisions
            collided := if counted then none else s.line.collided }
          headroom := { gone with current := none } }) ∧
      (u.claim = .contest → s.withdrawNeed =
        ended (State.offerClaim
          { s with headroom := { gone with
              contestTimer := none, note := none, lateShed := none, own := none, denial := false
              askCompleted := none } } .drop 0 0)) ∧
      (u.claim = .backoff → s.withdrawNeed = ended { s with headroom := { gone with backoffTimer := none } }) ∧
      (u.claim = .holding → s.withdrawNeed = down { s with headroom := { u with need := none } }))) ∧
  (∀ (s : State) (c : Check), s.engine.check = some c →
    let keeps := (c.params.kind = .tripRamp ∨ c.params.kind = .tripTime) ∧ s.engine.claimAmount ≠ 0 ∧
      s.headroom.claim = .holding
    ∃ u : State, s.release = u.reportIdle ∧ u.engine = { Engine.reset with carry := decide keeps } ∧
      u.headroom = if keeps then s.headroom else s.withdrawNeed.headroom) ∧
  (∀ (s : State) (n : Fin 8) (h : SlotHead) (w : Work), s.engine.carry = true →
    let covered := (w.params.kind = .tripRamp ∨ w.params.kind = .tripTime) ∧ w.need ≤ s.headroom.held
    (s.port.hold = false →
      (s.handOver n h w).engine.phase = .quiet ∧ (s.handOver n h w).engine.carry = decide covered ∧
      (s.handOver n h w).headroom = if covered then s.headroom else s.withdrawNeed.headroom) ∧
    (s.startable = none → s.guardUnit.resetting = none →
      s.reportIdle = State.withdrawNeed { s with engine := { s.engine with carry := false } })) ∧
  (∀ s : State,
    let u := s.headroom
    let off := s.port.applied = 0 ∨ s.port.confirmedOpen = true
    (s.station = .offLine →
      (u.claim = .holding → off → s.portReport = { s with headroom := { u with
        claim := .barred, held := 0, need := none, target := none, refreshTimer := none, staleTimer := none } }) ∧
      (u.claim ≠ .holding ∨ ¬ off → s.portReport = s)) ∧
    (s.station ≠ .offLine →
      (u.claim ≠ .holding ∨ u.target = none → s.portReport = s) ∧
      (u.claim = .holding → ∀ amount ∈ u.target,
        let within := s.config.needOf s.port.applied ≤ amount ∨ s.port.confirmedOpen = true
        let announced (kind : ClaimKind) (after : Headroom → Headroom) : State :=
          let x := s.offerClaim kind amount amount
          { x with headroom := after x.headroom }
        (u.need = none → within → amount = 0 → s.portReport = announced .drop (fun v => { v with
          held := 0, target := none, claim := .idle, refreshTimer := none, staleTimer := none, yields := 0 })) ∧
        (u.need = none → within → amount ≠ 0 →
          s.portReport = announced .drop (fun v => { v with held := amount, target := none })) ∧
        (u.need.isSome = true → s.port.applied = 0 →
          s.portReport = announced .hold (fun v => { v with held := amount, target := none })) ∧
        (u.need = none ∧ ¬ within ∨ u.need.isSome = true ∧ s.port.applied ≠ 0 → s.portReport = s))))

/-! ### Instrument port (06) -/

/-- A read begins when the path is free and is held otherwise. A write takes PENDING to ON_PORT, limited to the smaller of
the check's ceiling and the effective guard current, and begins only on a free path with ON_PORT empty, in a station state
that writes. Its end starts the acknowledgement timer and lets a held read go first (R112, R116, R123). A set that is ready
while the path is busy is held in the model's own mark, one at most (log 14); that a write's end finds ON_PORT empty, and
then keeps the timer, follows from an answer during the write (log 15); and that a WRITE_BEGIN changes nothing where no
write may begin is the model's choice (log 1). A setpoint written replaces a pending one and is discarded while a drop is
in the path; a drop replaces a pending setpoint and merges with a drop in the path (R114, R115). The premise pathForm is
the invariant of PathFormKept. -/
def Obligations.PortTransactions : Prop :=
  (∀ (p : Port) (v : Nat), p.pathForm →
    (p.dropInPath → p.writeSetpoint v = p ∧ p.writeDrop = p) ∧
    (¬ p.dropInPath →
      p.writeSetpoint v = { p with pending := some { value := v, drop := false } } ∧
      p.writeDrop = { p with pending := some { value := 0, drop := true } })) ∧
  ∀ s : State,
    (exec .sampleReadBegin s = .next { s with port :=
      (if s.port.path = .free then { s.port with path := .reading } else { s.port with readWaiting := true }) }) ∧
    (∀ x ∈ s.port.pending,
      let ready := s.station.writes = true ∧ s.port.onPort = none ∧ s.port.path = .free ∧ s.port.readWaiting = false
      let limit := min s.port.ceiling s.effectiveCurrent
      (ready → exec .writeBegin s = .next { s with port := { s.port with
        pending := none, path := .writing
        onPort := some { setpoint := { x with value := min x.value limit }, unanswered := false } } }) ∧
      (¬ ready → exec .writeBegin s = .next s)) ∧
    (s.port.path = .writing → exec .writeEnd s = .next { s with port := { s.port with
      path := if s.port.readWaiting = true then .reading else .free
      readWaiting := false
      ackTimer := if s.port.onPort = none then s.port.ackTimer
        else some (later s.time (s.config.ackTimeout * 10)) } })

/-- A sample set at the end of its read is brought into range, stamped, and renews the watchdog in JOINING and ON_LINE; it
sets the confirmed-open mark when power-good is absent with the contactor commanded open, and clears it when power-good is
present. The set is offered to the guard unit, the check engine and the headroom unit, the first two in either order, which
the command names (log 11); a contactor newly confirmed open is reported to the headroom unit before that (log 37). In RAMP
the engine has taken its current into the peak current, the CLIPPED flag and the last current (R108, R109, R111, R112,
R121, R125, R146, R181). That a set held while the path was busy is read next is kept in the model's own mark (log 14). -/
def Obligations.SampleSetTaken : Prop :=
  ∀ (s : State) (r : ReportedSet) (order : SetOrder), s.port.path = .reading → r.voltage ≤ 65535 →
    let x : SampleSet :=
      { voltage := r.voltage, current := min r.current 8000
        temperature := max (-400) (min r.temperature 1500), feeder := min r.feeder 6000
        powerGood := r.powerGood, alert := r.alert, clipped := decide (8000 < r.current) }
    let confirmed :=
      if r.powerGood = true then false else if s.port.commandedClosed = true then s.port.confirmedOpen else true
    let taken : State := { s with port := { s.port with
      last := some { set := x, stamp := s.time }, samplesPresent := true, confirmedOpen := confirmed
      path := if s.port.readWaiting = true then .reading else .free
      readWaiting := false
      watchdog := if s.station.builds = true then some (later s.time 3) else s.port.watchdog } }
    let u : State := if confirmed = true ∧ s.port.confirmedOpen = false then taken.portReport else taken
    ∃ t, exec (.sampleSetArrival r order) s = .next t ∧
      t = (match order with
        | .guardFirst => ((u.guardSet x).engineSet x).headroomSet x
        | .engineFirst => ((u.engineSet x).guardSet x).headroomSet x) ∧
      t.port.last = some { set := x, stamp := s.time } ∧
      t.port.samplesPresent = true ∧ t.port.readWaiting = false ∧
      t.port.path = (if s.port.readWaiting = true then .reading else .free) ∧
      t.port.onPort = s.port.onPort ∧ t.port.applied = s.port.applied ∧ t.port.estop = s.port.estop ∧
      (s.station.builds = true → t.port.watchdog = some (later s.time 3)) ∧
      (r.powerGood = true → t.port.confirmedOpen = false) ∧
      (s.engine.check = none → r.powerGood = false →
        t.port.confirmedOpen = (if s.port.commandedClosed = true then s.port.confirmedOpen else true)) ∧
      (∀ check ∈ s.engine.check, t.engine.check = s.engine.check → t.engine.phase = .ramp →
        t.engine.peakCurrent = max s.engine.peakCurrent (min r.current 8000) ∧
        t.engine.clipped = (s.engine.clipped || decide (8000 < r.current)) ∧
        t.engine.trip.lastCurrent = min r.current 8000)

/-- An acknowledgement that repeats the value ON_PORT applies it; any other value, or an acknowledgement of nothing, is a
LOAD_STAGE_MISMATCH that applies nothing. Either way ON_PORT is empty after it. Nothing but an acknowledgement or power
reset changes the applied setpoint (R117 to R119, R183). -/
def Obligations.AcknowledgementRule : Prop :=
  (∀ (s : State) (v : Nat),
    (s.port.onPort = none →
      ∃ t, exec (.setpointAcknowledgement v) s = .next t ∧ t.latchedFrom s .loadStageMismatch ∧
        t.port.applied = s.port.applied ∧ t.port.onPort = none ∧ t.port.ackTimer = s.port.ackTimer) ∧
    (∀ o ∈ s.port.onPort,
      ∃ t, exec (.setpointAcknowledgement v) s = .next t ∧ t.port.onPort = none ∧ t.port.ackTimer = none ∧
        (v = o.setpoint.value →
          t.port.applied = v ∧ t.guardUnit.latch = s.guardUnit.latch ∧ t.guardUnit.further = s.guardUnit.further) ∧
        (v ≠ o.setpoint.value → t.port.applied = s.port.applied ∧ t.latchedFrom s .loadStageMismatch))) ∧
  (∀ (c : Instr) (s t : State), exec c s = .next t → t.port.applied ≠ s.port.applied →
    (∃ v, c = .setpointAcknowledgement v ∧ t.port.applied = v) ∨
    (∃ straps, c = .powerReset straps ∧ t.port.applied = 0))

/-- What a matching acknowledgement does for the engine. The newest setpoint's starts the dwell of RAMP or PRELOAD, fixes
the step instant of STEP, and in SETTLE ends the check or begins its recovery; a drop's lets QUIET close the contactor and
ends an abort, with the contactor opened for the causes that call for it. A check that ends hands its result back with
every field of R97 and R98, and its owner is told by a DONE_NOTE within the quota (R76, R95, R97, R98, R126, R130,
R135 to R137, R139, R140, R153). -/
def Obligations.AcknowledgementMovesEngine : Prop :=
  ∀ (s : State) (o : OnPort), s.port.onPort = some o →
    let e := s.engine
    let v := o.setpoint.value
    let s1 : State := { s with port := { s.port with onPort := none, ackTimer := none, applied := v } }
    let out := exec (.setpointAcknowledgement v) s
    (∀ c ∈ e.check, o.setpoint.drop = false → s.port.pending = none →
      (e.phase = .ramp ∨ e.phase = .preload →
        out = .next (State.portReport { s1 with engine := { e with
          awaiting := false, dwellStart := some s.time, dwellCount := 0 } })) ∧
      (∀ p, c.params = .tripTime p → e.phase = .step →
        out = .next (State.portReport { s1 with engine := { e with
          awaiting := false, dwellStart := some s.time, dwellCount := 0
          trip := { e.trip with
            stepInstant := some s.time, timeOut := some (later s.time (p.timeOut * 10)) } } })) ∧
      (e.phase = .settle → e.tripped = true →
        ∃ t, out = .next t ∧ t.port.standing = .opened ∧
          t.engine = { e with
            awaiting := false, phase := .recover
            offTime := some (later s.time (match c.params with
              | .tripRamp p => p.tail.offTime * 1000
              | .tripTime p => p.tail.offTime * 1000
              | .derate _ => 20000)) }) ∧
      (e.phase = .settle → e.tripped = false →
        ∃ t, out = .next t ∧
          ∀ head work, s.slotTable.slot c.slot = .active head work →
            ∃ r, t.slotTable.slot c.slot = .done head work r none ∧ r.endStamp = s.time ∧ s.reports r ∧
              s.noted t c.slot head r ∧ r.cause = e.cause.getD .none ∧
              ∀ d ∈ e.verdict, r.verdict = d.verdict ∧ r.measured = d.measured)) ∧
    (o.setpoint.drop = true → e.phase = .quiet → e.quiet = .drop → s.port.standing = .opened → s.port.hold = false →
      out = .next (State.portReport { s1 with
        engine := { e with
          quiet := .powerGood, restCount := 0, startWait := some (later s.time (s.config.startWait * 10000)) }
        port := { s1.port with standing := .closed, confirmedOpen := false } })) ∧
    (o.setpoint.drop = true → e.phase = .aborting → e.noResult = false → ∀ c ∈ e.check,
      ∃ t, out = .next t ∧
        (s.slotTable.queue = [] →
          (e.mustOpen = true ∨ (∃ cause ∈ e.cause, cause ∈ [Cause.estop, .guardV, .guardI, .loadStageSilent,
            .loadStageMismatch, .samplesLost, .recoverFailed]) → t.port.standing = .opened) ∧
          (e.mustOpen = false → (∀ cause ∈ e.cause, cause ∉ [Cause.estop, .guardV, .guardI, .loadStageSilent,
            .loadStageMismatch, .samplesLost, .recoverFailed]) → t.port.standing = s.port.standing)) ∧
        ∀ head work, s.slotTable.slot c.slot = .active head work →
          ∃ r, t.slotTable.slot c.slot = .done head work r none ∧ s.reports r ∧ s.noted t c.slot head r ∧
            r.cause = e.cause.getD .none ∧
            (e.verdict = none → r.verdict = .aborted ∧ r.measured = 0) ∧
            ∀ d ∈ e.verdict, r.verdict = d.verdict ∧ r.measured = d.measured)

/-- A drop in the setpoint path is zero and nothing waits behind a drop ON_PORT, whatever command is taken (R113 to
R116). -/
def Obligations.PathFormKept : Prop :=
  ∀ s t : State, s.port.pathForm → step s = .next t → t.port.pathForm

/-- The contactor becomes commanded closed only with no fault latched, and only with the applied setpoint zero and the
setpoint path empty, also at the end of an off-time (R120, R126, R136). In RECOVER the load is off and nothing is on its
way to it, and in SETTLE the newest setpoint of the path is zero, whatever command is taken (R135, R136). -/
def Obligations.CloseOnlyUnloaded : Prop :=
  (∀ (c : Instr) (s t : State), s.port.pathForm → s.contactorForm → s.unloadedForm → s.port.commandedClosed = false →
    exec c s = .next t → t.port.commandedClosed = true →
    t.guardUnit.latch = none ∧ t.port.applied = 0 ∧ t.port.pending = none ∧ t.port.onPort = none) ∧
  (∀ s t : State, s.port.pathForm → s.stationForm → s.unloadedForm → step s = .next t → t.unloadedForm)

/-! ### Check engine (07 to 09) -/

/-- How QUIET, SOAK and RECOVER end. The start wait and the rest timer end the check NOT_RUN with NOT_AT_REST and the
contactor requested open, the soak maximum NOT_RUN with SOAK_TIMEOUT and the contactor as it was; the recover wait latches
RECOVER_FAILED and aborts, with the verdict kept and the contactor requested open. Sixty-four sets in a row at rest show
rest, and one set that is not at rest begins the count again; the loss of power-good in SOAK, or in the CLAIMING of a
DERATE check, ends it NOT_RUN with NOT_AT_REST; and power-good back in time ends RECOVER with the verdict as determined
(R97, R98, R126 to R128, R136 to R138, R141, R166, R167, R183). -/
def Obligations.EngineTimersEndCheck : Prop :=
  (∀ (s : State) (c : Check) (head : SlotHead) (work : Work),
    s.engine.check = some c → s.slotTable.slot c.slot = .active head work →
    let e := s.engine
    let notRun (command : Instr) (cause : Cause) (standing : Standing) :=
      ∃ t r, exec command s = .next t ∧ t.slotTable.slot c.slot = .done head work r none ∧
        r.verdict = .notRun ∧ r.cause = cause ∧ r.measured = 0 ∧ r.endStamp = s.time ∧ s.reports r ∧
        t.guardUnit.latch = s.guardUnit.latch ∧
        (s.slotTable.queue = [] → t.engine.phase = .idle ∧ t.engine.check = none ∧ t.port.standing = standing)
    (e.phase = .quiet →
      (∀ i ∈ e.startWait, reached s.time i = true → notRun .startWaitTimerExpiry .notAtRest .opened) ∧
      (∀ i ∈ e.rest, reached s.time i = true → notRun .restTimerExpiry .notAtRest .opened)) ∧
    (e.phase = .soak ∨ e.phase = .claiming → ∀ i ∈ e.derate.soakTimer, reached s.time i = true →
      notRun .soakMaximumTimerExpiry .soakTimeout s.port.standing) ∧
    (e.phase = .recover → ∀ i ∈ e.recoverWait, reached s.time i = true →
      ∃ t, exec .recoverWaitTimerExpiry s = .next t ∧ t.latchedFrom s .recoverFailed ∧
        t.port.standing = .opened ∧ t.port.dropInPath ∧ t.engine.phase = .aborting ∧
        t.engine.cause = some .recoverFailed ∧ t.engine.verdict = e.verdict ∧
        t.engine.furtherFault = e.furtherFault ∧ t.slotTable = s.slotTable) ∧
    (∀ x : SampleSet,
      let t := s.engineSet x
      let ends (standing : Standing) (verdict : Verdict) (cause : Cause) (measured : Nat) :=
        ∃ r, t.slotTable.slot c.slot = .done head work r none ∧ r.verdict = verdict ∧ r.cause = cause ∧
          r.measured = measured ∧ r.endStamp = s.time ∧ (s.setEngine (e.sawSet x)).reports r ∧
          t.guardUnit.latch = s.guardUnit.latch ∧
          (s.slotTable.queue = [] → t.engine.phase = .idle ∧ t.engine.check = none ∧ t.port.standing = standing)
      (∀ p, c.params = .derate p → e.phase = .soak ∨ e.phase = .claiming → x.powerGood = false →
        s.port.commandedClosed = true → ends .opened .notRun .notAtRest 0) ∧
      (∀ d ∈ e.verdict, e.phase = .recover → e.recoverWait.isSome = true → x.powerGood = true →
        ends s.port.standing d.verdict (e.cause.getD .none) d.measured) ∧
      (e.phase = .recover → e.recoverWait = none ∨ x.powerGood = false →
        t.engine.phase = .recover ∧ t.engine.recoverWait = e.recoverWait ∧ t.slotTable = s.slotTable))) ∧
  (∀ (s : State) (c : Check) (sets : List (Word × SampleSet)) (x : Word × SampleSet),
    s.engine.check = some c → s.engine.phase = .quiet →
    let nominal := s.config.nominalVoltage
    let atRest (y : SampleSet) := y.current < 20 ∧ nominal - nominal / 10 ≤ y.voltage ∧
      y.voltage ≤ nominal + nominal / 10 ∧ y.powerGood = true ∧ y.alert = false
    let after := s.engineSets sets
    let last := s.engineSets (sets ++ [x])
    (s.engine.quiet = .powerGood →
      let t := s.engineSets [x]
      (x.2.powerGood = false →
        t.engine.phase = .quiet ∧ t.engine.quiet = .powerGood ∧ t.engine.startWait = s.engine.startWait) ∧
      (s.engine.restCount = 0 → x.2.powerGood = true →
        t.engine.phase = .quiet ∧ t.engine.quiet = .rest ∧ t.engine.startWait = none ∧ t.engine.rest = some (later x.1 20000) ∧
        (atRest x.2 → t.engine.restCount = 1) ∧ (¬ atRest x.2 → t.engine.restCount = 0))) ∧
    (s.engine.quiet = .rest → s.engine.restCount = 0 → (∀ y ∈ sets, atRest y.2) →
      (sets.length < 64 →
        after.engine.phase = .quiet ∧ after.engine.restCount = sets.length ∧ after.engine.rest = s.engine.rest ∧
        (¬ atRest x.2 → last.engine.phase = .quiet ∧ last.engine.restCount = 0)) ∧
      (sets.length = 63 → atRest x.2 →
        last.engine.rest = none ∧ last.engine.restCount = 0 ∧
        (∀ p, c.params = .derate p →
          last.engine.phase = .soak ∧ last.engine.derate.soakTimer = some (later x.1 (p.soakMaximum * 10000))) ∧
        (c.params.kind = .tripRamp ∨ c.params.kind = .tripTime →
          (s.headroom.claim = .idle →
            last.engine.phase = .claiming ∧ last.engine.claimingSince = x.1 ∧ last.headroom.claim = .askQueued ∧
            last.headroom.need = some { amount := c.need, priority := c.priority }) ∧
          (s.headroom.claim = .holding → c.need ≤ s.headroom.held →
            last.engine.carried = true ∧ last.engine.claimAmount = c.need ∧
            last.engine.phase = if c.params.kind = .tripRamp then .ramp else .preload)))))

/-- The timers that a check goes on after. The shed hold resumes a ramp at step 0 and TRIP_TIME in PRELOAD, the dwell
counting from the expiry when the mark has been acknowledged; the time-out ends STEP with NO_TRIP, or sets the final hold
when a run is in progress; the off-time closes the contactor and begins the recover wait (R134, R136, R148, R156, R157,
R175). That the dwell counts from the station time at which the expiry is taken is the model's reading (log 31). -/
def Obligations.EngineTimersGoOn : Prop :=
  ∀ s : State,
    let e := s.engine
    (e.phase = .frozen → ∀ i ∈ e.shedHold, reached s.time i = true →
      let dwell : Option Word := if e.awaiting = true then none else some s.time
      (e.frozenFrom = some .ramp → exec .shedHoldTimerExpiry s = .next { s with engine := { e with
        shedHold := none, frozenFrom := none, dwellStart := dwell, dwellCount := 0, phase := .ramp
        stepIndex := some 0 } }) ∧
      (e.frozenFrom ≠ some .ramp → exec .shedHoldTimerExpiry s = .next { s with engine := { e with
        shedHold := none, frozenFrom := none, dwellStart := dwell, dwellCount := 0, phase := .preload
        trip := { e.trip with stepInstant := none } } })) ∧
    (e.phase = .step → ∀ i ∈ e.trip.timeOut, reached s.time i = true →
      (e.runCount = 0 →
        ∃ after : Engine,
          exec .timeOutTimerExpiry s = .next { s with
            engine := after
            port := if s.station = .offLine then s.port else s.port.writeSetpoint 0 } ∧
          after.phase = .settle ∧ after.verdict = some { verdict := .noTrip, measured := 0 } ∧
          after.tripped = e.tripped ∧ after.check = e.check) ∧
      (0 < e.runCount → exec .timeOutTimerExpiry s = .next { s with engine := { e with
        finalHold := true, trip := { e.trip with timeOut := none } } })) ∧
    (e.phase = .recover → ∀ c ∈ e.check, ∀ i ∈ e.offTime, reached s.time i = true → s.port.hold = false →
      exec .offTimeTimerExpiry s = .next { s with
        engine := { e with
          offTime := none
          recoverWait := some (later s.time (match c.params with
            | .tripRamp p => p.tail.recoverWait * 1000
            | .tripTime p => p.tail.recoverWait * 1000
            | .derate _ => 600000)) }
        port := { s.port with standing := .closed, confirmedOpen := false } })

/-- A collapse run of C_col sets settles a trip check on the current, or the time, of its origin: TRIP_RAMP, in RAMP or
FROZEN, on the current of the set before the run's first, TRIP_TIME on the time from the step instant to the run's first
set; a run of TRIP_TIME that began in PRELOAD, in a FROZEN entered from it, or no later than the step instant, is FAIL_LOW
with 0. A shorter run settles nothing. The dwell of a step, or of the pre-load, ends at its last set: the next setpoint is
written, and at the plan's end the check settles NO_TRIP, or holds on for a run in progress, which a set that is not
collapsed then settles NO_TRIP (R130, R148 to R157). -/
def Obligations.CollapseRun : Prop :=
  (∀ (s : State) (c : Check) (first : Word × SampleSet) (others : List (Word × SampleSet)),
    s.engine.check = some c → s.engine.runCount = 0 → s.engine.trip.origin = none →
    let sets := first :: others
    let e := s.engine
    let after := (s.engineSets sets).engine
    let window (low high x : Nat) : Verdict := if x < low then .failLow else if high < x then .failHigh else .pass
    (∀ p, c.params = .tripRamp p → e.phase = .ramp ∨ e.phase = .frozen →
      (∀ x ∈ sets, x.2.voltage < p.tail.collapseVoltage) →
      (sets.length < p.tail.collapseCount →
        after.phase = e.phase ∧ after.verdict = e.verdict ∧ after.runCount = sets.length) ∧
      (sets.length = p.tail.collapseCount →
        after.phase = .settle ∧ after.shedHold = none ∧ after.finalHold = false ∧
        after.verdict = some
          { verdict := window p.windowLow p.windowHigh e.trip.lastCurrent, measured := e.trip.lastCurrent })) ∧
    (∀ p, c.params = .tripTime p → e.phase = .preload ∨ e.phase = .step ∨ e.phase = .frozen →
      (∀ x ∈ sets, x.2.voltage < p.tail.collapseVoltage) →
      (sets.length < p.tail.collapseCount →
        (after.phase = e.phase ∨ e.phase = .preload ∧ after.phase = .step) ∧ after.verdict = e.verdict ∧
        after.runCount = sets.length) ∧
      (sets.length = p.tail.collapseCount →
        after.phase = .settle ∧ after.shedHold = none ∧ after.finalHold = false ∧ after.trip.timeOut = none ∧
        let loaded := e.phase = .step ∨ e.phase = .frozen ∧ e.frozenFrom = some .step
        (loaded → ∀ instant ∈ e.trip.stepInstant, earlier instant first.1 = true →
          let t := (first.1 - instant).toNat
          after.verdict = some { verdict := window p.timeLow p.timeHigh t, measured := min t 65535 }) ∧
        (¬ loaded ∨ (∀ instant ∈ e.trip.stepInstant, earlier instant first.1 = false) →
          after.verdict = some { verdict := .failLow, measured := 0 })))) ∧
  (∀ (s : State) (c : Check) (sets : List (Word × SampleSet)) (start : Word),
    s.engine.check = some c → s.engine.finalHold = false → s.engine.dwellStart = some start →
    s.engine.dwellCount = 0 → (∀ x ∈ sets, earlier start x.1 = true) →
    let e := s.engine
    let after := s.engineSets sets
    let path (v : Nat) : Port := if s.station = .offLine then s.port else s.port.writeSetpoint v
    (∀ p, c.params = .tripRamp p → e.phase = .ramp → (∀ x ∈ sets, p.tail.collapseVoltage ≤ x.2.voltage) →
      (sets.length < p.ramp.dwell →
        after.engine.phase = .ramp ∧ after.engine.dwellCount = sets.length ∧
        after.engine.stepIndex = e.stepIndex ∧ after.port = s.port) ∧
      (sets.length = p.ramp.dwell → 0 < p.ramp.dwell → ∀ k ∈ e.stepIndex, ∀ n ∈ e.stepCount,
        (k < n → after.engine.phase = .ramp ∧ after.engine.stepIndex = some (k + 1) ∧
          after.engine.dwellStart = none ∧ after.engine.awaiting = true ∧
          after.port = path (min (p.ramp.start + (k + 1) * p.ramp.rise) p.ramp.ceiling)) ∧
        (n ≤ k → after.engine.phase = .settle ∧ after.port = path 0 ∧
          after.engine.verdict = some { verdict := .noTrip, measured := 0 }))) ∧
    (∀ p, c.params = .tripTime p → (∀ x ∈ sets, p.tail.collapseVoltage ≤ x.2.voltage) →
      (e.phase = .preload → sets.length < p.preDwell →
        after.engine.phase = .preload ∧ after.engine.dwellCount = sets.length ∧ after.port = s.port) ∧
      (e.phase = .preload → sets.length = p.preDwell → 0 < p.preDwell →
        after.engine.phase = .step ∧ after.engine.dwellStart = none ∧ after.engine.awaiting = true ∧
        after.port = path p.overload) ∧
      (e.phase = .step →
        after.engine.phase = .step ∧ after.engine.dwellCount = sets.length ∧ after.port = s.port))) ∧
  (∀ (s : State) (c : Check) (x : SampleSet), s.engine.check = some c →
    let e := s.engine
    let after := (s.engineSet x).engine
    (∀ p, c.params = .tripRamp p → e.phase = .ramp → e.finalHold = false →
      ∀ start ∈ e.dwellStart, ∀ k ∈ e.stepIndex, ∀ n ∈ e.stepCount,
      x.voltage < p.tail.collapseVoltage → e.runCount + 1 < p.tail.collapseCount →
      earlier start s.time = true → p.ramp.dwell ≤ e.dwellCount + 1 → n ≤ k →
      after.phase = .ramp ∧ after.finalHold = true ∧ after.runCount = e.runCount + 1 ∧ after.verdict = e.verdict ∧
      (s.engineSet x).port = s.port) ∧
    (∀ t, (∃ p, c.params = .tripRamp p ∧ p.tail = t ∧ e.phase = .ramp) ∨
        (∃ p, c.params = .tripTime p ∧ p.tail = t ∧ e.phase = .step) →
      e.finalHold = true → t.collapseVoltage ≤ x.voltage →
      after.phase = .settle ∧ after.verdict = some { verdict := .noTrip, measured := 0 }))

/-- A fold run of C_fold sets, in RAMP or FROZEN, settles a DERATE check on the power maximum before its first set:
TRIPPED_IN_DERATE when a set of the run showed power-good absent, and otherwise where that power lies in the band. A
shorter run settles nothing. At the end of the last step's dwell the check settles NO_FOLD with the power maximum, or
holds on for a run in progress, which a set that is not folded then settles NO_FOLD. Before the load, each W_s sets of
SOAK and CLAIMING make a block with its average and spread, good within the window and the stability limit, and a good
block takes SOAK to CLAIMING (R130, R148, R164, R165, R171 to R174). -/
def Obligations.FoldRun : Prop :=
  (∀ (s : State) (c : Check) (p : DerateParams) (band : Band) (first : Word × SampleSet)
    (others : List (Word × SampleSet)),
    s.engine.check = some c → c.params = .derate p → s.engine.phase = .ramp ∨ s.engine.phase = .frozen →
    s.engine.runCount = 0 → s.engine.derate.origin = none → s.engine.derate.band = some band →
    (∀ x ∈ first :: others, x.2.voltage < p.foldVoltage) →
    let sets := first :: others
    let power := s.engine.derate.powerMaximum
    let after := (s.engineSets sets).engine
    (sets.length < p.foldCount →
      after.phase = s.engine.phase ∧ after.verdict = s.engine.verdict ∧ after.runCount = sets.length) ∧
    (sets.length = p.foldCount →
      after.phase = .settle ∧ after.shedHold = none ∧ after.finalHold = false ∧
      after.verdict = some
        { verdict :=
            if ∃ x ∈ sets, x.2.powerGood = false then .trippedInDerate
            else if power < band.lower then .failLow else if band.upper < power then .failHigh else .pass
          measured := power })) ∧
  (∀ (s : State) (c : Check) (p : DerateParams) (sets : List (Word × SampleSet)) (start : Word),
    s.engine.check = some c → c.params = .derate p → s.engine.phase = .ramp → s.engine.finalHold = false →
    s.engine.dwellStart = some start → s.engine.dwellCount = 0 →
    (∀ x ∈ sets, earlier start x.1 = true ∧ p.foldVoltage ≤ x.2.voltage) →
    let e := s.engine
    let after := s.engineSets sets
    let path (v : Nat) : Port := if s.station = .offLine then s.port else s.port.writeSetpoint v
    let greatest := (sets.map (fun x => x.2.voltage * x.2.current / 10000)).foldl max e.derate.powerMaximum
    (sets.length < p.ramp.dwell →
      after.engine.phase = .ramp ∧ after.engine.dwellCount = sets.length ∧ after.engine.stepIndex = e.stepIndex ∧
      after.engine.derate.powerMaximum = greatest ∧ after.port = s.port) ∧
    (sets.length = p.ramp.dwell → 0 < p.ramp.dwell → ∀ k ∈ e.stepIndex, ∀ n ∈ e.stepCount,
      (k < n → after.engine.phase = .ramp ∧ after.engine.stepIndex = some (k + 1) ∧
        after.engine.dwellStart = none ∧ after.engine.derate.powerMaximum = greatest ∧
        after.port = path (min (p.ramp.start + (k + 1) * p.ramp.rise) p.ramp.ceiling)) ∧
      (n ≤ k → after.engine.phase = .settle ∧ after.port = path 0 ∧
        after.engine.verdict = some { verdict := .noFold, measured := greatest }))) ∧
  (∀ (s : State) (c : Check) (p : DerateParams) (x : SampleSet),
    s.engine.check = some c → c.params = .derate p → s.engine.phase = .ramp →
    let e := s.engine
    let after := (s.engineSet x).engine
    (∀ start ∈ e.dwellStart, ∀ k ∈ e.stepIndex, ∀ n ∈ e.stepCount,
      x.voltage < p.foldVoltage → e.runCount + 1 < p.foldCount → earlier start s.time = true →
      p.ramp.dwell ≤ e.dwellCount + 1 → n ≤ k →
      after.phase = .ramp ∧ after.finalHold = true ∧ after.runCount = e.runCount + 1 ∧ after.verdict = e.verdict ∧
      (s.engineSet x).port = s.port) ∧
    (e.finalHold = true → p.foldVoltage ≤ x.voltage →
      after.phase = .settle ∧ after.verdict = some
        { verdict := .noFold, measured := max e.derate.powerMaximum (x.voltage * x.current / 10000) })) ∧
  (∀ (s : State) (c : Check) (p : DerateParams) (sets : List (Word × SampleSet)) (least greatest : Int),
    s.engine.check = some c → c.params = .derate p → 0 < sets.length →
    s.engine.phase = .soak ∧ s.headroom.claim = .idle ∨ s.engine.phase = .claiming →
    s.engine.derate.openBlock = { count := 0, sum := 0, least := none, greatest := none } →
    (∀ x ∈ sets, x.2.powerGood = true) →
    let temperatures := sets.map (fun x => x.2.temperature)
    least ∈ temperatures → greatest ∈ temperatures → (∀ t ∈ temperatures, least ≤ t ∧ t ≤ greatest) →
    let d := s.engine.derate
    let after := s.engineSets sets
    let average := Int.tdiv temperatures.sum p.blockSets
    let good := p.tLow ≤ average ∧ average ≤ p.tHigh ∧ greatest - least ≤ p.stability
    (sets.length < p.blockSets →
      after.engine.phase = s.engine.phase ∧
      after.engine.derate = { d with openBlock :=
        { count := sets.length, sum := temperatures.sum, least := some least, greatest := some greatest } }) ∧
    (sets.length = p.blockSets →
      after.engine.derate = { d with
        openBlock := { count := 0, sum := 0, least := none, greatest := none }
        blockNumber := d.blockNumber + 1
        latest := some
          { number := d.blockNumber + 1, average := average, spread := (greatest - least).toNat, good := decide good }
        firstGood := if d.firstGood = none ∧ good then some (d.blockNumber + 1) else d.firstGood } ∧
      (s.engine.phase = .soak → good →
        after.engine.phase = .claiming ∧ after.headroom.claim = .askQueued ∧
        after.headroom.need = some { amount := c.need, priority := c.priority }) ∧
      (s.engine.phase = .soak → ¬ good → after.engine.phase = .soak ∧ after.headroom = s.headroom) ∧
      (s.engine.phase = .claiming → after.engine.phase = .claiming ∧ after.headroom = s.headroom)))

/-- The expected power of a curve of strictly rising temperatures: flat below its first and above its last point, exact at
its points, and between two points on the segment with its fraction rounded down. It is evaluated at T_used, the average
of the block that let RAMP begin (R169). -/
def Obligations.CurveIsPiecewiseLinear : Prop :=
  (∀ (d : DerateRecord) (p : DerateParams) (b : SoakBlock),
    (d.begin p b).band.map Band.tUsed = some b.average ∧
    (d.begin p b).band.map Band.expected = some (curveAt p.curve b.average).toNat) ∧
  ∀ (points : List Point) (t : Int), points.Pairwise (fun a b => a.temperature < b.temperature) →
    (∀ p rest, points = p :: rest → t ≤ p.temperature → curveAt points t = p.power) ∧
    (∀ before p, points = before ++ [p] → p.temperature ≤ t → curveAt points t = p.power) ∧
    (∀ before p q after, points = before ++ p :: q :: after → p.temperature ≤ t → t < q.temperature →
      curveAt points t =
        p.power + Int.fdiv (((q.power : Int) - p.power) * (t - p.temperature)) (q.temperature - p.temperature)) ∧
    (points ≠ [] → ∃ low ∈ points, ∃ high ∈ points, (low.power : Int) ≤ curveAt points t ∧ curveAt points t ≤ high.power)
end

