-- ==== Sys2Proof/Tests/Slice0.lean ====
section
/-!
SUPPORT. The model's own tests. Expected results come from the worked examples and tables of spec/, named in each
docstring, or are worked out by hand from the rules; no test is a statement for the provers. The witnesses at the end
show for each statement with hypotheses a state and operands that meet them.
-/

namespace Sys2Proof.Tests

open Sys2Proof.Machine

set_option Elab.async false

/-! ### Ill-formed commands: one for each check of WellFormed -/

theorem test_short_record_ill_formed : (Instr.configReadComplete (List.replicate 39 0)).wellFormed = false := by decide
theorem test_whole_record_well_formed : (Instr.configReadComplete (List.replicate 40 0)).wellFormed = true := by decide
theorem test_received_without_start_bit_ill_formed : (Instr.frameReceived 0 [true, false]).wellFormed = false := by
  decide
theorem test_error_without_start_bit_ill_formed : (Instr.receivedInError []).wellFormed = false := by decide
theorem test_entry_of_line_station_ill_formed : (Instr.peerEntryExpiry 48).wellFormed = false := by decide
theorem test_entry_of_last_bay_well_formed : (Instr.peerEntryExpiry 47).wellFormed = true := by decide
theorem test_wide_voltage_ill_formed :
    (Instr.sampleSetArrival
      { voltage := 65536, current := 0, temperature := 0, feeder := 0, powerGood := true, alert := false }
      .guardFirst).wellFormed = false := by decide

/-! ### Frames, codes and arithmetic -/

/-- The check sequence of R6 and R15, on the nine characters 1 to 9: the known value of this generator from all ones. -/
theorem test_check_sequence :
    checkSequence (bytesBits [0x31, 0x32, 0x33, 0x34, 0x35, 0x36, 0x37, 0x38, 0x39]) = 0x29B1 := by decide +kernel

/-- The header values and bits of the worked arbitration (02). -/
def shed20 : Frame := { cls := 0, urgency := 0, source := 20, target := 63, kind := 0, payload := [20, 0, 0] }
def ask9 : Frame := { cls := 1, urgency := 2, source := 9, target := 63, kind := 0, payload := [0, 0, 170, 0, 20] }
def hold3 : Frame := { cls := 1, urgency := 3, source := 3, target := 63, kind := 1, payload := [94, 1, 94, 1, 20] }
def status50 : Frame := { cls := 2, urgency := 1, source := 50, target := 9, kind := 5, payload := [] }

theorem test_headers :
    [shed20, ask9, hold3, status50].map Frame.header = [20, 393, 451, 626] := by decide

theorem test_header_bits :
    (ask9.contents.take 11) = [false, false, true, true, false, false, false, true, false, false, true] := by decide

/-- R88: eight equal bits, a stuff bit, and none after the last bit. -/
theorem test_stuff_bit :
    stuff true 0 (List.replicate 9 false) = List.replicate 8 false ++ [true, false] ∧
    stuff true 0 (List.replicate 8 false) = List.replicate 8 false := by decide

/-- R21, R88: a ninth dominant bit begins an abort run, a ninth recessive bit is an error. -/
theorem test_ninth_bits :
    readBits (List.replicate 9 false) = .abortRun ∧ readBits (false :: List.replicate 9 true) = .inError := by decide

theorem test_frame_reads_back : readBits ask9.coded = .valid ask9 := by decide +kernel

/-- A CLAIM of kind 3 is not defined (R89) and is received in error (R29). -/
theorem test_undefined_kind : readBits { ask9 with kind := 3 }.coded = .inError := by decide +kernel

/-- The record of the worked clamping (01), in R100's layout. -/
def clampedRecord : List Byte :=
  bytes16 9000 ++ bytes16 7950 ++ bytes16 940 ++ bytes16 54000 ++ [20, 20] ++ bytes16 50 ++ [0, 55, 50, 0]
    ++ bytes16 3000 ++ bytes16 60000 ++ bytes16 800 ++ bytes16 3000 ++ bytes16 2900 ++ bytes16 500 ++ [5, 5]

theorem test_worked_clamping :
    let c := clampRecord clampedRecord
    (c.1.capacity, c.1.reserve, c.1.efficiency, c.1.sagCount) = (8000, 7900, 940, 1) ∧
    (c.1.ownerLow, c.1.ownerHigh, c.1.sagThreshold, c.1.sagClear, c.2) = (48, 62, 3000, 3050, 5) := by decide +kernel

/-- R2: an instant half the range ahead has not been reached, and wraps count. -/
theorem test_wrapping_time :
    reached 5 0xFFFFFFF0 = true ∧ reached 0xFFFFFFF0 5 = false ∧ earlier 0xFFFFFFFF 0 = true ∧ earlier 7 7 = false := by
  decide

/-- The curve table and the rising segment of R169. -/
theorem test_curve :
    [300, 450, 487, 400, 519, 520, 900].map (curveAt [⟨350, 18000⟩, ⟨450, 15500⟩, ⟨520, 11200⟩]) =
      [18000, 15500, 13227, 16750, 11261, 11200, 11200] ∧
    curveAt [⟨300, 10000⟩, ⟨400, 10003⟩] 350 = 10001 := by decide

/-! ### A bay on the line -/

/-- Figures of the worked examples: F 1200, R 100, eff 940, V_nom 54,000, W_c 20 ms, B 50 ms (03, 05, 06). -/
def cfg : ConfigRecord :=
  { capacity := 1200, reserve := 100, efficiency := 940, nominalVoltage := 54000, contestWindow := 20,
    refreshPeriod := 20, backoffBase := 50, startOrder := .priorityThenArrival, ownerLow := 48, ownerHigh := 62,
    guardCurrent := 3000, guardVoltage := 60000, guardTemperature := 800, sagThreshold := 1800, sagClear := 1900,
    sagCount := 2, shedHold := 500, startWait := 5, ackTimeout := 5 }

/-- Bay 9 in ON_LINE, idle, at station time 1,000,000. -/
def online : State :=
  { State.reset with
    time := 1000000
    startup := { StartUp.reset with station := .onLine, address := some 9, config := some cfg }
    line := { Line.reset with judgement := .idle, order := 1040 }
    headroom := { Headroom.reset with claim := .idle }
    guardUnit := { GuardUnit.reset with effective := some cfg.limits } }

def withEngine (s : State) (f : Engine → Engine) : State := s.setEngine (f s.engine)
def withPort (s : State) (f : Port → Port) : State := s.setPort (f s.port)
def withHeadroom (s : State) (f : Headroom → Headroom) : State := s.setHeadroom (f s.headroom)
def withLine (s : State) (f : Line → Line) : State := s.setLine (f s.line)

/-- The state after a command; every command completes. -/
def ran (c : Instr) (s : State) : State :=
  match exec c s with
  | .next t => t
  | .fault _ | .refused _ => s

/-- A frame as the silo holds it. -/
def heard (f : Frame) : Heard := { frame := f, stamp := 999990, order := 1040 }
def holdingFrame (f : Frame) (s : State) : State := withLine s fun l => { l with silo := [heard f] }

/-- A request of station 50 to bay 9. -/
def request (kind : BitVec 5) (payload : List Byte) : Frame :=
  { cls := 2, urgency := 1, source := 50, target := 9, kind := kind, payload := payload }
def asked (kind : BitVec 5) (payload : List Byte) (s : State) : State := holdingFrame (request kind payload) s

def toAll (f : Frame) : Frame := { f with target := 63 }

/-- The payload of the last frame queued. -/
def lastPayload (s : State) : List Byte := (s.line.queue.getLast?.map (fun e => e.frame.payload)).getD []

/-- The worked TRIP_RAMP (08): Is 2000, rise 150, dwell 400, window 2500..2800, Ic 2950, C_col 4. -/
def tail : TripTail := { collapseVoltage := 40000, collapseCount := 4, offTime := 20, recoverWait := 100 }
def rampParams : RampParams :=
  { ramp := { start := 2000, rise := 150, dwell := 400, ceiling := 2950 }, windowLow := 2500, windowHigh := 2800,
    tail := tail }
def rampWork : Work :=
  { params := .tripRamp rampParams, ceilingClamped := false, dwellClamped := false, need := 170 }
def head : SlotHead := { owner := 50, kind := .tripRamp, priority := 1, arrival := 7 }
def rampCheck : Check := { slot := 2, priority := 1, params := .tripRamp rampParams, need := 170 }

/-- The worked TRIP_TIME (08): Io 4000, 500..2000, Ip 1500, C_col 3. -/
def timeParams : TimeParams :=
  { overload := 4000, timeLow := 500, timeHigh := 2000, preload := 1500, preDwell := 2000, timeOut := 1000,
    tail := { tail with collapseCount := 3 } }
def timeCheck : Check := { slot := 2, priority := 1, params := .tripTime timeParams, need := 230 }

/-- The worked DERATE (09). -/
def derateParams : DerateParams :=
  { tLow := 480, tHigh := 495, soakMaximum := 1800, ramp := { start := 2000, rise := 150, dwell := 400, ceiling := 2950 },
    foldVoltage := 48500, foldCount := 8, tolLow := 30, tolHigh := 50, stability := 8, points := 3, blockSets := 10000,
    curve := [⟨350, 18000⟩, ⟨450, 15500⟩, ⟨520, 11200⟩] }
def derateCheck : Check := { slot := 2, priority := 1, params := .derate derateParams, need := 170 }

/-- Bay 9 with a check in a phase of the engine, its slot ACTIVE and its contactor closed. -/
def running (phase : Phase) (c : Check) : State :=
  { online with
    slotTable := { online.slotTable with
      slots := online.slotTable.slots.set 2 (.active head { rampWork with params := c.params, need := c.need }) }
    engine := { Engine.reset with phase := phase, check := some c }
    port := { online.port with standing := .closed, ceiling := c.params.ceiling } }

/-- Bay 9 with slot 2 in a state. -/
def withSlot (x : Slot) : State :=
  { online with slotTable := { online.slotTable with slots := online.slotTable.slots.set 2 x } }

def heldOne : State := { withSlot (.held head rampWork) with
  slotTable := { (withSlot (.held head rampWork)).slotTable with queue := [2] } }

def result : ResultRecord := (running .settle rampCheck).engine.resultRecord 1000000

/-- A set of the converter. -/
def reading (voltage current : Nat) (powerGood : Bool) : ReportedSet :=
  { voltage := voltage, current := current, temperature := 300, feeder := 2300, powerGood := powerGood, alert := false }
def set (voltage current : Nat) (powerGood : Bool) : SampleSet := (reading voltage current powerGood).taken

/-- R54, R145: needs of the worked examples, 170, 173, 138, 230 and 87 FU. -/
theorem test_needs : [2950, 3000, 2400, 4000, 1500].map cfg.needOf = [170, 173, 138, 230, 87] := by decide

/-- R147: ceil(950 / 150) = 7 steps, the last at the ceiling. -/
theorem test_ramp_plan :
    rampParams.ramp.steps = 7 ∧ [0, 3, 6, 7].map rampParams.ramp.setpoint = [2000, 2450, 2900, 2950] := by decide

/-- R170, the worked band. -/
theorem test_band :
    bandAt derateParams 487 = { tUsed := 487, expected := 13227, lower := 12831, upper := 13888 } := by decide

/-- R171: the greatest power of a set. -/
theorem test_greatest_power : (set 65535 9000 true).power = 52428 ∧ (set 65535 9000 true).clipped = true := by decide

/-- The wait of R50 for bays 20 and 9 at k = 0: 50 + 4 × 6 and 50 + 1 × 6 ms. -/
theorem test_backoff : backoffMs cfg 20 0 = 74 ∧ backoffMs cfg 9 0 = 56 ∧ backoffMs cfg 9 9 = 806 := by decide

/-- The part data of the worked validation (05). -/
def workedParts : List (List Byte) :=
  [bytes16 2000 ++ bytes16 0 ++ bytes16 0, bytes16 2500 ++ bytes16 3300 ++ bytes16 3400,
   bytes16 38000 ++ [4, 20] ++ bytes16 100]

theorem test_worked_validation :
    validate cfg 3000 .tripRamp workedParts = .held
      { params := .tripRamp
          { ramp := { start := 2000, rise := 1, dwell := 1, ceiling := 3000 }, windowLow := 2500, windowHigh := 3000,
            tail := { collapseVoltage := 38000, collapseCount := 4, offTime := 20, recoverWait := 100 } }
        ceilingClamped := true, dwellClamped := true, need := 173 } := by decide +kernel

theorem test_worked_refusal :
    validate cfg 3000 .tripRamp (workedParts.set 1 (bytes16 2500 ++ bytes16 3500 ++ bytes16 3400)) =
      .refused .badParam 1 := by decide +kernel

/-! ### One step of each command -/

theorem test_power_reset_bay : (ran (.powerReset 9) online).startup.configRead = some ⟨86, 0, 40, 500⟩ := by decide +kernel
theorem test_power_reset_strap : (ran (.powerReset 48) online).startup.fault = some .strapInvalid := by decide +kernel
theorem test_tick_wraps : (ran .stationTimeTick { online with time := 0xFFFFFFFF }).time = 0 := by decide +kernel

/-- Bay 9 in LOADING, its configuration read running. -/
def loading : State := { (ran (.powerReset 9) State.reset) with time := 500 }
def goodRecord : List Byte :=
  let b := clampedRecord ++ List.replicate 8 0
  b ++ bytes16 (checkSequence (bytesBits b)).toNat
/-- Bay 9 in SELF_LOOP and in JOINING, the timer of the state run out. -/
def looping : State := { (ran (.configReadComplete goodRecord) loading) with time := 600 }
def joining : State :=
  { (ran (.loopedFrameReceived (testFrame 9).coded) looping) with time := 150600 }

theorem test_config_complete : looping.station = .selfLoop ∧ looping.startup.clampCount = 5 := by decide +kernel
theorem test_config_bad :
    (ran (.configReadComplete (goodRecord.set 0 1)) loading).startup.fault = some .configBad := by decide +kernel
theorem test_config_unreadable :
    (ran .configReadNotAcknowledged loading).station = .degraded ∧
    (ran .configReadTimeout loading).startup.fault = some .configUnreadable ∧
    ran .configReadTimeout { loading with time := 499 } = { loading with time := 499 } := by decide +kernel
theorem test_loop_joins : joining.station = .joining ∧ joining.port.pending = some ⟨0, true⟩ := by decide +kernel
theorem test_loop_fails :
    (ran (.loopedFrameReceived []) looping).startup.fault = some .loopFailed ∧
    (ran .selfLoopTimeout looping).station = .offLine := by decide +kernel
/-- R5, R9: at the very instant of its limit a record, or the test frame, is in time, and one unit later it is not
(log 34). -/
theorem test_late_record :
    (ran (.configReadComplete goodRecord) { loading with time := 501 }).startup.fault = some .configUnreadable ∧
    earlier 500 (501 : Word) = true ∧ earlier 500 (500 : Word) = false := by decide +kernel
theorem test_late_loop :
    (ran (.loopedFrameReceived (testFrame 9).coded) { looping with time := 601 }).startup.fault = some .loopFailed ∧
    looping.startup.loopTimer = some 600 := by decide +kernel
theorem test_join_ends :
    (ran .joinTimerExpiry joining).station = .onLine ∧ (ran .joinTimerExpiry joining).headroom.claim = .idle := by
  decide +kernel

/-- The transmit queue of the worked queue (02): the ASK goes before the RESULT group. -/
def queued : State := withLine online fun l =>
  Line.offerClaim ask9 (Line.offerReplies .slotTable (online.resultGroup 50 2 head rampWork result) l)
def sending : State := ran .transmitStart queued

theorem test_worked_queue :
    sending.line.queue.map (fun e => (e.frame.header, e.frame.kind.toNat, e.sending)) =
      [(393, 0, true), (969, 4, false), (969, 5, false), (969, 6, false), (969, 7, false)] := by decide +kernel

/-- The contest begins when the current ASK completes (R45): here ASK_QUEUED with need 170. -/
def claiming : State := withHeadroom sending fun u =>
  { u with claim := .askQueued, need := some ⟨170, 1⟩, current := some ⟨.ask, 0, 170⟩ }
def contesting : State := ran .frameSent claiming

theorem test_own_ask_completes :
    contesting.headroom.claim = .contest ∧ contesting.headroom.own = some 1041 ∧
    contesting.headroom.contestTimer = some 1000200 := by decide +kernel
theorem test_arbitration_lost :
    (ran .arbitrationLost sending).line.judgement = .receiving 1000000 ∧
    (ran .arbitrationLost sending).line.queue = queued.line.queue := by decide +kernel

/-- R20, R25: a waiting CLAIM replaces the ASK that lost the arbitration, and takes no count with it. -/
def waitingBehind : State := withLine sending fun l =>
  { l with waiting := some { ask9 with kind := 2 }, collided := some 4, collisions := 1 }
theorem test_waiting_claim_replaces :
    (ran .arbitrationLost waitingBehind).line.collisions = 0 ∧
    ((ran .arbitrationLost waitingBehind).line.queue.map fun e => (e.frame.kind, e.entryOrder)).head? = some (2, 5) := by
  decide +kernel

/-- The third collision of one frame (R20). -/
def colliding : State := withLine sending fun l => { l with collided := some 4, collisions := 2 }
theorem test_third_collision :
    (ran .sendCollision colliding).startup.fault = some .dupAddress ∧
    (ran .sendCollision colliding).line.queue = [] ∧ (ran .sendCollision sending).line.collisions = 1 := by
  decide +kernel

theorem test_frame_heard :
    (ran (.frameReceived 999000 hold3.coded) online).line.silo = [⟨hold3, 999000, 1041⟩] ∧
    (ran (.frameReceived 999000 { status50 with target := 8 }.coded) online).line.silo = [] := by decide +kernel
theorem test_silo_overrun :
    let full := withLine online fun l => { l with silo := List.replicate 8 (heard hold3) }
    (ran (.frameReceived 5 shed20.coded) full).line.overruns = 1 ∧
    (ran (.frameReceived 5 shed20.coded) full).headroom.suspect = true := by decide +kernel
theorem test_received_in_error :
    (ran (.receivedInError [false, true]) online).line.receiveErrors = 1 ∧
    (ran (.receivedInError [false, true]) online).headroom.reListen = some 1060000 := by decide +kernel
theorem test_abort_run : (ran .abortRunSeen online).line = { online.line with judgement := .busy } := by decide +kernel
theorem test_line_idle :
    (ran .lineIdle (withLine online fun l => { l with judgement := .busy })).line.judgement = .idle := by decide +kernel

theorem test_hold_enters_view :
    (ran .hold (holdingFrame hold3 online)).headroom.peers =
      [{ address := 3, state := .holding, held := 350, order := 1040, heard := 999990, period := 20,
         expiry := 1059990 }] := by decide +kernel
theorem test_ask_and_drop :
    let s := ran .ask (holdingFrame { ask9 with source := 12, payload := [0, 0, 250, 0, 0] } online)
    s.headroom.peers.map (fun p => (p.address, p.state, p.period)) = [(12, .asking 250, 50)] ∧
    (ran .drop (holdingFrame { ask9 with source := 12, kind := 2, payload := [0, 0, 0, 0, 20] } s)).headroom.peers =
      [] := by decide +kernel

/-- The worked contest (03): S = 350 + 300 + 250 = 900 at bay 9; 170 more fit 1100, 270 would not. -/
def peer (a : Address) (state : PeerState) (held : Nat) (order : Word) : Peer :=
  { address := a, state := state, held := held, order := order, heard := 0, period := 20, expiry := 60000 }
def peers : List Peer :=
  [peer 3 .holding 350 1000, peer 7 .holding 300 1001, peer 12 (.asking 250) 0 1041, peer 20 (.asking 200) 0 1044]
def deciding (need : Nat) : State := withHeadroom online fun u =>
  { u with
    peers := peers, claim := .contest, own := some 1043, need := some ⟨need, 1⟩, note := some .siloEmpty
    askCompleted := some 999800 }

theorem test_worked_contest :
    contestSum 1043 peers = 900 ∧ (ran .contestDecision (deciding 170)).headroom.claim = .holding ∧
    (ran .contestDecision (deciding 170)).headroom.staleTimer = some 1039800 := by decide +kernel
theorem test_contest_yields :
    (ran .contestDecision (deciding 201)).headroom.claim = .backoff ∧
    (ran .contestDecision (deciding 201)).headroom.backoffTimer = some 1000560 := by decide +kernel
theorem test_contest_notes_silo :
    let s := withHeadroom (holdingFrame shed20 (deciding 170)) fun u => { u with note := none, contestTimer := some 1000000 }
    (ran .contestTimerExpiry s).headroom.note = some (.upTo 1040) ∧
    ran .contestDecision (ran .contestTimerExpiry s) = ran .contestTimerExpiry s := by decide +kernel

/-- A hold of 170 FU with every timer of the headroom unit run out. -/
def holding : State := withHeadroom online fun u =>
  { u with
    peers := [{ peer 3 .holding 350 1000 with expiry := 1000000 }], claim := .holding, held := 170
    need := some ⟨170, 1⟩, refreshTimer := some 1000000, staleTimer := some 1000000, reListen := some 1000000
    suspect := true }
def backing : State := withHeadroom online fun u =>
  { u with claim := .backoff, need := some ⟨170, 1⟩, backoffTimer := some 1000000 }

theorem test_headroom_timers :
    (ran .backoffTimerExpiry backing).headroom.current = some ⟨.ask, 0, 170⟩ ∧
    (ran .refreshTimerExpiry holding).headroom.current = some ⟨.hold, 170, 170⟩ ∧
    (ran .holdStaleTimerExpiry { running .ramp rampCheck with headroom := holding.headroom }).engine.cause =
      some .holdStale := by decide +kernel
theorem test_view_timers :
    (ran (.peerEntryExpiry 3) holding).headroom.aged = 1 ∧ (ran (.peerEntryExpiry 4) holding) = holding ∧
    (ran .reListenTimerExpiry holding).headroom.suspect = false := by decide +kernel

theorem test_open :
    (ran .openSlot (asked 0 [2, 1, 1, 3] online)).slotTable.slot 2 =
      .assembling { owner := 50, kind := .tripRamp, priority := 1, arrival := 1 } 3 [] 1004990 := by decide +kernel
theorem test_open_busy :
    lastPayload (ran .openSlot (asked 0 [2, 1, 1, 3] heldOne)) = [0, 2, 3, 255] := by decide +kernel

def assembling (parts : List (List Byte)) : State := withSlot (.assembling head 3 parts 1000000)
def lastPart : List Byte := [2, 2] ++ bytes16 38000 ++ [4, 20] ++ bytes16 100

theorem test_part_stored :
    (ran .part (asked 1 ([2, 0] ++ bytes16 2000 ++ bytes16 0 ++ bytes16 0) (assembling []))).slotTable.slot 2 =
      .assembling head 3 [bytes16 2000 ++ bytes16 0 ++ bytes16 0] 1000000 := by decide +kernel
theorem test_last_part_starts :
    ((ran .part (asked 1 lastPart (assembling (workedParts.take 2)))).slotTable.slot 2).isActive = true ∧
    (ran .part (asked 1 lastPart (assembling (workedParts.take 2)))).engine.phase = .quiet := by decide +kernel
theorem test_cancel :
    (ran .cancel (asked 2 [2] heldOne)).slotTable.queue = [] ∧
    (ran .cancel (asked 2 [2] (running .ramp rampCheck))).engine.cause = some .cancelled := by decide +kernel
theorem test_clear :
    (ran .clear (asked 3 [2] (withSlot (.done head rampWork result none)))).slotTable.slot 2 = .vacant ∧
    lastPayload (ran .clear (asked 3 [2] (withSlot (.done head rampWork result (some 0))))) = [3, 2, 4, 255] := by
  decide +kernel
theorem test_fetch :
    (ran .fetch (asked 4 [2] (withSlot (.done head rampWork result none)))).slotTable.slot 2 =
      .done head rampWork result (some 0) ∧
    lastPayload (ran .fetch (asked 4 [2] heldOne)) = [34, 50, 5, 7, 0, 0] := by decide +kernel
theorem test_status :
    (ran .status (asked 5 [] online)).line.queue.map (fun e => e.frame.payload) =
      [[131, 0, 64, 66, 15, 0, 0, 0], [0, 0, 0, 0, 0, 0, 0, 0]] := by decide +kernel
theorem test_deadline :
    (ran (.assemblyDeadlineExpiry 2) (assembling [])).slotTable.slot 2 = .vacant ∧
    lastPayload (ran (.assemblyDeadlineExpiry 2) (assembling [])) = [0, 2, 7, 254] := by decide +kernel

/-- The worked start order (04): slots 4, 2, 0, 6 enter in turn. -/
theorem test_worked_start_order :
    let h (priority : Nat) (arrival : Half) : Slot := .held { head with priority := priority, arrival := arrival } rampWork
    let t : SlotTable := { SlotTable.reset with
      slots := (((SlotTable.reset.slots.set 4 (h 1 65534)).set 2 (h 2 65535)).set 0 (h 1 1)).set 6 (h 0 3) }
    let enter := enqueueSlot (t.precedes .priorityThenArrival)
    enter 6 (enter 0 (enter 2 (enter 4 []))) = [6, 4, 0, 2] := by decide +kernel

theorem test_tighten :
    (ran .tighten (asked 6 [0, 0x28, 0x0A] online)).guardUnit.effective.map Limits.current = some 2600 ∧
    lastPayload (ran .tighten (asked 6 [0, 0x28, 0x0A] online)) = [0, 0x28, 0x0A, 0xB8, 0x0B] := by decide +kernel
theorem test_clear_fault :
    let latched : State := { online with
      guardUnit := { online.guardUnit with latch := some .guardV, further := 3 }, port := { online.port with hold := true } }
    (ran .clearFault (asked 7 [] latched)).guardUnit.latch = none ∧
    (ran .clearFault (asked 7 [] (withPort latched fun p => { p with estop := true }))).guardUnit.latch =
      some .estop := by decide +kernel
theorem test_bay_reset :
    (ran .bayReset (asked 8 [] (running .ramp rampCheck))).slotTable.slots = SlotTable.reset.slots ∧
    (ran .bayReset (asked 8 [] (running .ramp rampCheck))).engine.noResult = true := by decide +kernel

theorem test_sample_read :
    (ran .sampleReadBegin online).port.path = .reading ∧
    (ran .sampleReadBegin (withPort online fun p => { p with path := .writing })).port.readWaiting = true := by
  decide +kernel

/-- Step 5 of the worked setpoint replacement (06): 2750 behind a TIGHTEN to 2700. -/
def writing : State :=
  { running .ramp rampCheck with
    port := { (running .ramp rampCheck).port with pending := some ⟨2750, false⟩, applied := 2600 }
    guardUnit := { online.guardUnit with effective := some { cfg.limits with current := 2700 } } }
theorem test_worked_limit :
    (ran .writeBegin writing).port.onPort = some ⟨⟨2700, false⟩, false⟩ ∧
    (ran .writeEnd (ran .writeBegin writing)).port.ackTimer = some 1000050 := by decide +kernel
theorem test_acknowledgement :
    (ran (.setpointAcknowledgement 2700) (ran .writeBegin writing)).port.applied = 2700 ∧
    (ran (.setpointAcknowledgement 2600) (ran .writeBegin writing)).guardUnit.latch = some .loadStageMismatch := by
  decide +kernel
/-- R119 (log 38): the late answer to an unanswered setpoint empties ON_PORT, and LOAD_STAGE_SILENT can be cleared. -/
theorem test_late_answer :
    let silent := ran .acknowledgementTimerExpiry (withPort (ran .writeBegin writing) fun p =>
      { p with ackTimer := some 1000000 })
    silent.port.unanswered = true ∧ (ran (.setpointAcknowledgement 2700) silent).port.unanswered = false := by
  decide +kernel
theorem test_acknowledgement_timer :
    (ran .acknowledgementTimerExpiry (withPort (ran .writeBegin writing) fun p =>
      { p with ackTimer := some 1000000 })).guardUnit.latch = some .loadStageSilent := by decide +kernel
theorem test_watchdog :
    (ran .sampleWatchdogExpiry (withPort online fun p => { p with watchdog := some 1000000 })).guardUnit.latch =
      some .samplesLost := by decide +kernel
theorem test_emergency_stop :
    (ran (.emergencyStopChange true) (running .ramp rampCheck)).engine.cause = some .estop ∧
    (ran (.emergencyStopChange true) (running .ramp rampCheck)).port.standing = .opened := by decide +kernel
/-- R57, R127, R181: a set reaches the headroom unit, the engine and the guard unit. -/
theorem test_set_offered :
    let s := withPort (withEngine (running .quiet rampCheck) fun e => { e with quiet := .rest }) fun p =>
      { p with path := .reading }
    let t (order : SetOrder) := ran (.sampleSetArrival
      { voltage := 54000, current := 0, temperature := 801, feeder := 1799, powerGood := true, alert := false } order) s
    [(t .guardFirst), (t .engineFirst)].map
        (fun t => (t.headroom.sagRun, t.engine.restCount, t.guardUnit.runTemperature)) = [(1, 1, 1), (1, 1, 1)] := by
  decide +kernel
theorem test_set_taken :
    (ran (.sampleSetArrival (reading 54000 9000 false) .guardFirst) (withPort online fun p =>
      { p with path := .reading })).port.confirmedOpen = true := by decide +kernel

theorem test_shed_freezes :
    let s := { running .ramp rampCheck with engine := { (running .ramp rampCheck).engine with mark := some 2000 } }
    (ran .shed (holdingFrame shed20 s)).engine.phase = .frozen ∧
    (ran .shed (holdingFrame shed20 s)).port.pending = some ⟨2000, false⟩ := by decide +kernel
/-- R60: an own SHED that waited for the line at the contest timer's expiry denies nothing; one offered later does. -/
def shedding : Entry :=
  { frame := { shed20 with source := 9 }, block := .headroom, entryOrder := 4, sending := true, removing := false }
def shedInContest (late : Option Nat) : State :=
  withLine (withHeadroom (deciding 170) fun u => { u with lateShed := late }) fun l =>
    { l with judgement := .sending 1000000, queue := [shedding], order := 1050 }
theorem test_late_shed :
    (ran .frameSent (shedInContest (some 4))).headroom.denial = false ∧
    (ran .frameSent (shedInContest none)).headroom.denial = true ∧
    (ran .contestTimerExpiry (withHeadroom (withLine (shedInContest none) fun l =>
      { l with judgement := .busy, queue := [{ shedding with sending := false }] }) fun u =>
        { u with contestTimer := some 1000000 })).headroom.lateShed = some 4 := by decide +kernel
theorem test_engine_waits :
    (ran .startWaitTimerExpiry (withEngine (running .quiet rampCheck) fun e =>
      { e with startWait := some 1000000 })).engine.phase = .idle ∧
    (ran .restTimerExpiry (withEngine (running .quiet rampCheck) fun e =>
      { e with rest := some 1000000 })).port.standing = .opened ∧
    (ran .soakMaximumTimerExpiry (withEngine (running .soak derateCheck) fun e =>
      { e with derate := { e.derate with soakTimer := some 1000000 } })).port.standing = .closed := by decide +kernel
theorem test_engine_resumes :
    (ran .shedHoldTimerExpiry (withEngine (running .frozen timeCheck) fun e =>
      { e with shedHold := some 1000000, frozenFrom := some .step })).engine.phase = .preload ∧
    (ran .timeOutTimerExpiry (withEngine (running .step timeCheck) fun e =>
      { e with trip := { e.trip with timeOut := some 1000000 } })).engine.verdict = some ⟨.noTrip, 0⟩ := by decide +kernel
theorem test_recovery :
    let s := withPort (running .recover rampCheck) fun p => { p with standing := .opened }
    (ran .offTimeTimerExpiry (withEngine s fun e => { e with offTime := some 1000000 })).port.standing = .closed ∧
    (ran .recoverWaitTimerExpiry (withEngine s fun e => { e with recoverWait := some 1000000 })).guardUnit.latch =
      some .recoverFailed := by decide +kernel

/-- The worked TRIP_RAMP (08): the run's origin is the set before it, 2752 dA, within 2500..2800. -/
def ramping : State := withEngine (running .ramp rampCheck) fun e => { e with trip := { e.trip with lastCurrent := 2752 } }
def collapse : List (Word × SampleSet) :=
  [(1020354, set 31400 2690 true), (1020355, set 12050 1410 true), (1020356, set 1200 80 false),
   (1020357, set 300 0 false)]
theorem test_worked_trip_ramp :
    (ramping.engineSets collapse).engine.verdict = some ⟨.pass, 2752⟩ ∧
    (ramping.engineSets collapse).engine.tripped = true := by decide +kernel

/-- The worked trip times (08): step instant 2,400,000. -/
def stepping : State := withEngine (running .step timeCheck) fun e =>
  { e with trip := { e.trip with stepInstant := some 2400000 } }
def tripAt (first : Word) : Option Determined :=
  (stepping.engineSets [(first, set 900 0 true), (first + 1, set 900 0 true), (first + 2, set 900 0 true)]).engine.verdict
theorem test_worked_trip_times :
    [2401180, 2400310, 2399998, 2403500, 2470000].map tripAt =
      [some ⟨.pass, 1180⟩, some ⟨.failLow, 310⟩, some ⟨.failLow, 0⟩, some ⟨.failHigh, 3500⟩,
       some ⟨.failHigh, 65535⟩] := by decide +kernel

/-- R124, R130: the sets of a dwell are counted in STEP as well; two sets of a dwell of 2 end the step of a ramp. -/
def dwelling (phase : Phase) (c : Check) : State := withEngine (running phase c) fun e =>
  { e with dwellStart := some 1000000, stepIndex := some 0, stepCount := some 7 }
def shortRamp : RampParams := { rampParams with ramp := { rampParams.ramp with dwell := 2 } }
def shortCheck : Check := { rampCheck with params := .tripRamp shortRamp }
def steady : List (Word × SampleSet) := [(1000001, set 54000 2000 true), (1000002, set 54000 2000 true)]
theorem test_dwell :
    ((dwelling .step timeCheck).engineSets steady).engine.dwellCount = 2 ∧
    ((dwelling .ramp shortCheck).engineSets steady).port.pending = some ⟨2150, false⟩ := by decide +kernel

/-- A step takes the queue's front, and an empty queue idles (log 2). -/
theorem test_queue :
    step { online with pending := [.stationTimeTick, .lineIdle] } =
      .next { online with time := 1000001, pending := [.lineIdle] } ∧
    step online = .next online := ⟨rfl, rfl⟩

/-- No row has bits, so no word spells a command (log 3). -/
theorem test_no_word : decodeTableWord 16 0 = none ∧ online.withFetchWord 16 0 = online := ⟨rfl, rfl⟩

/-! ### Witnesses: the hypotheses of the statements are met -/

/-- SelfLoopAndJoining, ConfigReadEnds, PowerResetBeginsAnew: each station state with its timer run out, the input at
both levels, and the strap addresses on both sides of the last bay. -/
theorem witness_startup :
    (loading.station = .loading ∧ loading.startup.configRead.isSome = true ∧ goodRecord.length = 40 ∧
      loading.startup.configRead.map (fun r => reached loading.time r.due) = some true) ∧
    (looping.station = .selfLoop ∧ ([] : List Bool) ≠ (testFrame 9).coded ∧
      looping.startup.loopTimer.map (reached looping.time) = some true) ∧
    (joining.station = .joining ∧ joining.startup.joinTimer.map (reached joining.time) = some true) ∧
    (looping.startup.loopTimer.map (fun i => (earlier i looping.time, earlier i 601)) = some (false, true)) ∧
    (online.port.estop = false ∧ (withPort online fun p => { p with estop := true }).port.estop = true) ∧
    (47 : Address).toNat < 48 ∧ ¬ (48 : Address).toNat < 48 := by decide +kernel

/-- The forms of Safety hold of states in which much is under way, and a step is taken there: the statements that a form
is kept, StationStateTransitions and CountersAndOrderNumber. -/
def busy : State :=
  { running .ramp rampCheck with
    pending := [.stationTimeTick], line := sending.line
    headroom := { holding.headroom with peers := [peer 3 .holding 350 1000] } }

theorem witness_forms :
    (busy.contactorForm ∧ busy.stationForm ∧ busy.port.pathForm ∧ busy.queueForm ∧ busy.viewForm) ∧
    (busy.claimForm ∧ busy.slotForm ∧ busy.counterForm) ∧
    step busy = .next { busy with pending := [], time := 1000001 } := by
  refine ⟨by decide +kernel, ⟨by decide +kernel, by decide +kernel, by decide +kernel⟩, rfl⟩

/-- The same of unloadedForm, in the phases it speaks of, with SlotFormKept's and ClaimFormKept's slots in use. -/
theorem witness_unloaded_form :
    ((running .recover rampCheck).unloadedForm ∧ (running .recover rampCheck).port.pathForm ∧
      (running .recover rampCheck).stationForm) ∧
    ((withPort (running .settle rampCheck) fun p => { p with pending := some ⟨0, false⟩ }).unloadedForm ∧
      ¬ (withPort (running .settle rampCheck) fun p => { p with pending := some ⟨1, false⟩ }).unloadedForm) ∧
    heldOne.claimForm ∧ heldOne.slotForm := by
  refine ⟨by decide +kernel, by decide +kernel, by decide +kernel, by decide +kernel⟩

theorem witness_unloaded_step : step (running .recover rampCheck) = .next (running .recover rampCheck) := rfl

/-- LimitForm's hypothesis, with limits in use. -/
theorem witness_limit_form : online.limitForm ∧ step online = .next online := by
  refine ⟨⟨?_, by decide⟩, rfl⟩
  intro e he
  have h : e = cfg.limits := by simpa [online] using he.symm
  exact ⟨cfg, rfl, by rw [h]; decide⟩

/-- Every station transition of StationStateTransitions happens. -/
theorem witness_station_transitions :
    [(ran (.powerReset 9) online).station, (ran (.powerReset 60) online).station, looping.station,
      (ran (.configReadComplete clampedRecord) loading).station, (ran .configReadTimeout loading).station,
      joining.station, (ran .selfLoopTimeout looping).station, (ran .joinTimerExpiry joining).station,
      (ran .sendCollision colliding).station] =
    [.loading, .offLine, .selfLoop, .loading, .degraded, .joining, .offLine, .onLine, .offLine] ∧
    online.queueForm ∧ colliding.queueForm := by decide +kernel

/-- CodedFrameReadsBack and CodedFramesAndDamage: valid and invalid frames, lengths 0, 8 and 15, and a wrong check
sequence. -/
theorem witness_frames :
    status50.valid = true ∧ status50.payload.length ≤ 8 ∧ { ask9 with source := 63 }.valid = false ∧
    { ask9 with payload := List.replicate 8 0 }.valid = true ∧ { ask9 with payload := List.replicate 15 0 }.valid = false ∧
    0 < status50.coded.length ∧ (0 : Half) ≠ checkSequence status50.contents := by decide +kernel

/-- TransmitStartSendsHead, OwnClaimCompletes, FailedAttempts, ThirdCollisionSilences: an ASK of the part on the line. -/
def asking : Entry :=
  { frame := ask9, block := .headroom, entryOrder := 4, sending := true, removing := false }

theorem witness_own_frame :
    (queued.station.connected = true ∧ queued.line.judgement = .idle ∧
      queued.line.queue = { asking with sending := false } :: queued.line.queue.tail) ∧
    (claiming.onLineWith 1000000 asking ∧ asking.isClaim = true ∧ asking.removing = false) ∧
    (claiming.line.waiting = none ∧ claiming.headroom.current.isSome = true ∧ asking.frame.kind = 0 ∧
      claiming.headroom.claim = .askQueued) ∧
    (colliding.onLineWith 1000000 asking ∧ colliding.line.collided = some asking.entryOrder ∧
      2 ≤ colliding.line.collisions ∧ colliding.station.builds = true) ∧
    (sending.line.collided ≠ some asking.entryOrder ∧
      sending.line.collisions + 1 < 3) ∧
    (waitingBehind.onLineWith 1000000 asking ∧ waitingBehind.line.waiting.isSome = true ∧
      waitingBehind.line.collided = some asking.entryOrder ∧ waitingBehind.line.collisions + 1 < 3) := by decide +kernel

/-- The other clauses of OwnClaimCompletes: a HOLD, an ASK withdrawn while it was sent, a waiting CLAIM. -/
def holdSending : State := withHeadroom
  (withLine online fun l => { l with
    judgement := .sending 1000000, queue := [{ asking with frame := { ask9 with kind := 1 } }] })
  fun u => { u with claim := .holding, held := 170, current := some ⟨.hold, 170, 170⟩ }
def withdrawn : State := withHeadroom sending fun u => { u with claim := .idle, current := none }

theorem witness_own_claim :
    (holdSending.onLineWith 1000000 { asking with frame := { ask9 with kind := 1 } } ∧
      holdSending.line.waiting = none ∧ holdSending.headroom.claim = .holding ∧
      holdSending.headroom.current.isSome = true) ∧
    (withdrawn.onLineWith 1000000 asking ∧ withdrawn.line.waiting = none ∧ withdrawn.headroom.current = none) := by
  decide +kernel

/-- OwnReplyCompletes, and the removal of FailedAttempts: RESULT part 3 of a locked slot, marked by a BAY_RESET. -/
def replying : Entry :=
  { frame := { ask9 with cls := 3, urgency := 3, kind := 7 }, block := .slotTable, entryOrder := 3, sending := true,
    removing := true }
def replySending : State :=
  withLine (withSlot (.done head rampWork result (some 0))) fun l =>
    { l with judgement := .sending 1000000, queue := [replying], nextEntry := 4 }

theorem witness_own_reply :
    replySending.onLineWith 1000000 replying ∧ replying.isReply = true ∧ replying.removing = true ∧
    (replySending.line.collided = none ∧
      (withLine replySending fun l => { l with collided := some 3, collisions := 1 }).line.collisions + 1 < 3) ∧
    (ran .frameSent replySending).slotTable.slot 2 = .done head rampWork result none ∧
    (ran .sendCollision replySending).slotTable.slot 2 = .done head rampWork result none := by decide +kernel

/-- HeardFrameIsFiltered, ErrorAndIdle, AbortRunDiscards: a frame heard from an idle line and after a lost arbitration,
of every class, and readings in error and incomplete. -/
def receiving : State := ran .arbitrationLost sending

theorem witness_hearing :
    online.hears 5 5 ∧ receiving.hears 5 1000000 ∧
    ([shed20, ask9, status50, { status50 with cls := 3 }, { status50 with cls := 4 }].all Frame.valid) = true ∧
    readBits (false :: List.replicate 9 true) = .inError ∧ readBits [false] = .incomplete ∧
    (30 + 16 ≤ ask9.coded.length ∧ ask9.payload.length ≤ 8 ∧
      readBits (ask9.coded.take 30 ++ List.replicate 9 false) = .abortRun) ∧
    (withLine online fun l => { l with judgement := .busy }).line.judgement = .busy := by decide +kernel

/-- AskSetsEntry and HoldAndDropSetEntry: a claim of each kind handed on, of five bytes and of four, in ON_LINE and in
DEGRADED, with and without peers known. -/
def degraded : State := { online with startup := { StartUp.reset with station := .degraded, address := some 9 } }
def claimOf (kind : BitVec 5) (payload : List Byte) : Frame :=
  { cls := 1, urgency := 2, source := 12, target := 63, kind := kind, payload := payload }

theorem witness_claims :
    (∀ kind ∈ [(0 : BitVec 5), 1, 2],
      (holdingFrame (claimOf kind [0, 0, 9, 0, 51]) online).handing (heard (claimOf kind [0, 0, 9, 0, 51])) [] 1
        kind.toNat ∧
      (holdingFrame (claimOf kind []) degraded).handing (heard (claimOf kind [])) [] 1 kind.toNat) ∧
    online.station.builds = true ∧ degraded.station.builds = false ∧ online.headroom.peers = [] ∧
    holding.headroom.peers ≠ [] := by decide +kernel

/-- ShedEventRule: a SHED handed on and the part's own, in every case of the engine. -/
def ownShed : State := withLine (running .ramp rampCheck) fun l =>
  { l with judgement := .sending 1000000, queue := [shedding] }

theorem witness_shed :
    ((holdingFrame shed20 (running .ramp rampCheck)).handing (heard shed20) [] 0 0 ∧ online.station.builds = true) ∧
    (ownShed.onLineWith 1000000 shedding ∧ shedding.isShed = true) ∧
    ((running .step timeCheck).engine.phase.loads = true ∧ (running .step timeCheck).engine.restarts < 2 ∧
      2 ≤ (withEngine (running .ramp rampCheck) fun e => { e with restarts := 2 }).engine.restarts) ∧
    ((holdingFrame shed20 degraded).handing (heard shed20) [] 0 0 ∧ degraded.station.builds = false) ∧
    ((shedInContest (some 4)).onLineWith 1000000 shedding ∧ (shedInContest none).onLineWith 1000000 shedding ∧
      (shedInContest (some 4)).headroom.lateShed = some shedding.entryOrder ∧
      (shedInContest none).headroom.own.any (fun own => earlier own 1051) = true) ∧
    (running .frozen rampCheck).engine.phase = .frozen ∧ (running .soak derateCheck).engine.phase.loads = false := by
  decide +kernel

/-- The hypotheses of the request statements: each kind handed on and passing the first tests, slot numbers 0 and 7. -/
theorem witness_requests :
    (∀ x ∈ [((0 : BitVec 5), [(7 : Byte), 1, 1, 3]), (1, [0, 0, 0, 0, 0, 0, 0, 0]), (2, [7]), (3, [0]), (4, [7]), (5, []),
        (6, [0, 0, 0]), (7, []), (8, [])],
      (asked x.1 x.2 online).handing (heard (request x.1 x.2)) [] 2 x.1.toNat ∧
      (asked x.1 x.2 online).requestPasses (request x.1 x.2) ∧ (requestOf x.1.toNat).isSome = true) ∧
    byteAt [(7 : Byte), 1, 1, 3] 0 = (7 : Fin 8).val ∧ byteAt [(0 : Byte)] 0 = (0 : Fin 8).val := by decide +kernel

/-- RefusedRequestChangesNothing: each failing test, the sources on both sides of the owner range, slot number 8, and the
CANCEL of all slots. -/
theorem witness_refusals :
    (¬ cfg.ownerLow ≤ (47 : Address).toNat ∧ cfg.ownerLow ≤ (48 : Address).toNat ∧ (62 : Address).toNat ≤ cfg.ownerHigh) ∧
    ({ online with guardUnit := { online.guardUnit with resetting := some ⟨50, 9⟩ } }).guardUnit.resetting.isSome =
      true ∧
    ([] : List Byte).length ≠ requestLength 2 ∧ 8 ≤ byteAt [(8 : Byte)] 0 ∧
    (asked 2 [8] online).requestPasses (request 2 [8]) ∧
    (holdingFrame (toAll (request 2 [15])) online).requestPasses (toAll (request 2 [15])) := by decide +kernel

/-- OpenAndDeadline, PartStoresOrBreaks, LastPartValidates, ValidatedWorkInRange, CancelRules and ClearFetchStatus: slots
of every state, both outcomes of a validation, and check data of each kind that validate. -/
def timeParts : List (List Byte) :=
  [bytes16 4000 ++ bytes16 500 ++ bytes16 2000, bytes16 1500 ++ bytes16 2000 ++ bytes16 1000,
   bytes16 40000 ++ [3, 20] ++ bytes16 100]
def derateParts : List (List Byte) :=
  [bytes16 480 ++ bytes16 495 ++ bytes16 1800, bytes16 2000 ++ bytes16 150 ++ bytes16 400,
   bytes16 48500 ++ [8, 30, 50, 8], bytes16 2950 ++ [1] ++ bytes16 10000 ++ [0],
   bytes16 350 ++ bytes16 18000 ++ [0, 0]]

/-- ValidatedWorkInRange: a refusal at each part of a DERATE, the last by a temperature that does not rise, and the two
claim refusals. -/
def derateBad (i : Nat) (p : List Byte) : Validated := validate cfg 3000 .derate (derateParts.set i p)

theorem witness_validation :
    [derateBad 0 (bytes16 500 ++ bytes16 495 ++ bytes16 1800), derateBad 1 (bytes16 2000 ++ bytes16 150 ++ bytes16 1001),
      derateBad 2 (bytes16 48500 ++ [17, 30, 50, 8]), derateBad 3 (bytes16 2950 ++ [2] ++ bytes16 10000 ++ [0]),
      derateBad 4 (bytes16 350 ++ bytes16 60001 ++ [0, 0]),
      validate cfg 3000 .derate
        (derateParts.set 3 (bytes16 2950 ++ [2] ++ bytes16 10000 ++ [0]) ++ [bytes16 350 ++ bytes16 1 ++ [0, 0]])] =
      [.refused .badParam 0, .refused .badParam 1, .refused .badParam 2, .refused .badParam 3, .refused .badParam 4,
        .refused .badParam 5] ∧
    validate { cfg with nominalVoltage := 60000, efficiency := 800 } 8000 .tripTime
      (timeParts.set 0 (bytes16 8000 ++ bytes16 500 ++ bytes16 2000)) = .refused .claimTooLarge 255 ∧
    validate { cfg with capacity := 250 } 3000 .tripRamp workedParts = .refused .claimExceedsFeeder 255 := by
  decide +kernel

def Validated.accepted : Validated → Bool
  | .held _ => true
  | .refused _ _ => false

theorem witness_slots :
    (Validated.accepted (validate cfg 3000 .tripRamp workedParts) = true ∧
      Validated.accepted (validate cfg 4000 .tripTime timeParts) = true ∧
      Validated.accepted (validate cfg 3000 .derate derateParts) = true ∧
      Validated.accepted (validate cfg 3000 .tripRamp (workedParts.set 2 [])) = false) ∧
    ((assembling (workedParts.take 2)).slotTable.slot 2 = .assembling head 3 (workedParts.take 2) 1000000 ∧
      head.owner = (request 1 lastPart).source ∧ byteAt lastPart 1 = (workedParts.take 2).length ∧
      3 ≤ (workedParts.take 2).length + 1 ∧ (2 : Fin 8) ∉ (assembling []).slotTable.queue ∧
      (asked 1 lastPart (assembling (workedParts.take 2))).requestPasses (request 1 lastPart)) ∧
    (heldOne.slotTable.slot 2 = .held head rampWork ∧ online.slotTable.slot 2 = .vacant ∧
      (running .ramp rampCheck).slotTable.slot 2 = .active head rampWork ∧
      (running .ramp rampCheck).engine.phase.abortable = true ∧
      (withSlot (.done head rampWork result none)).slotTable.slot 2 = .done head rampWork result none) ∧
    reached 1000000 (1000000 : Word) = true ∧ reached 999999 (1000000 : Word) = false := by decide +kernel

/-- StartConditions and CloseOnlyUnloaded: the end of JOINING starts a HELD slot and closes the contactor; the end of an
off-time closes it as well. -/
def joiningHeld : State :=
  { heldOne with startup := { heldOne.startup with station := .joining, joinTimer := some 1000000 } }
def offOver : State := withEngine
  (withPort (running .recover rampCheck) fun p => { p with standing := .opened, confirmedOpen := true })
  fun e => { e with offTime := some 1000000 }

theorem witness_start :
    exec .joinTimerExpiry joiningHeld = .next (ran .joinTimerExpiry joiningHeld) ∧
    exec .offTimeTimerExpiry offOver = .next (ran .offTimeTimerExpiry offOver) := ⟨rfl, rfl⟩

theorem witness_start_state :
    ((joiningHeld.slotTable.slot 2).isActive = false ∧
      ((ran .joinTimerExpiry joiningHeld).slotTable.slot 2).isActive = true) ∧
    (joiningHeld.slotForm ∧ joiningHeld.slotTable.queue.head? = some 2 ∧ joiningHeld.engine.phase = .idle ∧
      (ran .joinTimerExpiry joiningHeld).slotTable.slot 2 = .active head rampWork) ∧
    (joiningHeld.port.pathForm ∧ joiningHeld.contactorForm ∧ joiningHeld.unloadedForm ∧ joiningHeld.port.commandedClosed = false ∧
      (ran .joinTimerExpiry joiningHeld).port.commandedClosed = true) ∧
    (offOver.port.pathForm ∧ offOver.contactorForm ∧ offOver.unloadedForm ∧ offOver.port.commandedClosed = false ∧
      (ran .offTimeTimerExpiry offOver).port.commandedClosed = true) := by
  refine ⟨by decide +kernel, by decide +kernel, by decide +kernel, by decide +kernel⟩

/-- StartConditions: the last PART that puts its slot at the head of an empty queue, and a check that ends and lets the
next slot start. -/
def lastParted : State := asked 1 lastPart (assembling (workedParts.take 2))
def handingOver : State :=
  let s := withEngine (running .quiet rampCheck) fun e => { e with startWait := some 1000000 }
  { s with slotTable := { s.slotTable with slots := s.slotTable.slots.set 5 (.held head rampWork), queue := [5] } }

theorem witness_start_paths :
    exec .part lastParted = .next (ran .part lastParted) ∧
    exec .startWaitTimerExpiry handingOver = .next (ran .startWaitTimerExpiry handingOver) := ⟨rfl, rfl⟩

theorem witness_start_path_states :
    (lastParted.slotForm ∧ lastParted.slotTable.queue = [] ∧ (lastParted.slotTable.slot 2).isActive = false ∧
      ((ran .part lastParted).slotTable.slot 2).isActive = true) ∧
    (handingOver.slotForm ∧ (handingOver.slotTable.slot 5).isActive = false ∧ handingOver.engine.check.map Check.slot = some 2 ∧
      ((ran .startWaitTimerExpiry handingOver).slotTable.slot 5).isActive = true ∧
      ((ran .startWaitTimerExpiry handingOver).slotTable.slot 2).isActive = false) := by decide +kernel

/-- A state with the hold of `holding`. -/
def withHold (s : State) : State := { s with headroom := holding.headroom }

/-- StartConditions, the start itself: an unloaded part with the contactor open and closed, a loaded one, and a carried
need that the hold covers. -/
def startStates : List State :=
  [heldOne, withPort heldOne fun p => { p with standing := .closed }, withPort heldOne fun p => { p with applied := 2000 },
    withEngine (withHold heldOne) fun e => { e with carry := true }]

theorem witness_starts :
    (∀ s ∈ startStates,
      s.station = .onLine ∧ s.engine.phase = .idle ∧ s.guardUnit.latch = none ∧ s.guardUnit.resetting = none ∧
      s.port.hold = false ∧ s.slotTable.queue = [2] ∧ s.slotTable.slot 2 = .held head rampWork ∧
      s.examineStart.slotTable.slot 2 = .active head rampWork ∧ s.examineStart.engine.phase = .quiet ∧
      s.examineStart.port.ceiling = 2950) ∧
    startStates.map (fun s => (s.examineStart.engine.quiet, s.examineStart.engine.carry)) =
      [(.powerGood, false), (.rest, false), (.drop, false), (.powerGood, true)] := by decide +kernel

/-- BayResetRule: the engine idle, running and already in an abort, a REPLY with the collision count queued, and an abort
that a BAY_RESET waits for, its drop ON_PORT. -/
def resetting : State := withEngine
  (withPort { running .aborting rampCheck with guardUnit := { online.guardUnit with resetting := some ⟨50, 9⟩ } } fun p =>
    { p with onPort := some ⟨⟨0, true⟩, false⟩ })
  fun e => { e with noResult := true }

def replyCounted : State := withLine queued fun l => { l with collided := some 0, collisions := 2 }

theorem witness_bay_reset :
    (∀ s ∈ [online, running .ramp rampCheck, running .aborting rampCheck],
      (asked 8 [] s).handing (heard (request 8 [])) [] 2 8 ∧ (asked 8 [] s).requestPasses (request 8 []) ∧
      s.engine.carry = false) ∧
    (replyCounted.line.queue.any
        (fun e => e.isReply && !e.sending && replyCounted.line.collided == some e.entryOrder) = true ∧
      (ran .bayReset (asked 8 [] replyCounted)).line.collisions = 0) ∧
    (resetting.guardUnit.resetting = some ⟨50, 9⟩ ∧ resetting.slotTable.queue = [] ∧ resetting.engine.carry = false ∧
      resetting.port.onPort = some ⟨⟨0, true⟩, false⟩ ∧ resetting.engine.phase = .aborting ∧
      resetting.engine.noResult = true ∧
      (ran (.setpointAcknowledgement 0) resetting).guardUnit.resetting = none) := by decide +kernel

/-- TightenSetsLimit, ClearFaultRules, LatchStays, PortFaultsLatch. -/
def latched (cause : Cause) : State :=
  { online with
    guardUnit := { online.guardUnit with latch := some cause, further := 255 }, port := { online.port with hold := true } }

theorem witness_guard :
    (degraded.station = .degraded ∧ online.guardUnit.effective = some cfg.limits ∧ online.station ≠ .degraded) ∧
    ((latched .guardT).guardUnit.latch = some .guardT ∧ (latched .guardT).port.last = none ∧
      (latched .estop).port.estop = false ∧ (latched .guardV).guardUnit.further ≤ 255) ∧
    ((withPort online fun p => { p with watchdog := some 1000000 }).port.watchdog = some 1000000 ∧
      (withPort (ran .writeBegin writing) fun p => { p with ackTimer := some 1000000 }).port.onPort.isSome = true ∧
      (running .ramp rampCheck).engine.phase.abortable = true ∧
      ({ running .ramp rampCheck with port := { online.port with estop := true } }).port.estop = true) := by
  decide +kernel

theorem witness_latch_stays :
    exec .stationTimeTick (latched .guardV) = .next ((latched .guardV).setTime 1000001) := rfl

/-- GuardRunLatches: sets above one limit each, at the limit's next value. -/
theorem witness_guard_runs :
    let s := running .ramp rampCheck
    (s.guardUnit.effective = some cfg.limits ∧ s.port.commandedClosed = true ∧ s.guardUnit.latch = none ∧
      s.guardUnit.runVoltage = 0 ∧ s.guardUnit.runCurrent = 0 ∧ s.guardUnit.runTemperature = 0) ∧
    (cfg.guardVoltage < (set 60001 3150 true).voltage ∧ ¬ cfg.guardCurrent * 21 / 20 < (set 60001 3150 true).current) ∧
    (cfg.guardCurrent * 21 / 20 < (set 60000 3151 true).current ∧ ¬ cfg.guardVoltage < (set 60000 3151 true).voltage) ∧
    (cfg.guardTemperature < { set 0 0 true with temperature := 801 }.temperature ∧
      ¬ cfg.guardTemperature < { set 0 0 true with temperature := 800 }.temperature) ∧
    (¬ cfg.guardVoltage < (set 60000 3150 true).voltage ∧ ¬ cfg.guardCurrent * 21 / 20 < (set 60000 3150 true).current ∧
      ¬ cfg.guardTemperature < (set 60000 3150 true).temperature) ∧
    (List.replicate 64 (set 0 0 true)).length = 64 := by decide +kernel

/-- ContestRule: the timer run out, a noted frame in the silo and none, a contest that fits at the boundary and one that
does not; GrantBeginsLoading: each kind in CLAIMING, DERATE with a fit block and without. -/
def noted : State := withHeadroom (holdingFrame shed20 (deciding 170)) fun u => { u with note := some (.upTo 1040) }
def granting (c : Check) : State := running .claiming c
def fitting : State := withEngine (granting derateCheck) fun e =>
  { e with derate := { e.derate with latest := some ⟨3, 487, 4, true⟩, firstGood := some 1 } }

theorem witness_contest :
    ((deciding 170).headroom.claim = .contest ∧ (deciding 170).headroom.note = some .siloEmpty ∧
      (deciding 170).headroom.own = some 1043 ∧ (deciding 170).headroom.need = some ⟨170, 1⟩) ∧
    ((noted.line.silo.any fun h => h.order == 1040) = true ∧
      contestSum 1043 peers + 200 ≤ cfg.capacity - cfg.reserve ∧ ¬ contestSum 1043 peers + 201 ≤ cfg.capacity - cfg.reserve) ∧
    ((withHeadroom (deciding 170) fun u => { u with contestTimer := some 1000000 }).headroom.contestTimer =
      some 1000000) ∧
    (∀ c ∈ [rampCheck, timeCheck, derateCheck],
      (granting c).engine.phase = .claiming ∧ (granting c).engine.check = some c) ∧
    fitting.engine.derate.fitBlock = some ⟨3, 487, 4, true⟩ ∧ (granting derateCheck).engine.derate.fitBlock = none := by
  decide +kernel

/-- HeadroomTimers and SagRun. -/
theorem witness_headroom :
    (backing.headroom.claim = .backoff ∧ backing.headroom.need = some ⟨170, 1⟩ ∧
      backing.headroom.backoffTimer.map (reached backing.time) = some true) ∧
    (holding.headroom.claim = .holding ∧ holding.headroom.refreshTimer.map (reached holding.time) = some true ∧
      holding.headroom.staleTimer.map (reached holding.time) = some true ∧
      holding.headroom.reListen.map (reached holding.time) = some true ∧ holding.station.builds = true ∧
      (peerAt 3 holding.headroom.peers).map (fun e => reached holding.time e.expiry) = some true) ∧
    ((running .recover rampCheck).engine.phase = .recover ∧ online.engine.phase = .idle) ∧
    (online.station = .onLine ∧ online.headroom.sagEpisode = false ∧ online.headroom.sagRun = 0 ∧
      cfg.sagCount = 2 ∧ { set 0 0 true with feeder := 1799 }.feeder < cfg.sagThreshold ∧
      cfg.sagClear ≤ { set 0 0 true with feeder := 1900 }.feeder ∧ joining.station ≠ .onLine) := by decide +kernel

/-- LowerOnlyWhenLoadIsOff: a withdrawn hold comes down when the drop is acknowledged. -/
def lowering : State := withHeadroom
  (withPort online fun p => { p with onPort := some ⟨⟨0, true⟩, false⟩, applied := 2000 })
  fun u => { u with claim := .holding, held := 170, target := some 0 }

theorem witness_lowering :
    lowering.headroom.claim = .holding ∧ (ran (.setpointAcknowledgement 0) lowering).headroom.held < 170 ∧
    (ran (.setpointAcknowledgement 0) lowering).headroom.claim = .idle := by decide +kernel

/-- The other clauses of LowerOnlyWhenLoadIsOff: a need stated and withdrawn in each claim state, above, at and below the
hold, the end of a trip check with its need carried, and its hand-over and idle report. -/
def carrying : State := withEngine holding fun e => { e with carry := true }

theorem witness_needs :
    (online.headroom.claim = .idle ∧ holding.headroom.claim = .holding ∧ holding.headroom.held = 170 ∧
      State.reset.headroom.claim = .barred ∧ claiming.headroom.claim = .askQueued ∧
      (deciding 170).headroom.claim = .contest ∧ backing.headroom.claim = .backoff ∧ holding.port.applied = 0 ∧
      (withPort holding fun p => { p with applied := 2000 }).port.applied ≠ 0) ∧
    (rampCheck.need ≤ holding.headroom.held ∧ online.headroom.need = none) ∧
    (∀ s ∈ [claiming, deciding 170, backing, holding], s.headroom.need.isSome = true) ∧
    (claiming.line.waiting = none ∧
      (withLine claiming fun l => { l with waiting := some ask9 }).line.waiting = some ask9) ∧
    ((withHold (running .settle rampCheck)).engine.check = some rampCheck ∧
      (withEngine (withHold (running .settle rampCheck)) fun e => { e with claimAmount := 170 }).engine.claimAmount ≠ 0) ∧
    (carrying.engine.carry = true ∧ carrying.port.hold = false ∧ carrying.startable = none ∧
      carrying.guardUnit.resetting = none ∧ rampWork.need ≤ carrying.headroom.held ∧
      ¬ 171 ≤ carrying.headroom.held) := by decide +kernel

theorem witness_lowering_runs :
    exec (.setpointAcknowledgement 0) lowering = .next (ran (.setpointAcknowledgement 0) lowering) := rfl

/-- The report clauses of LowerOnlyWhenLoadIsOff: a target with and without a need, the load on and off, and OFF_LINE. -/
def atOff (s : State) : State := { s with startup := { s.startup with station := .offLine } }
def carryingOver : State := withHeadroom holding fun u => { u with target := some 100, need := some ⟨100, 1⟩ }

theorem witness_reports :
    (lowering.headroom.need = none ∧ lowering.headroom.target = some 0 ∧ lowering.port.confirmedOpen = false ∧
      ¬ lowering.config.needOf lowering.port.applied ≤ 0 ∧ lowering.station ≠ .offLine) ∧
    ((withHeadroom lowering fun u => { u with target := some 120 }).config.needOf lowering.port.applied ≤ 120) ∧
    (carryingOver.headroom.claim = .holding ∧ carryingOver.headroom.need.isSome = true ∧
      carryingOver.headroom.target = some 100 ∧ carryingOver.port.applied = 0 ∧
      (withPort carryingOver fun p => { p with applied := 1 }).port.applied ≠ 0) ∧
    ((atOff holding).station = .offLine ∧ (atOff holding).headroom.claim = .holding ∧ (atOff holding).port.applied = 0 ∧
      (atOff lowering).port.applied ≠ 0 ∧ (atOff lowering).headroom.claim = .holding) := by decide +kernel

/-- The clauses of OwnClaimCompletes on an offer: no CLAIM queued, one queued and counted, one being sent. -/
def claimQueued : State := withLine queued fun l => { l with collided := some 4, collisions := 2 }

theorem witness_offers :
    (online.station.connected = true ∧ State.reset.station.connected = false ∧
      online.line.queue.find? Entry.isClaim = none) ∧
    (claimQueued.line.queue.find? Entry.isClaim = some { asking with sending := false } ∧
      sending.line.queue.find? Entry.isClaim = some asking) ∧
    ((claimQueued.offerClaim .drop 0 0).line.collisions = 0 ∧
      ((claimQueued.offerClaim .drop 0 0).line.queue.map Entry.entryOrder) = [5, 0, 1, 2, 3] ∧
      (sending.offerClaim .drop 0 0).line.waiting.isSome = true) := by decide +kernel

/-- PortFaultsLatch in ABORTING, with and without the cause the engine took itself; CountersAndOrderNumber with an attempt
in progress and without, and with a frame that is valid and one that is not. -/
def aborting (own : Option Cause) : State := withEngine
  (withPort (running .aborting rampCheck) fun p =>
    { p with watchdog := some 1000000, ackTimer := some 1000000, onPort := some ⟨⟨2000, false⟩, false⟩ })
  fun e => { e with cause := some .cancelled, selfCause := own }

theorem witness_second_causes :
    (∀ own ∈ [none, some Cause.loadStageSilent, some .estop, some .samplesLost],
      (aborting own).engine.phase = .aborting ∧ (aborting own).engine.selfCause = own ∧
      (aborting own).station.builds = true ∧ (aborting own).port.estop = false ∧
      (aborting own).engine.noResult = false) ∧
    (ran (.emergencyStopChange true) (aborting none)).engine.mustOpen = true ∧
    (ran (.emergencyStopChange true) (aborting (some .estop))).engine.mustOpen = false ∧
    (ran .acknowledgementTimerExpiry (aborting none)).engine.phase = .idle := by decide +kernel

theorem witness_order_numbers :
    (ran .frameSent sending).line.order = 1041 ∧ (ran .frameSent online).line.order = 1040 ∧
    (ran (.frameReceived 5 hold3.coded) online).line.order = 1041 ∧
    (ran (.frameReceived 5 [false]) online).line.order = 1040 := by decide +kernel

/-- PortTransactions: a path without a drop, with one in PENDING and with one ON_PORT. -/
theorem witness_paths :
    (online.port.pathForm ∧ ¬ online.port.dropInPath) ∧
    (joining.port.pathForm ∧ joining.port.dropInPath) ∧ (lowering.port.pathForm ∧ lowering.port.dropInPath) := by
  decide +kernel

/-- PortTransactions, SampleSetTaken, AcknowledgementRule: a write that may begin and one that may not, a read and a write
in progress, an answer that matches and one that does not. -/
theorem witness_port :
    (writing.port.pending = some ⟨2750, false⟩ ∧ writing.station.writes = true ∧ writing.port.onPort = none ∧
      writing.port.path = .free ∧ writing.port.readWaiting = false ∧
      (withPort writing fun p => { p with readWaiting := true }).port.readWaiting = true) ∧
    ((ran .writeBegin writing).port.path = .writing ∧ (ran .sampleReadBegin online).port.path = .reading ∧
      (reading 65535 0 true).voltage ≤ 65535 ∧ (reading 0 0 false).powerGood = false ∧ online.engine.check = none) ∧
    ((ran .writeBegin writing).port.onPort = some ⟨⟨2700, false⟩, false⟩ ∧ online.port.onPort = none ∧
      (ran (.setpointAcknowledgement 2700) (ran .writeBegin writing)).port.applied ≠
        (ran .writeBegin writing).port.applied) := by decide +kernel

/-- AcknowledgementMovesEngine: each phase that an answer moves. -/
def answered (phase : Phase) (c : Check) (drop : Bool) : State :=
  withPort (running phase c) fun p => { p with onPort := some ⟨⟨0, drop⟩, false⟩, standing := .opened }

theorem witness_answers :
    (∀ phase ∈ [Phase.ramp, .preload, .settle, .aborting],
      (answered phase rampCheck false).engine.phase = phase ∧ (answered phase rampCheck false).port.pending = none ∧
      (answered phase rampCheck false).engine.check = some rampCheck) ∧
    ((answered .step timeCheck false).engine.phase = .step ∧
      (withEngine (answered .settle rampCheck false) fun e => { e with tripped := true }).engine.tripped = true ∧
      (answered .settle rampCheck false).engine.tripped = false) ∧
    ((answered .quiet rampCheck true).engine.quiet = .drop ∧ (answered .quiet rampCheck true).port.standing = .opened ∧
      (answered .quiet rampCheck true).port.hold = false) ∧
    ((answered .aborting rampCheck true).engine.noResult = false ∧
      (answered .aborting rampCheck true).slotTable.slot 2 = .active head rampWork) := by decide +kernel

/-- EngineTimersEndCheck and EngineTimersGoOn: each phase with its timer run out. -/
def ended (phase : Phase) (c : Check) : State := withEngine (running phase c) fun e =>
  { e with
    startWait := some 1000000, rest := some 1000000, recoverWait := some 1000000, offTime := some 1000000
    shedHold := some 1000000, trip := { e.trip with timeOut := some 1000000 }
    derate := { e.derate with soakTimer := some 1000000 } }

theorem witness_engine_timers :
    (∀ phase ∈ [Phase.quiet, .soak, .claiming, .recover, .frozen, .step],
      (ended phase rampCheck).engine.phase = phase ∧ (ended phase rampCheck).engine.check = some rampCheck ∧
      (ended phase rampCheck).slotTable.slot rampCheck.slot = .active head rampWork ∧
      (ended phase rampCheck).slotTable.queue = [] ∧ (ended phase rampCheck).port.hold = false) ∧
    reached 1000000 (1000000 : Word) = true ∧ (running .step timeCheck).engine.runCount = 0 ∧
    0 < (withEngine (running .step timeCheck) fun e => { e with runCount := 1 }).engine.runCount := by decide +kernel

/-- The sets of EngineTimersEndCheck: power-good lost in SOAK and in CLAIMING, and back in RECOVER, a set at rest and sets
that are not, and QUIET waiting for power-good and counting rest. -/
def resting (stage : QuietStage) : State := withEngine (running .quiet rampCheck) fun e => { e with quiet := stage }

theorem witness_engine_sets :
    (∀ phase ∈ [Phase.soak, .claiming],
      (running phase derateCheck).engine.phase = phase ∧ (running phase derateCheck).port.commandedClosed = true) ∧
    ((withEngine (ended .recover rampCheck) fun e => { e with verdict := some ⟨.pass, 2752⟩ }).engine.verdict =
        some ⟨.pass, 2752⟩ ∧
      (ended .recover rampCheck).engine.recoverWait.isSome = true ∧
      (running .recover rampCheck).engine.recoverWait = none) ∧
    (∀ stage ∈ [QuietStage.powerGood, .rest],
      (resting stage).engine.phase = .quiet ∧ (resting stage).engine.quiet = stage ∧
      (resting stage).engine.restCount = 0 ∧ (resting stage).engine.check = some rampCheck) ∧
    (∀ x ∈ [set 48600 19 true, set 59400 0 true],
      x.current < 20 ∧ 54000 - 54000 / 10 ≤ x.voltage ∧ x.voltage ≤ 54000 + 54000 / 10 ∧ x.powerGood = true ∧
      x.alert = false) ∧
    ¬ (set 54000 20 true).current < 20 ∧
    ((resting .rest).engineSets [(1000001, set 54000 19 true), (1000002, set 54000 20 true)]).engine.restCount = 0 := by
  decide +kernel

/-- CollapseRun and FoldRun: a run of TRIP_TIME begun in PRELOAD and one in FROZEN, dwells one set short and complete
with later steps and at the plan's end, a run in progress at that end, and the final hold. -/
def shortDerate : DerateParams :=
  { derateParams with ramp := { derateParams.ramp with dwell := 2 }, blockSets := 2 }
def shortDerateCheck : Check := { derateCheck with params := .derate shortDerate }
def lastStep (c : Check) : State := withEngine (dwelling .ramp c) fun e => { e with stepIndex := some 7, dwellCount := 1 }
def holdingOn (phase : Phase) (c : Check) : State := withEngine (running phase c) fun e =>
  { e with finalHold := true, runCount := 1 }
def steadyTime : TimeParams := { timeParams with preDwell := 2 }

theorem witness_plan_states :
    (∀ phase ∈ [Phase.preload, .frozen],
      (running phase timeCheck).engine.phase = phase ∧ (running phase timeCheck).engine.runCount = 0 ∧
      (running phase timeCheck).engine.trip.origin = none) ∧
    (∀ s ∈ [dwelling .ramp shortCheck, dwelling .ramp shortDerateCheck,
        dwelling .preload { timeCheck with params := .tripTime steadyTime }, dwelling .step timeCheck],
      s.engine.dwellStart = some 1000000 ∧ s.engine.dwellCount = 0 ∧ s.engine.finalHold = false) ∧
    (steady.length = shortRamp.ramp.dwell ∧ steady.length = shortDerate.ramp.dwell ∧
      steady.length = steadyTime.preDwell ∧ steady.length = shortDerate.blockSets ∧
      ∀ x ∈ steady, earlier 1000000 x.1 = true ∧ tail.collapseVoltage ≤ x.2.voltage ∧
        shortDerate.foldVoltage ≤ x.2.voltage ∧ x.2.powerGood = true) ∧
    (∀ c ∈ [shortCheck, shortDerateCheck],
      (lastStep c).engine.stepIndex = some 7 ∧ (lastStep c).engine.stepCount = some 7 ∧
      (lastStep c).engine.dwellCount + 1 = 2 ∧ earlier 1000000 (lastStep c).time = false ∧
      earlier 1000000 { lastStep c with time := 1000002 }.time = true ∧
      (lastStep c).engine.runCount + 1 < tail.collapseCount) := by decide +kernel

theorem witness_holds_on :
    (∀ x ∈ [(Phase.ramp, rampCheck), (.step, timeCheck), (.ramp, derateCheck)],
      (holdingOn x.1 x.2).engine.finalHold = true ∧ (holdingOn x.1 x.2).engine.phase = x.1 ∧
      (holdingOn x.1 x.2).engine.check = some x.2) ∧
    ((running .soak shortDerateCheck).headroom.claim = .idle ∧ (running .soak shortDerateCheck).engine.phase = .soak ∧
      (running .claiming shortDerateCheck).engine.phase = .claiming ∧
      (running .soak shortDerateCheck).engine.derate.openBlock =
        { count := 0, sum := 0, least := none, greatest := none } ∧
      (300 : Int) ∈ steady.map (fun x => x.2.temperature)) ∧
    ((running .soak shortDerateCheck).engineSets steady).engine.derate.latest =
      some { number := 1, average := 300, spread := 0, good := false } := by decide +kernel

/-- CollapseRun, FoldRun and CurveIsPiecewiseLinear: runs one set short and complete, a step instant before the run and
one at its first set, and curves with each place of a temperature. -/
def folding : State := withEngine (running .ramp derateCheck) fun e =>
  { e with derate := { e.derate with band := some (bandAt derateParams 487), powerMaximum := 13000 } }

theorem witness_runs :
    (ramping.engine.check = some rampCheck ∧ ramping.engine.phase = .ramp ∧ ramping.engine.runCount = 0 ∧
      ramping.engine.trip.origin = none ∧ collapse.length = tail.collapseCount ∧
      (∀ x ∈ collapse, x.2.voltage < tail.collapseVoltage)) ∧
    (stepping.engine.check = some timeCheck ∧ stepping.engine.trip.origin = none ∧ stepping.engine.runCount = 0 ∧
      stepping.engine.phase = .step ∧ stepping.engine.trip.stepInstant = some 2400000 ∧
      earlier 2400000 (2400001 : Word) = true ∧ earlier 2400000 (2400000 : Word) = false) ∧
    (folding.engine.check = some derateCheck ∧ folding.engine.phase = .ramp ∧ folding.engine.runCount = 0 ∧
      folding.engine.derate.band.isSome = true ∧ folding.engine.derate.origin = none ∧
      (set 48499 0 true).voltage < derateParams.foldVoltage ∧ (set 0 0 false).powerGood = false) ∧
    (derateParams.curve.Pairwise (fun a b => a.temperature < b.temperature) ∧
      derateParams.curve = [⟨350, 18000⟩] ++ (⟨450, 15500⟩ : Point) :: ⟨520, 11200⟩ :: []) := by decide +kernel

end Sys2Proof.Tests
end

section
/-!
PROOF. What the shared operations keep, whatever the part is doing: start-up record, station time, line order counter,
effective limits, counters within 255, and an engine that is never left in RELEASE. One lemma for each operation, in the
order of Machine/.
-/

namespace Sys2Proof.Machine

/-! ### The phases that the engine's operations enter -/

@[simp] theorem State.writeSetpoint_engine (s : State) (v : Nat) :
    (s.writeSetpoint v).engine = { s.engine with awaiting := true } := rfl

@[simp] theorem State.settle_phase (s : State) (d : Determined) : (s.settle d).engine.phase = .settle := rfl
@[simp] theorem State.beginRamp_phase (s : State) (r : Ramp) : (s.beginRamp r).engine.phase = .ramp := rfl
@[simp] theorem State.beginPreload_phase (s : State) (p : TimeParams) :
    (s.beginPreload p).engine.phase = .preload := rfl
@[simp] theorem State.enterAbort_phase (s : State) (cause : Option Cause) (noResult : Bool) :
    (s.enterAbort cause noResult).engine.phase = .aborting := rfl
@[simp] theorem State.closeWasRefused_phase (s : State) : s.closeWasRefused.engine.phase = .aborting := rfl
@[simp] theorem State.freeze_phase (s : State) : s.freeze.engine.phase = .frozen := rfl
@[simp] theorem State.preloadDwellEnd_phase (s : State) (p : TimeParams) :
    (s.preloadDwellEnd p).engine.phase = .step := rfl
@[simp] theorem State.enterRecover_phase (s : State) (p : Params) : (s.enterRecover p).engine.phase = .recover := by
  simp [State.enterRecover]

@[simp] theorem State.dropCarry_phase (s : State) : s.dropCarry.engine.phase = s.engine.phase := by
  unfold State.dropCarry
  split <;> simp

/-- QUIET goes on to the contactor, and leaves the engine in QUIET or, at a refused close, in ABORTING (R126). -/
theorem State.quietContactor_phase (s : State) :
    s.quietContactor.engine.phase = s.engine.phase ∨ s.quietContactor.engine.phase = .aborting := by
  unfold State.quietContactor
  (repeat' split) <;> simp

theorem State.enterQuiet_phase (s : State) :
    s.enterQuiet.engine.phase = .quiet ∨ s.enterQuiet.engine.phase = .aborting := by
  unfold State.enterQuiet
  split
  · simp
  · exact State.quietContactor_phase _

theorem State.handOver_phase (s : State) (n : Fin 8) (h : SlotHead) (w : Work) :
    (s.handOver n h w).engine.phase = .quiet ∨ (s.handOver n h w).engine.phase = .aborting :=
  State.enterQuiet_phase _

/-! ### The relation -/

/-- `t` comes of `s` without a change of start-up record, station time, line order counter or effective limits, with
every count that was within 255 within it, and with the engine not left in RELEASE. -/
structure State.keeps (s t : State) : Prop where
  startup : t.startup = s.startup
  time : t.time = s.time
  order : t.line.order = s.line.order
  effective : t.guardUnit.effective = s.guardUnit.effective
  errors : s.line.receiveErrors ≤ Config.counterTop → t.line.receiveErrors ≤ Config.counterTop
  overruns : s.line.overruns ≤ Config.counterTop → t.line.overruns ≤ Config.counterTop
  foreign : s.line.foreign ≤ Config.counterTop → t.line.foreign ≤ Config.counterTop
  drops : s.line.replyDrops ≤ Config.counterTop → t.line.replyDrops ≤ Config.counterTop
  aged : s.headroom.aged ≤ Config.counterTop → t.headroom.aged ≤ Config.counterTop
  yields : s.headroom.yields ≤ Config.counterTop → t.headroom.yields ≤ Config.counterTop
  further : s.guardUnit.further ≤ Config.counterTop → t.guardUnit.further ≤ Config.counterTop
  phase : s.engine.phase ≠ .release → t.engine.phase ≠ .release

theorem State.keeps.refl (s : State) : s.keeps s := by constructor <;> simp

theorem State.keeps.trans {s t u : State} (a : s.keeps t) (b : t.keeps u) : s.keeps u where
  startup := b.startup.trans a.startup
  time := b.time.trans a.time
  order := b.order.trans a.order
  effective := b.effective.trans a.effective
  errors := b.errors ∘ a.errors
  overruns := b.overruns ∘ a.overruns
  foreign := b.foreign ∘ a.foreign
  drops := b.drops ∘ a.drops
  aged := b.aged ∘ a.aged
  yields := b.yields ∘ a.yields
  further := b.further ∘ a.further
  phase := b.phase ∘ a.phase

theorem State.keeps.station {s t : State} (h : s.keeps t) : t.station = s.station := by
  rw [State.station, h.startup, State.station]

/-- What an operation keeps, all counters of the part stay within 255. -/
theorem State.keeps.counters {s t : State} (h : s.keeps t) (hs : s.counterForm) : t.counterForm := by
  obtain ⟨clamps, errors, overruns, foreign, drops, aged, yields, further⟩ := hs
  exact ⟨h.startup ▸ clamps, h.errors errors, h.overruns overruns, h.foreign foreign, h.drops drops, h.aged aged,
    h.yields yields, h.further further⟩

theorem countUp_le (c n : Nat) : countUp c n ≤ Config.counterTop := Nat.min_le_right _ _

/-! ### One block replaced -/

theorem State.keeps.setEngine (s : State) (e : Engine) (h : s.engine.phase ≠ .release → e.phase ≠ .release) :
    s.keeps (s.setEngine e) := by
  constructor <;> simp
  simpa using h

theorem State.keeps.setPort (s : State) (p : Port) : s.keeps (s.setPort p) := by constructor <;> simp

theorem State.keeps.setSlotTable (s : State) (t : SlotTable) : s.keeps (s.setSlotTable t) := by constructor <;> simp

theorem State.keeps.setGuardUnit (s : State) (g : GuardUnit) (he : g.effective = s.guardUnit.effective)
    (hf : s.guardUnit.further ≤ Config.counterTop → g.further ≤ Config.counterTop) :
    s.keeps (s.setGuardUnit g) := by
  constructor <;> simp [he]
  exact hf

theorem State.keeps.setHeadroom (s : State) (u : Headroom)
    (ha : s.headroom.aged ≤ Config.counterTop → u.aged ≤ Config.counterTop)
    (hy : s.headroom.yields ≤ Config.counterTop → u.yields ≤ Config.counterTop) : s.keeps (s.setHeadroom u) := by
  constructor <;> simp <;> assumption

/-- A line unit after an operation of its own that counts no frame heard and no frame in error. -/
theorem State.keeps.setLine (s : State) (l : Line) (ho : l.order = s.line.order)
    (he : l.receiveErrors = s.line.receiveErrors) (hv : l.overruns = s.line.overruns)
    (hf : l.foreign = s.line.foreign)
    (hd : s.line.replyDrops ≤ Config.counterTop → l.replyDrops ≤ Config.counterTop) : s.keeps (s.setLine l) := by
  constructor <;> simp [ho, he, hv, hf]
  exact hd

/-! ### Offers, the setpoint path and the contactor -/

theorem Line.offerReplies_drops (l : Line) (block : Block) (group : List Frame)
    (h : l.replyDrops ≤ Config.counterTop) : (l.offerReplies block group).replyDrops ≤ Config.counterTop := by
  unfold Line.offerReplies
  split
  · simpa using h
  · exact countUp_le _ _

theorem State.offerReplies_keeps (s : State) (block : Block) (group : List Frame) :
    s.keeps (s.offerReplies block group) := by
  unfold State.offerReplies
  split
  · exact .setLine _ _ (by simp) (by simp) (by simp) (by simp) (Line.offerReplies_drops _ _ _)
  · exact .refl s

theorem State.offerClaim_keeps (s : State) (kind : ClaimKind) (held asked : Nat) :
    s.keeps (s.offerClaim kind held asked) := by
  unfold State.offerClaim
  split
  · exact (State.keeps.setLine _ _ (by simp) (by simp) (by simp) (by simp) (by simp)).trans
      (.setHeadroom _ _ (by simp) (by simp))
  · exact .refl s

theorem State.writeSetpoint_keeps (s : State) (v : Nat) : s.keeps (s.writeSetpoint v) := by constructor <;> simp

theorem State.writeDrop_keeps (s : State) : s.keeps s.writeDrop := .setPort _ _

theorem State.openContactor_keeps (s : State) (p : Port) : s.keeps (s.openContactor p) := by
  refine (State.keeps.setPort s p).trans (.setGuardUnit _ _ ?_ ?_) <;> split <;> simp

theorem State.requestOpen_keeps (s : State) : s.keeps s.requestOpen := State.openContactor_keeps _ _
theorem State.setHold_keeps (s : State) : s.keeps s.setHold := State.openContactor_keeps _ _
theorem State.releaseHold_keeps (s : State) : s.keeps s.releaseHold := .setPort _ _
theorem State.closeContactor_keeps (s : State) : s.keeps s.closeContactor := .setPort _ _

/-! ### The headroom unit -/

theorem State.markSuspect_keeps (s : State) : s.keeps s.markSuspect := by
  unfold State.markSuspect
  split
  · exact .setHeadroom _ _ (by simp) (by simp)
  · exact .refl s

theorem Headroom.lowered_yields (u : Headroom) (amount : Nat) (h : u.yields ≤ Config.counterTop) :
    (u.lowered amount).yields ≤ Config.counterTop := by
  unfold Headroom.lowered
  split <;> simp [h]

theorem State.tryLower_keeps (s : State) : s.keeps s.tryLower := by
  unfold State.tryLower
  split
  · split
    · split
      · exact (State.offerClaim_keeps _ _ _ _).trans (.setHeadroom _ _ (by simp) (Headroom.lowered_yields _ _))
      · exact .refl s
    · split
      · exact (State.offerClaim_keeps _ _ _ _).trans (.setHeadroom _ _ (by simp) (by simp))
      · exact .refl s
  · exact .refl s

theorem State.tryBar_keeps (s : State) : s.keeps s.tryBar := by
  unfold State.tryBar
  split
  · exact .setHeadroom _ _ (by simp) (by simp)
  · exact .refl s

theorem State.portReport_keeps (s : State) : s.keeps s.portReport := by
  unfold State.portReport
  split
  · exact s.tryBar_keeps
  · exact s.tryLower_keeps

theorem State.lowerToZero_keeps (s : State) : s.keeps s.lowerToZero :=
  (State.keeps.setHeadroom _ _ (by simp) (by simp)).trans (State.tryLower_keeps _)

/-- A need withdrawn while something is held: the hold is to come down to zero, else nothing is left to do. -/
theorem State.lowerIfHeld_keeps {s t : State} (h : s.keeps t) (held : Nat) :
    s.keeps (if held == 0 then t else t.lowerToZero) := by
  split
  · exact h
  · exact h.trans t.lowerToZero_keeps

theorem State.withdrawNeed_keeps (s : State) : s.keeps s.withdrawNeed := by
  unfold State.withdrawNeed
  split
  · exact .refl s
  · dsimp only
    split
    · exact State.lowerIfHeld_keeps ((State.keeps.setLine _ _ (by simp) (by simp) (by simp) (by simp) (by simp)).trans
        (.setHeadroom _ _ (by simp) (by simp))) _
    · exact State.lowerIfHeld_keeps ((State.keeps.setHeadroom _ _ (by simp) (by simp)).trans
        (State.offerClaim_keeps _ _ _ _)) _
    · exact State.lowerIfHeld_keeps (.setHeadroom _ _ (by simp) (by simp)) _
    · exact (State.keeps.setHeadroom _ _ (by simp) (by simp)).trans (State.lowerToZero_keeps _)
    all_goals exact .setHeadroom _ _ (by simp) (by simp)

theorem State.stateNeed_keeps (s : State) (amount priority : Nat) : s.keeps (s.stateNeed amount priority) := by
  unfold State.stateNeed
  dsimp only
  split
  · exact (State.keeps.setHeadroom _ _ (by simp) (by simp)).trans (State.offerClaim_keeps _ _ _ _)
  · split
    · exact (State.keeps.setHeadroom _ _ (by simp) (by simp)).trans (State.tryLower_keeps _)
    · exact (State.keeps.setHeadroom _ _ (by simp) (by simp)).trans (State.offerClaim_keeps _ _ _ _)
  all_goals exact .refl s

theorem State.claimCompleted_keeps (s : State) (kind : BitVec 5) (order : Word) (newest : Bool) :
    s.keeps (s.claimCompleted kind order newest) := by
  unfold State.claimCompleted
  dsimp only
  repeat' split
  case isFalse.isTrue.isTrue => exact State.offerClaim_keeps _ _ _ _
  case isFalse.isFalse.isTrue => exact .setHeadroom _ _ (by simp) (by simp)
  case isFalse.isFalse.isFalse.isTrue => exact .setHeadroom _ _ (by simp) (by simp)
  all_goals exact .refl s

theorem State.headroomSet_keeps (s : State) (x : SampleSet) : s.keeps (s.headroomSet x) := by
  unfold State.headroomSet
  split
  · have sagged : s.keeps (s.setHeadroom (s.headroom.sag s.config x.feeder).1) := .setHeadroom _ _ (by simp) (by simp)
    dsimp only
    split
    · exact sagged.trans (.setLine _ _ (by simp) (by simp) (by simp) (by simp) (by simp))
    · exact sagged
  · exact .refl s

/-! ### The slot table and its replies -/

theorem State.putSlot_keeps (s : State) (n : Fin 8) (x : Slot) : s.keeps (s.putSlot n x) := .setSlotTable _ _
theorem State.vacate_keeps (s : State) (n : Fin 8) : s.keeps (s.vacate n) := .setSlotTable _ _
theorem State.releaseLocks_keeps (s : State) (hits : Nat → Bool) : s.keeps (s.releaseLocks hits) := .setSlotTable _ _
theorem State.replySlot_keeps (s : State) (target : Address) (n : Fin 8) : s.keeps (s.replySlot target n) :=
  State.offerReplies_keeps _ _ _
theorem State.replyStatus_keeps (s : State) (block : Block) (target : Address) :
    s.keeps (s.replyStatus block target) := State.offerReplies_keeps _ _ _

theorem State.refuse_keeps (s : State) (block : Block) (f : Frame) (reason : Reason) (detail : Nat) :
    s.keeps (s.refuse block f reason detail) := by
  unfold State.refuse
  split
  · exact .refl s
  · exact State.offerReplies_keeps _ _ _

theorem State.answerSlot_keeps (s : State) (f : Frame) (n : Fin 8) : s.keeps (s.answerSlot f n) := by
  unfold State.answerSlot
  split
  · exact .refl s
  · exact State.replySlot_keeps _ _ _

/-- A frame handed on leaves the silo, and the line unit is otherwise as it was (R32). -/
theorem State.handOn_keeps {s s1 : State} {h : Heard} {cls kind : Nat} (hh : s.handOn cls kind = some (h, s1)) :
    s.keeps s1 := by
  unfold State.handOn at hh
  split at hh
  · split at hh
    · cases hh
    · split at hh
      · cases hh
        exact .setLine _ _ rfl rfl rfl rfl id
      · cases hh
  · cases hh

/-! ### The engine: loading and QUIET -/

theorem State.settle_keeps (s : State) (d : Determined) : s.keeps (s.settle d) :=
  (State.keeps.setEngine _ _ (by simp)).trans (State.writeSetpoint_keeps _ _)

theorem State.beginRamp_keeps (s : State) (r : Ramp) : s.keeps (s.beginRamp r) :=
  (State.keeps.setEngine _ _ (by simp)).trans (State.writeSetpoint_keeps _ _)

theorem State.beginPreload_keeps (s : State) (p : TimeParams) : s.keeps (s.beginPreload p) :=
  (State.keeps.setEngine _ _ (by simp)).trans (State.writeSetpoint_keeps _ _)

theorem State.granted_keeps (s : State) (atOnce : Bool) : s.keeps (s.granted atOnce) := by
  unfold State.granted
  split
  case h_1 c _ _ =>
    refine State.keeps.trans (State.keeps.setEngine s
      { s.engine.leaveClaiming s.time with
        claimAmount := c.need, carried := s.engine.carried || (atOnce && c.params.isTrip) } (by simp)) ?_
    dsimp only
    split
    · exact State.beginRamp_keeps _ _
    · exact State.beginPreload_keeps _ _
    · split
      · exact (State.keeps.setEngine _ _ (by simp)).trans (State.beginRamp_keeps _ _)
      · exact (State.keeps.setEngine _ _ (by simp)).trans (State.withdrawNeed_keeps _)
  case h_2 => exact .refl s

theorem State.enterClaiming_keeps (s : State) (c : Check) : s.keeps (s.enterClaiming c) := by
  unfold State.enterClaiming
  have stated := (State.keeps.setEngine s
    { s.engine with phase := .claiming, claimingSince := s.time, carry := false } (by simp)).trans
    (State.stateNeed_keeps _ c.need c.priority)
  dsimp only
  split
  · exact stated.trans (State.granted_keeps _ _)
  · exact stated

theorem State.restShown_keeps (s : State) (c : Check) : s.keeps (s.restShown c) := by
  unfold State.restShown
  refine State.keeps.trans (State.keeps.setEngine s { s.engine with rest := none, restCount := 0 } id) ?_
  dsimp only
  split
  · exact .setEngine _ _ (by simp)
  all_goals exact State.enterClaiming_keeps _ _

theorem State.enterAbort_keeps (s : State) (cause : Option Cause) (noResult : Bool) :
    s.keeps (s.enterAbort cause noResult) :=
  (State.keeps.setEngine _ _ (by simp)).trans (State.writeDrop_keeps _)

theorem State.closeWasRefused_keeps (s : State) : s.keeps s.closeWasRefused :=
  (State.enterAbort_keeps _ _ _).trans (.setEngine _ _ (by simp))

theorem State.quietContactor_keeps (s : State) : s.keeps s.quietContactor := by
  unfold State.quietContactor
  split
  · exact .setEngine _ _ id
  · split
    · exact s.closeWasRefused_keeps
    · refine State.keeps.trans (.setEngine _ _ ?_) (State.closeContactor_keeps _)
      exact id

theorem State.enterQuiet_keeps (s : State) : s.keeps s.enterQuiet := by
  unfold State.enterQuiet
  split
  · exact (State.keeps.setEngine _ _ (by simp)).trans (State.writeDrop_keeps _)
  · exact (State.keeps.setEngine _ _ (by simp)).trans (State.quietContactor_keeps _)

/-! ### The engine: the start of a slot and the end of a check -/

theorem State.dropCarry_keeps (s : State) : s.keeps s.dropCarry := by
  unfold State.dropCarry
  split
  · exact (State.keeps.setEngine s { s.engine with carry := false } id).trans (State.withdrawNeed_keeps _)
  · exact .refl s

theorem State.settleCarry_keeps (s : State) (w : Work) : s.keeps (s.settleCarry w) := by
  unfold State.settleCarry
  split
  · split
    · exact .refl s
    · exact (State.keeps.setEngine s { s.engine with carry := false } id).trans (State.withdrawNeed_keeps _)
  · exact .refl s

theorem State.handOver_keeps (s : State) (n : Fin 8) (h : SlotHead) (w : Work) : s.keeps (s.handOver n h w) :=
  (((State.settleCarry_keeps s w).trans (.setEngine _ _ (by simp))).trans (.setPort _ _)).trans
    (State.enterQuiet_keeps _)

theorem State.examineStart_keeps (s : State) : s.keeps s.examineStart := by
  unfold State.examineStart
  split
  · exact .refl s
  · exact (State.keeps.setSlotTable _ _).trans (State.handOver_keeps _ _ _ _)

theorem State.completeReset_keeps (s : State) : s.keeps s.completeReset := by
  unfold State.completeReset
  split
  · exact .refl s
  · have cleared := State.keeps.setGuardUnit s { s.guardUnit with resetting := none } rfl id
    dsimp only
    split
    · exact cleared
    · exact cleared.trans (State.replyStatus_keeps _ _ _)

theorem State.reportIdle_keeps (s : State) : s.keeps s.reportIdle := by
  unfold State.reportIdle
  dsimp only
  split
  · exact s.completeReset_keeps.trans (State.examineStart_keeps _)
  · exact s.completeReset_keeps.trans (State.dropCarry_keeps _)

theorem State.finishCheck_keeps (s : State) (carry : Bool) : s.keeps (s.finishCheck carry) :=
  ((State.keeps.setEngine s { Engine.reset with carry := carry } (by simp [Engine.reset])).trans (.setPort _ _)).trans
    (State.reportIdle_keeps _)

theorem State.slotDone_keeps (s : State) (n : Fin 8) (r : ResultRecord) : s.keeps (s.slotDone n r) := by
  unfold State.slotDone
  split
  · exact (State.putSlot_keeps _ _ _).trans (State.offerReplies_keeps _ _ _)
  · exact .refl s

theorem State.handBack_keeps (s : State) (r : ResultRecord) : s.keeps (s.handBack r) := by
  unfold State.handBack
  split
  · exact .refl s
  · exact State.slotDone_keeps _ _ _

/-- A check ends: need withdrawn or kept, result handed back, record reset, whatever phase it stood in. -/
theorem State.release_keeps (s : State) : s.keeps s.release := by
  unfold State.release
  dsimp only
  refine State.keeps.trans (State.keeps.setEngine s (s.engine.leaveClaiming s.time) (by simp)) ?_
  refine State.keeps.trans ?_ ((State.handBack_keeps _ _).trans (State.finishCheck_keeps _ _))
  split
  · exact .refl _
  · exact State.withdrawNeed_keeps _

theorem State.notRun_keeps (s : State) (cause : Cause) : s.keeps (s.notRun cause) := by
  unfold State.notRun
  refine State.keeps.trans (.setEngine _ _ ?_) (State.release_keeps _)
  exact id

theorem State.vacateActive_keeps (s : State) : s.keeps s.vacateActive := by
  unfold State.vacateActive
  split
  · exact .refl s
  · split
    · exact State.putSlot_keeps _ _ _
    · exact .refl s

theorem State.finishAbort_keeps (s : State) (mismatched : Bool) : s.keeps (s.finishAbort mismatched) := by
  have opened : s.keeps (if s.engine.abortOpens mismatched then s.requestOpen else s) := by
    split
    · exact s.requestOpen_keeps
    · exact .refl s
  unfold State.finishAbort
  generalize (if s.engine.abortOpens mismatched then s.requestOpen else s) = u at opened
  dsimp only
  refine opened.trans (u.withdrawNeed_keeps.trans (State.keeps.trans ?_ (State.finishCheck_keeps _ _)))
  split
  · exact State.vacateActive_keeps _
  · exact State.handBack_keeps _ _

theorem State.beginAbort_keeps (s : State) (cause : Option Cause) (noResult : Bool) :
    s.keeps (s.beginAbort cause noResult) := by
  unfold State.beginAbort
  dsimp only
  split
  · exact (State.enterAbort_keeps _ _ _).trans (State.finishAbort_keeps _ _)
  · exact State.enterAbort_keeps _ _ _

theorem State.secondCause_keeps (s : State) (cause : Cause) : s.keeps (s.secondCause cause) := by
  unfold State.secondCause
  dsimp only
  split
  · exact .setEngine _ _ id
  · split
    · exact .setEngine _ _ id
    · split
      · refine State.keeps.trans (State.keeps.setEngine s
          { s.engine with furtherFault := true, mustOpen := s.engine.mustOpen || cause.opens } id) ?_
        split
        · exact State.finishAbort_keeps _ _
        · exact .refl _
      · exact .refl s

theorem State.orderAbort_keeps (s : State) (cause : Cause) : s.keeps (s.orderAbort cause) := by
  unfold State.orderAbort
  split
  case h_12 => exact State.secondCause_keeps _ _
  case h_1 => split; exacts [s.dropCarry_keeps, .refl s]
  case h_9 | h_10 => split; exacts [.refl s, State.beginAbort_keeps _ _ _]
  case h_11 => exact .refl s
  all_goals exact State.beginAbort_keeps _ _ _

theorem State.resetEngine_keeps (s : State) : s.keeps s.resetEngine := by
  unfold State.resetEngine
  split
  case h_1 => exact s.dropCarry_keeps.trans (State.reportIdle_keeps _)
  case h_2 => exact .setEngine _ _ id
  all_goals exact State.beginAbort_keeps _ _ _

/-! ### The engine: shed events and sample sets -/

theorem State.freeze_keeps (s : State) : s.keeps s.freeze :=
  (State.keeps.setEngine _ _ (by simp)).trans (State.writeSetpoint_keeps _ _)

theorem State.engineShed_keeps (s : State) : s.keeps s.engineShed := by
  unfold State.engineShed
  split
  case h_1 | h_2 | h_3 => split; exacts [s.freeze_keeps, State.beginAbort_keeps _ _ _]
  case h_4 => exact .setEngine _ _ id
  all_goals exact .refl s

theorem State.shedEvent_keeps (s : State) (order : Word) : s.keeps (s.shedEvent order) :=
  (State.keeps.setHeadroom _ _ (by simp) (by simp)).trans (State.engineShed_keeps _)

theorem State.ownShed_keeps (s : State) (e : Entry) (order : Word) : s.keeps (s.ownShed e order) := by
  unfold State.ownShed
  split
  · exact s.engineShed_keeps
  · exact State.shedEvent_keeps _ _

theorem State.countRest_keeps (s : State) (c : Check) (x : SampleSet) : s.keeps (s.countRest c x) := by
  unfold State.countRest
  generalize (if x.atRest s.config.nominalVoltage then s.engine.restCount + 1 else 0) = n
  dsimp only
  split
  · exact State.restShown_keeps _ _
  · exact .setEngine _ _ id

theorem State.quietSet_keeps (s : State) (c : Check) (x : SampleSet) : s.keeps (s.quietSet c x) := by
  unfold State.quietSet
  split
  · exact .refl s
  · split
    · refine State.keeps.trans (.setEngine _ _ ?_) (State.countRest_keeps _ _ _)
      exact id
    · exact .refl s
  · exact State.countRest_keeps _ _ _

theorem State.soakSet_keeps (s : State) (c : Check) (p : DerateParams) (x : SampleSet) :
    s.keeps (s.soakSet c p x) := by
  unfold State.soakSet
  split
  · exact s.requestOpen_keeps.trans (State.notRun_keeps _ _)
  · have soaked := State.keeps.setEngine s { s.engine with derate := s.engine.derate.soak p x.temperature } id
    dsimp only
    split
    · exact soaked.trans (State.enterClaiming_keeps _ _)
    · exact soaked

theorem State.planEnd_keeps (s : State) (d : Determined) : s.keeps (s.planEnd d) := by
  unfold State.planEnd
  split
  · exact State.settle_keeps _ _
  · exact .setEngine _ _ id

theorem State.rampDwellEnd_keeps (s : State) (p : Params) (r : Ramp) : s.keeps (s.rampDwellEnd p r) := by
  unfold State.rampDwellEnd
  dsimp only
  split
  · refine State.keeps.trans (.setEngine _ _ ?_) (State.writeSetpoint_keeps _ _)
    exact id
  · refine State.keeps.trans (.setEngine _ _ ?_) (State.planEnd_keeps _ _)
    exact id

theorem State.preloadDwellEnd_keeps (s : State) (p : TimeParams) : s.keeps (s.preloadDwellEnd p) :=
  (State.keeps.setEngine _ _ (by simp)).trans (State.writeSetpoint_keeps _ _)

theorem State.dwellCounted_keeps (s : State) : s.keeps s.dwellCounted := .setEngine _ _ id

theorem State.countDwell_keeps (s : State) (length : Nat) (atEnd : State → State) (h : ∀ u : State, u.keeps (atEnd u)) :
    s.keeps (s.countDwell length atEnd) := by
  obtain ⟨_, he⟩ | ⟨_, _, he⟩ | ⟨_, _, he⟩ := s.countDwell_cases length atEnd <;> rw [he]
  · exact .refl s
  · exact s.dwellCounted_keeps
  · exact s.dwellCounted_keeps.trans (h _)

theorem State.dwellSet_keeps (s : State) (p : Params) : s.keeps (s.dwellSet p) := by
  unfold State.dwellSet
  split
  case h_1 | h_2 => exact State.countDwell_keeps _ _ _ (State.rampDwellEnd_keeps · _ _)
  case h_3 => exact State.countDwell_keeps _ _ _ (State.preloadDwellEnd_keeps · _)
  case h_4 => split; exacts [s.dwellCounted_keeps, .refl s]
  case h_5 => exact .refl s

theorem State.runBroken_keeps (s : State) (p : Params) : s.keeps (s.runBroken p) := by
  unfold State.runBroken
  have broken := State.keeps.setEngine s { s.engine with
    runCount := 0, trip := { s.engine.trip with origin := none }, derate := { s.engine.derate with origin := none } } id
  dsimp only
  split
  · exact broken.trans (State.settle_keeps _ _)
  · exact broken.trans (State.dwellSet_keeps _ _)

theorem State.collapseSet_keeps (s : State) (p : Params) (t : TripTail) (before : Nat) (x : SampleSet) :
    s.keeps (s.collapseSet p t before x) := by
  unfold State.collapseSet
  dsimp only
  split
  · split
    · exact State.settle_keeps _ _
    · refine State.keeps.trans (.setEngine _ _ ?_) (State.dwellSet_keeps _ _)
      exact id
  · exact State.runBroken_keeps _ _

theorem State.raisePower_keeps (s : State) (x : SampleSet) : s.keeps (s.raisePower x) := by
  unfold State.raisePower
  split
  · exact .setEngine _ _ id
  · exact .refl s

theorem State.foldSet_keeps (s : State) (p : DerateParams) (x : SampleSet) : s.keeps (s.foldSet p x) := by
  unfold State.foldSet
  dsimp only
  split
  · split
    · exact (s.raisePower_keeps x).trans (State.settle_keeps _ _)
    · refine (s.raisePower_keeps x).trans (State.keeps.trans (.setEngine _ _ ?_) (State.dwellSet_keeps _ _))
      exact id
  · exact (s.raisePower_keeps x).trans (State.runBroken_keeps _ _)

theorem State.markTripped_keeps (s : State) (x : SampleSet) : s.keeps (s.markTripped x) := .setEngine _ _ id

theorem State.loadingSet_keeps (s : State) (c : Check) (before : Nat) (x : SampleSet) :
    s.keeps (s.loadingSet c before x) := by
  unfold State.loadingSet
  refine (s.markTripped_keeps x).trans ?_
  dsimp only
  split
  · exact State.collapseSet_keeps _ _ _ _ _
  · exact State.collapseSet_keeps _ _ _ _ _
  · exact State.foldSet_keeps _ _ _

theorem State.engineSet_keeps (s : State) (x : SampleSet) : s.keeps (s.engineSet x) := by
  unfold State.engineSet
  split
  · exact .refl s
  · refine State.keeps.trans (State.keeps.setEngine s (s.engine.takeIn x) (by simp)) ?_
    dsimp only
    split
    case h_1 => exact State.quietSet_keeps _ _ _
    case h_2 | h_3 => exact State.soakSet_keeps _ _ _ _
    case h_4 | h_5 | h_6 | h_7 => exact State.loadingSet_keeps _ _ _ _
    case h_8 => exact State.markTripped_keeps _ _
    case h_9 => split; exacts [State.release_keeps _, .refl _]
    case h_10 => exact .refl _

/-! ### The engine: answers to setpoints -/

theorem State.enterRecover_keeps (s : State) (p : Params) : s.keeps (s.enterRecover p) :=
  (State.keeps.setEngine _ _ (by simp)).trans (State.requestOpen_keeps _)

theorem State.stepAcknowledged_keeps (s : State) (p : TimeParams) : s.keeps (s.stepAcknowledged p) :=
  .setEngine _ _ id

theorem State.newestAcknowledged_keeps (s : State) (c : Check) : s.keeps (s.newestAcknowledged c) := by
  have taken := State.keeps.setEngine s { s.engine with awaiting := false } id
  have begun := taken.trans (.setEngine _ { s.engine with
    awaiting := false, dwellStart := some s.time, dwellCount := 0 } id)
  unfold State.newestAcknowledged
  dsimp only
  split
  case h_1 | h_2 => exact begun
  case h_3 => exact begun.trans (State.stepAcknowledged_keeps _ _)
  case h_4 => split; exacts [taken.trans (State.enterRecover_keeps _ _), taken.trans (State.release_keeps _)]
  case h_5 => exact taken

theorem State.setpointAcknowledged_keeps (s : State) (c : Check) : s.keeps (s.setpointAcknowledged c) := by
  unfold State.setpointAcknowledged
  split
  · exact State.newestAcknowledged_keeps _ _
  · split
    · exact State.stepAcknowledged_keeps _ _
    · exact .refl s

theorem State.dropAcknowledged_keeps (s : State) : s.keeps s.dropAcknowledged := by
  unfold State.dropAcknowledged
  dsimp only
  split
  case h_1 =>
    split
    · split
      · exact s.quietContactor_keeps.trans (State.finishAbort_keeps _ _)
      · exact s.quietContactor_keeps
    · exact .refl s
  case h_2 => exact State.finishAbort_keeps _ _
  case h_3 => exact .refl s

theorem State.engineAcknowledged_keeps (s : State) (sp : Setpoint) : s.keeps (s.engineAcknowledged sp) := by
  unfold State.engineAcknowledged
  split
  · exact s.dropAcknowledged_keeps
  · split
    · exact .refl s
    · exact State.setpointAcknowledged_keeps _ _

/-! ### The guard unit -/

theorem State.latchFault_keeps (s : State) (cause : Cause) : s.keeps (s.latchFault cause) := by
  unfold State.latchFault
  split
  · have latched := State.keeps.setGuardUnit s { s.guardUnit with latch := some cause, further := 0 } rfl (by simp)
    exact latched.trans ((State.setHold_keeps _).trans (State.orderAbort_keeps _ _))
  · have counted := State.keeps.setGuardUnit s { s.guardUnit with further := countUp s.guardUnit.further 1 } rfl
      (fun _ => countUp_le _ _)
    exact counted.trans (State.orderAbort_keeps _ _)

theorem State.latchFaults_keeps (s : State) (causes : List Cause) : s.keeps (causes.foldl State.latchFault s) := by
  induction causes generalizing s with
  | nil => exact .refl s
  | cons cause rest ih => exact (s.latchFault_keeps cause).trans (ih _)

theorem State.guardSet_keeps (s : State) (x : SampleSet) : s.keeps (s.guardSet x) := by
  unfold State.guardSet
  split
  · exact .refl s
  · split
    · refine State.keeps.trans (.setGuardUnit _ _ ?_ ?_) (State.latchFaults_keeps _ _)
      exacts [rfl, id]
    · exact .refl s

theorem State.clearLatch_keeps (s : State) : s.keeps s.clearLatch := by
  have cleared := State.keeps.setGuardUnit s { s.guardUnit with latch := none, further := 0 } rfl (by simp)
  exact cleared.trans ((State.releaseHold_keeps _).trans ((State.examineStart_keeps _).trans
    (State.latchFaults_keeps _ _)))

/-! ### Sets and answers as the port offers them -/

theorem State.offerSet_keeps (s : State) (x : SampleSet) (order : SetOrder) : s.keeps (s.offerSet x order) := by
  unfold State.offerSet
  split
  · exact ((s.guardSet_keeps x).trans (State.engineSet_keeps _ _)).trans (State.headroomSet_keeps _ _)
  · exact ((s.engineSet_keeps x).trans (State.guardSet_keeps _ _)).trans (State.headroomSet_keeps _ _)

theorem State.answerMatches_keeps (s : State) (sp : Setpoint) : s.keeps (s.answerMatches sp) :=
  ((State.keeps.setPort _ _).trans (State.engineAcknowledged_keeps _ _)).trans (State.portReport_keeps _)

theorem State.answerDiffers_keeps (s : State) (sp : Setpoint) : s.keeps (s.answerDiffers sp) := by
  unfold State.answerDiffers
  dsimp only
  split
  · exact (s.latchFault_keeps _).trans (State.finishAbort_keeps _ _)
  · exact s.latchFault_keeps _

/-! ### Requests -/

theorem State.examinedReply_keeps (s : State) (target : Address) (n : Fin 8) :
    s.keeps (s.replySlot target n).examineStart :=
  (State.replySlot_keeps _ _ _).trans (State.examineStart_keeps _)

theorem State.takeOpen_keeps (s : State) (h : Heard) : s.keeps (s.takeOpen h) := by
  unfold State.takeOpen
  (repeat' split) <;> first | exact State.refuse_keeps _ _ _ _ _ | exact .setSlotTable _ _

theorem State.validateSlot_keeps (s : State) (f : Frame) (n : Fin 8) (head : SlotHead) (parts : List (List Byte)) :
    s.keeps (s.validateSlot f n head parts) := by
  unfold State.validateSlot
  split
  · exact (s.vacate_keeps n).trans (State.refuse_keeps _ _ _ _ _)
  · exact (State.keeps.setSlotTable _ _).trans (State.examinedReply_keeps _ _ _)

theorem State.takeOwnPart_keeps (s : State) (f : Frame) (n : Fin 8) (head : SlotHead) (expected : Nat)
    (parts : List (List Byte)) (deadline : Word) : s.keeps (s.takeOwnPart f n head expected parts deadline) := by
  unfold State.takeOwnPart
  dsimp only
  split
  · split
    · exact State.putSlot_keeps _ _ _
    · exact State.validateSlot_keeps _ _ _ _ _
  · exact (s.vacate_keeps n).trans (State.refuse_keeps _ _ _ _ _)

theorem State.takePart_keeps (s : State) (f : Frame) : s.keeps (s.takePart f) := by
  unfold State.takePart
  (repeat' split) <;> first | exact State.refuse_keeps _ _ _ _ _ | exact State.takeOwnPart_keeps _ _ _ _ _ _ _

theorem State.cancelSlot_keeps (s : State) (f : Frame) (n : Fin 8) : s.keeps (s.cancelSlot f n) := by
  unfold State.cancelSlot
  split
  case h_1 | h_2 => exact State.refuse_keeps _ _ _ _ _
  case h_3 => split; exacts [(s.vacate_keeps n).trans (State.answerSlot_keeps _ _ _), State.refuse_keeps _ _ _ _ _]
  case h_4 => exact (s.vacate_keeps n).trans (State.answerSlot_keeps _ _ _)
  case h_5 => exact (s.orderAbort_keeps _).trans (State.answerSlot_keeps _ _ _)

theorem State.cancelAll_keeps (s : State) : s.keeps s.cancelAll := by
  unfold State.cancelAll
  dsimp only
  split
  · exact (State.keeps.setSlotTable _ _).trans (State.orderAbort_keeps _ _)
  · exact .setSlotTable _ _

theorem State.takeCancel_keeps (s : State) (f : Frame) : s.keeps (s.takeCancel f) := by
  unfold State.takeCancel
  split
  · exact State.refuse_keeps _ _ _ _ _
  · split
    · exact State.cancelSlot_keeps _ _ _
    · split
      · exact s.cancelAll_keeps
      · exact State.refuse_keeps _ _ _ _ _

theorem State.takeClear_keeps (s : State) (f : Frame) : s.keeps (s.takeClear f) := by
  unfold State.takeClear
  (repeat' split) <;> first
    | exact State.refuse_keeps _ _ _ _ _
    | exact (State.vacate_keeps _ _).trans (State.replySlot_keeps _ _ _)

theorem State.fetchResult_keeps (s : State) (f : Frame) (n : Fin 8) (h : SlotHead) (w : Work) (r : ResultRecord) :
    s.keeps (s.fetchResult f n h w r) := by
  unfold State.fetchResult
  dsimp only
  split
  · exact (State.offerReplies_keeps _ _ _).trans (State.putSlot_keeps _ _ _)
  · exact State.offerReplies_keeps _ _ _

theorem State.takeFetch_keeps (s : State) (f : Frame) : s.keeps (s.takeFetch f) := by
  unfold State.takeFetch
  (repeat' split) <;> first
    | exact State.refuse_keeps _ _ _ _ _
    | exact State.replySlot_keeps _ _ _
    | exact State.fetchResult_keeps _ _ _ _ _ _

theorem State.takeStatus_keeps (s : State) (f : Frame) : s.keeps (s.takeStatus f) := by
  unfold State.takeStatus
  split
  · exact State.refuse_keeps _ _ _ _ _
  · exact State.replyStatus_keeps _ _ _

theorem State.takeClearFault_keeps (s : State) (f : Frame) : s.keeps (s.takeClearFault f) := by
  unfold State.takeClearFault
  (repeat' split) <;> first
    | exact State.refuse_keeps _ _ _ _ _
    | exact s.clearLatch_keeps.trans (State.replyStatus_keeps _ _ _)

theorem State.takeClaim_keeps (s : State) (h : Heard) (apply : Nat × Nat × Nat → List Peer → List Peer) :
    s.keeps (s.takeClaim h apply) := by
  unfold State.takeClaim
  split
  · split
    · exact .setHeadroom _ _ id id
    · exact s.markSuspect_keeps
  · exact .refl s

/-! ### The contest and the own frames -/

theorem State.grantContest_keeps (s : State) (amount : Nat) : s.keeps (s.grantContest amount) := by
  refine State.keeps.trans (.setHeadroom _ _ ?_ ?_) ((State.offerClaim_keeps _ _ _ _).trans (State.granted_keeps _ _))
  exacts [id, fun _ => Nat.zero_le _]

theorem State.yieldContest_keeps (s : State) : s.keeps s.yieldContest := by
  refine State.keeps.trans (.setHeadroom _ _ ?_ ?_) (State.offerClaim_keeps _ _ _ _)
  exacts [id, fun _ => countUp_le _ _]

@[simp] theorem State.reportFailed_frame (s : State) (e : Entry) :
    (s.reportFailed e).station = s.station ∧ (s.reportFailed e).engine = s.engine ∧
    (s.reportFailed e).port = s.port := by
  unfold State.reportFailed
  split <;> simp

theorem State.reportFailed_keeps (s : State) (e : Entry) : s.keeps (s.reportFailed e) := by
  unfold State.reportFailed
  split
  · exact State.releaseLocks_keeps _ _
  · exact .refl s

theorem State.reportCompleted_keeps (s : State) (e : Entry) (order : Word) : s.keeps (s.reportCompleted e order) := by
  unfold State.reportCompleted
  dsimp only
  split
  · exact (State.claimCompleted_keeps _ _ _ _).trans
      (.setLine _ _ (by simp) (by simp) (by simp) (by simp) (by simp))
  · split
    · exact State.ownShed_keeps _ _ _
    · exact State.releaseLocks_keeps _ _

end Sys2Proof.Machine
end

section
/-!
PROOF. What each command keeps. The commands that are not ordinary here move station time or the station state, number a
frame on the line, or set the effective limits.
-/
namespace Sys2Proof.Machine

/-- The commands that leave station time, start-up record, line order counter and effective limits as they are. -/
def ordinary : Instr → Bool
  | .powerReset _ | .stationTimeTick | .configReadComplete _ | .configReadNotAcknowledged | .configReadTimeout
  | .loopedFrameReceived _ | .selfLoopTimeout | .joinTimerExpiry | .frameSent | .sendCollision | .frameReceived _ _
  | .tighten | .bayReset => false
  | _ => true

variable {s t : State}

/-- What a command makes of the frame that it hands on, with the frame's class and kind (R32). -/
def takesFrame : Instr → Option (Nat × Nat × (Heard → State → State))
  | .shed => some (0, 0, fun h u => if u.station.builds then u.shedEvent h.order else u)
  | .ask => some (1, 0, fun h u => u.takeClaim h fun f => applyAsk h f.1 f.2.1 f.2.2)
  | .hold => some (1, 1, fun h u => u.takeClaim h fun f => applyHold h f.1 f.2.2)
  | .drop => some (1, 2, fun h u => u.takeClaim h fun f => applyHold h f.1 f.2.2)
  | .openSlot => some (2, 0, fun h u => u.takeOpen h)
  | .part => some (2, 1, fun h u => u.takePart h.frame)
  | .cancel => some (2, 2, fun h u => u.takeCancel h.frame)
  | .clear => some (2, 3, fun h u => u.takeClear h.frame)
  | .fetch => some (2, 4, fun h u => u.takeFetch h.frame)
  | .status => some (2, 5, fun h u => u.takeStatus h.frame)
  | .tighten => some (2, 6, fun h u => u.takeTighten h.frame)
  | .clearFault => some (2, 7, fun h u => u.takeClearFault h.frame)
  | .bayReset => some (2, 8, fun h u => u.takeBayReset h.frame)
  | _ => none

/-- A command of the silo does nothing, or takes the frame that the line unit hands on (R32). -/
theorem exec_takesFrame {c : Instr} {cls kind : Nat} {take : Heard → State → State}
    (hc : takesFrame c = some (cls, kind, take)) (ht : exec c s = .next t) :
    t = s ∨ ∃ h u, s.handOn cls kind = some (h, u) ∧ t = take h u := by
  cases c <;> cases hc
  all_goals
    cases ht
    split
    case h_1 => exact .inl rfl
    case h_2 h u hh => exact .inr ⟨h, u, hh, rfl⟩

theorem handedOn_keeps {c : Instr} {cls kind : Nat} {take : Heard → State → State}
    (hc : takesFrame c = some (cls, kind, take)) (ht : exec c s = .next t)
    (hk : ∀ h u, State.keeps u (take h u)) : s.keeps t := by
  obtain rfl | ⟨h, u, hh, rfl⟩ := exec_takesFrame hc ht
  · exact .refl _
  · exact (State.handOn_keeps hh).trans (hk h u)

/-! ### The bay line -/

theorem execTransmitStart_keeps (ht : execTransmitStart s = .next t) : s.keeps t := by
  cases ht
  split
  · split
    · exact .setLine _ _ rfl rfl rfl rfl id
    · exact .refl s
  · exact .refl s

theorem execArbitrationLost_keeps (ht : execArbitrationLost s = .next t) : s.keeps t := by
  cases ht
  split
  · exact .refl s
  · refine State.keeps.trans (.setLine _ _ ?_ ?_ ?_ ?_ ?_) (State.reportFailed_keeps _ _) <;> simp

theorem execReceivedInError_keeps {bits : List Bool} (ht : execReceivedInError bits s = .next t) : s.keeps t := by
  cases ht
  split
  · exact .refl s
  · split
    · have counted : s.keeps (s.setLine { s.line with
          judgement := .busy, receiveErrors := countUp s.line.receiveErrors 1 }) := by
        constructor <;> simp [countUp_le]
      exact counted.trans (State.markSuspect_keeps _)
    · exact .refl s

theorem execAbortRunSeen_keeps (ht : execAbortRunSeen s = .next t) : s.keeps t := by
  cases ht
  split
  · exact .refl s
  · exact .setLine _ _ rfl rfl rfl rfl id

theorem execLineIdle_keeps (ht : execLineIdle s = .next t) : s.keeps t := by
  cases ht
  split
  · exact .setLine _ _ rfl rfl rfl rfl id
  · exact .refl s

/-! ### The slot table and the headroom unit -/

theorem State.takeShed_keeps (s : State) (order : Word) : s.keeps (if s.station.builds then s.shedEvent order else s) := by
  split
  · exact State.shedEvent_keeps _ _
  · exact .refl s

theorem execAssemblyDeadlineExpiry_keeps {n : Fin 8} (ht : execAssemblyDeadlineExpiry n s = .next t) : s.keeps t := by
  cases ht
  split
  case h_1 =>
    split
    · exact (s.vacate_keeps n).trans (State.offerReplies_keeps _ _ _)
    · exact .refl s
  all_goals exact .refl s

theorem execContestDecision_keeps (ht : execContestDecision s = .next t) : s.keeps t := by
  cases ht
  split
  · split
    · split
      · exact State.grantContest_keeps _ _
      · exact s.yieldContest_keeps
    · exact .refl s
  · exact .refl s

theorem execBackoffTimerExpiry_keeps (ht : execBackoffTimerExpiry s = .next t) : s.keeps t := by
  cases ht
  split
  · split
    · refine State.keeps.trans (.setHeadroom _ _ ?_ ?_) (State.offerClaim_keeps _ _ _ _)
      exacts [id, id]
    · exact .refl s
  · exact .refl s

theorem execRefreshTimerExpiry_keeps (ht : execRefreshTimerExpiry s = .next t) : s.keeps t := by
  cases ht
  split
  · refine State.keeps.trans (.setHeadroom _ _ ?_ ?_) (State.offerClaim_keeps _ _ _ _)
    exacts [id, id]
  · exact .refl s

theorem execHoldStaleTimerExpiry_keeps (ht : execHoldStaleTimerExpiry s = .next t) : s.keeps t := by
  cases ht
  split
  · refine State.keeps.trans (.setHeadroom _ _ ?_ ?_) (State.orderAbort_keeps _ _)
    exacts [id, id]
  · exact .refl s

theorem execPeerEntryExpiry_keeps {a : Address} (ht : execPeerEntryExpiry a s = .next t) : s.keeps t := by
  cases ht
  split
  · exact .refl s
  · split
    · exact .setHeadroom _ _ (fun _ => countUp_le _ _) id
    · exact .refl s

/-! ### The instrument port -/

theorem execSampleReadBegin_keeps (ht : execSampleReadBegin s = .next t) : s.keeps t := by
  cases ht
  split <;> exact .setPort _ _

theorem execSampleSetArrival_keeps {r : ReportedSet} {o : SetOrder} (ht : execSampleSetArrival r o s = .next t) :
    s.keeps t := by
  cases ht
  split
  · refine State.keeps.trans ?_ (State.offerSet_keeps _ _ _)
    split
    · exact (State.keeps.setPort _ _).trans (State.portReport_keeps _)
    · exact .setPort _ _
  · exact .refl s

theorem execSampleWatchdogExpiry_keeps (ht : execSampleWatchdogExpiry s = .next t) : s.keeps t := by
  cases ht
  split
  · exact (State.keeps.setPort _ _).trans (State.latchFault_keeps _ _)
  · exact .refl s

theorem execWriteBegin_keeps (ht : execWriteBegin s = .next t) : s.keeps t := by
  cases ht
  split
  · exact .refl s
  · split
    · exact .setPort _ _
    · exact .refl s

theorem execWriteEnd_keeps (ht : execWriteEnd s = .next t) : s.keeps t := by
  cases ht
  split
  · exact .setPort _ _
  · exact .refl s

theorem execSetpointAcknowledgement_keeps {v : Nat} (ht : execSetpointAcknowledgement v s = .next t) : s.keeps t := by
  cases ht
  split
  · exact State.latchFault_keeps _ _
  · refine State.keeps.trans (State.keeps.setPort s { s.port with onPort := none, ackTimer := none }) ?_
    dsimp only
    split
    · exact State.answerMatches_keeps _ _
    · exact State.answerDiffers_keeps _ _

theorem execAcknowledgementTimerExpiry_keeps (ht : execAcknowledgementTimerExpiry s = .next t) : s.keeps t := by
  cases ht
  split
  · exact .refl s
  · split
    · exact (State.keeps.setPort _ _).trans (State.latchFault_keeps _ _)
    · exact .refl s

theorem execEmergencyStopChange_keeps {level : Bool} (ht : execEmergencyStopChange level s = .next t) : s.keeps t := by
  cases ht
  split
  · exact .refl s
  · refine State.keeps.trans (State.keeps.setPort s { s.port with estop := level }) ?_
    dsimp only
    split
    · exact State.latchFault_keeps _ _
    · exact .refl _

/-! ### The timers of the engine -/

theorem State.offTimeOver_keeps (s : State) (c : Check) : s.keeps (s.offTimeOver c) := by
  unfold State.offTimeOver
  dsimp only
  split
  · split
    · exact s.closeWasRefused_keeps.trans (State.finishAbort_keeps _ _)
    · exact s.closeWasRefused_keeps
  · refine State.keeps.trans (.setEngine _ _ ?_) (State.closeContactor_keeps _)
    exact id

/-- The contactor is requested open and the check ends NOT_RUN, one of its timers stopped. -/
theorem State.openNotRun_keeps (s : State) (e : Engine) (cause : Cause) (he : e.phase = s.engine.phase) :
    s.keeps ((s.setEngine e).requestOpen.notRun cause) :=
  (State.keeps.setEngine _ _ (by simp [he])).trans ((State.requestOpen_keeps _).trans (State.notRun_keeps _ _))

theorem Engine.resume_phase (e : Engine) (now : Word) :
    (e.resume now).phase = .ramp ∨ (e.resume now).phase = .preload := by
  unfold Engine.resume
  dsimp only
  split <;> simp

theorem execShedHoldTimerExpiry_keeps (ht : execShedHoldTimerExpiry s = .next t) : s.keeps t := by
  cases ht
  split
  · refine .setEngine _ _ fun _ => ?_
    obtain he | he := Engine.resume_phase s.engine s.time <;> simp [he]
  · exact .refl s

theorem execTimeOutTimerExpiry_keeps (ht : execTimeOutTimerExpiry s = .next t) : s.keeps t := by
  cases ht
  split
  · refine State.keeps.trans (State.keeps.setEngine s
      { s.engine with trip := { s.engine.trip with timeOut := none } } id) ?_
    dsimp only
    split
    · exact State.planEnd_keeps _ _
    · exact .refl _
  · exact .refl s

theorem execOffTimeTimerExpiry_keeps (ht : execOffTimeTimerExpiry s = .next t) : s.keeps t := by
  cases ht
  split
  · exact .refl s
  · split
    · refine State.keeps.trans (.setEngine _ _ ?_) (State.offTimeOver_keeps _ _)
      exact id
    · exact .refl s

theorem execRecoverWaitTimerExpiry_keeps (ht : execRecoverWaitTimerExpiry s = .next t) : s.keeps t := by
  cases ht
  split
  · exact (s.requestOpen_keeps.trans (State.enterAbort_keeps _ _ _)).trans
      ((State.keeps.setEngine _ _ (by simp)).trans (State.latchFault_keeps _ _))
  · exact .refl s

/-! ### All ordinary commands -/

/-- An ordinary command keeps start-up record, station time, order counter, limits and counters, and never leaves the
engine in RELEASE. -/
theorem exec_keeps {c : Instr} (hc : ordinary c = true) (ht : exec c s = .next t) : s.keeps t := by
  cases c with
  | transmitStart => exact execTransmitStart_keeps ht
  | arbitrationLost => exact execArbitrationLost_keeps ht
  | receivedInError bits => exact execReceivedInError_keeps ht
  | abortRunSeen => exact execAbortRunSeen_keeps ht
  | lineIdle => exact execLineIdle_keeps ht
  | shed => exact handedOn_keeps rfl ht fun h u => u.takeShed_keeps h.order
  | ask | hold | drop => exact handedOn_keeps rfl ht fun h u => u.takeClaim_keeps h _
  | openSlot => exact handedOn_keeps rfl ht fun h u => u.takeOpen_keeps h
  | part => exact handedOn_keeps rfl ht fun h u => u.takePart_keeps h.frame
  | cancel => exact handedOn_keeps rfl ht fun h u => u.takeCancel_keeps h.frame
  | clear => exact handedOn_keeps rfl ht fun h u => u.takeClear_keeps h.frame
  | fetch => exact handedOn_keeps rfl ht fun h u => u.takeFetch_keeps h.frame
  | status => exact handedOn_keeps rfl ht fun h u => u.takeStatus_keeps h.frame
  | clearFault => exact handedOn_keeps rfl ht fun h u => u.takeClearFault_keeps h.frame
  | assemblyDeadlineExpiry n => exact execAssemblyDeadlineExpiry_keeps ht
  | contestTimerExpiry => cases ht; split; exacts [.setHeadroom _ _ id id, .refl s]
  | contestDecision => exact execContestDecision_keeps ht
  | backoffTimerExpiry => exact execBackoffTimerExpiry_keeps ht
  | refreshTimerExpiry => exact execRefreshTimerExpiry_keeps ht
  | holdStaleTimerExpiry => exact execHoldStaleTimerExpiry_keeps ht
  | peerEntryExpiry a => exact execPeerEntryExpiry_keeps ht
  | reListenTimerExpiry => cases ht; split; exacts [.setHeadroom _ _ id id, .refl s]
  | sampleReadBegin => exact execSampleReadBegin_keeps ht
  | sampleSetArrival r o => exact execSampleSetArrival_keeps ht
  | sampleWatchdogExpiry => exact execSampleWatchdogExpiry_keeps ht
  | writeBegin => exact execWriteBegin_keeps ht
  | writeEnd => exact execWriteEnd_keeps ht
  | setpointAcknowledgement v => exact execSetpointAcknowledgement_keeps ht
  | acknowledgementTimerExpiry => exact execAcknowledgementTimerExpiry_keeps ht
  | emergencyStopChange level => exact execEmergencyStopChange_keeps ht
  | startWaitTimerExpiry | restTimerExpiry =>
    cases ht; split; exacts [s.openNotRun_keeps _ _ rfl, .refl s]
  | soakMaximumTimerExpiry => cases ht; split; exacts [s.notRun_keeps _, .refl s]
  | shedHoldTimerExpiry => exact execShedHoldTimerExpiry_keeps ht
  | timeOutTimerExpiry => exact execTimeOutTimerExpiry_keeps ht
  | offTimeTimerExpiry => exact execOffTimeTimerExpiry_keeps ht
  | recoverWaitTimerExpiry => exact execRecoverWaitTimerExpiry_keeps ht
  | powerReset | stationTimeTick | configReadComplete | configReadNotAcknowledged | configReadTimeout
  | loopedFrameReceived | selfLoopTimeout | joinTimerExpiry | frameSent | sendCollision | frameReceived | tighten
  | bayReset => simp [ordinary] at hc

end Sys2Proof.Machine
end

section
/-!
PROOF. What the commands that are not ordinary come to: the state each of them sets first, and that the rest of the
command keeps it. From there: station time (R1), the counters and the order counter (R22, R33), and the station state
table.
-/
namespace Sys2Proof.Machine

variable {s t : State}

/-! ### The state that a command sets first -/

/-- The part at power reset with its straps taken (R3, R4). -/
def State.strapped (s : State) (straps : Address) : State :=
  (State.atPowerReset s.pending s.port.estop).takeStraps straps

theorem execPowerReset_keeps {straps : Address} (ht : execPowerReset straps s = .next t) :
    (s.strapped straps).keeps t := by
  cases ht
  split
  · exact State.latchFault_keeps _ _
  · exact .refl _

theorem execConfigReadComplete_cases {record : List Byte} (ht : execConfigReadComplete record s = .next t) :
    t = s ∨ s.readingConfig = true ∧
      (t = s.degrade .configUnreadable ∨ t = s.degrade .configBad ∨ t = s.takeConfig record) := by
  cases ht
  split
  case isTrue h =>
    simp only [Bool.and_eq_true] at h
    (repeat' split) <;> simp [h.1]
  case isFalse => exact .inl rfl

theorem execConfigReadNotAcknowledged_cases (ht : execConfigReadNotAcknowledged s = .next t) :
    t = s ∨ s.readingConfig = true ∧ t = s.degrade .configUnreadable := by
  cases ht
  split <;> simp [*]

theorem execConfigReadTimeout_cases (ht : execConfigReadTimeout s = .next t) :
    t = s ∨ s.readingConfig = true ∧ t = s.degrade .configUnreadable := by
  cases ht
  split <;> simp_all

theorem execLoopedFrameReceived_cases {bits : List Bool} (ht : execLoopedFrameReceived bits s = .next t) :
    t = s ∨ s.station = .selfLoop ∧ (t = s.enterJoining ∨ t = s.goOffLine .loopFailed) := by
  cases ht
  (repeat' split) <;> simp_all

theorem execSelfLoopTimeout_cases (ht : execSelfLoopTimeout s = .next t) :
    t = s ∨ s.station = .selfLoop ∧ t = s.goOffLine .loopFailed := by
  cases ht
  split <;> simp_all

/-- The part as it enters ON_LINE, before the start conditions are examined (R11). -/
def State.joined (s : State) : State :=
  (s.setStartup { s.startup with station := .onLine, joinTimer := none }).setHeadroom { s.headroom with claim := .idle }

theorem execJoinTimerExpiry_cases (ht : execJoinTimerExpiry s = .next t) :
    t = s ∨ s.station = .joining ∧ t = s.joined.examineStart := by
  cases ht
  split
  case isTrue h => exact .inr ⟨by simp_all, rfl⟩
  case isFalse => exact .inl rfl

theorem execFrameSent_cases (ht : execFrameSent s = .next t) :
    s.line.attempt = none ∧ t = s ∨
    ∃ start e, s.line.attempt = some (start, e) ∧
      t = (s.setLine (s.line.completed e)).reportCompleted e (s.line.order + 1) := by
  cases ht
  split
  case h_1 h => exact .inl ⟨h, rfl⟩
  case h_2 start e h => exact .inr ⟨start, e, h, rfl⟩

theorem execSendCollision_cases (ht : execSendCollision s = .next t) :
    (s.keeps t ∧ t.engine = s.engine ∧ t.port = s.port) ∨
    ∃ start e, s.line.attempt = some (start, e) ∧ t = (s.setLine (s.line.countCollision e)).silence := by
  cases ht
  split
  case h_1 => exact .inl ⟨.refl s, rfl, rfl⟩
  case h_2 start e h =>
    dsimp only
    split
    · exact .inr ⟨start, e, h, rfl⟩
    · refine .inl ⟨State.keeps.trans (.setLine _ _ ?_ ?_ ?_ ?_ ?_) (State.reportFailed_keeps _ _), ?_, ?_⟩ <;> simp

/-- The part apart from the line with nothing of the line left in its headroom unit (R13, R56). -/
def State.apart (s : State) : State := (s.goOffLine .dupAddress).setHeadroom s.headroom.silenced

theorem State.silence_keeps (s : State) : s.apart.keeps s.silence := by
  unfold State.silence
  dsimp only
  split
  · refine State.keeps.trans ?_ ((State.orderAbort_keeps _ _).trans (State.tryBar_keeps _))
    refine State.keeps.trans ?_ ((State.keeps.setSlotTable _ _).trans (.setGuardUnit _ _ (by simp) (by simp)))
    exact ((State.writeDrop_keeps _).trans (State.requestOpen_keeps _)).trans (.setPort _ _)
  · exact .refl _

/-! ### Frames heard -/

theorem State.siloFrame_keeps (s : State) (h : Heard) : s.keeps (s.siloFrame h) := by
  have entered : s.keeps (s.setLine (s.line.intoSilo h)) := by
    constructor <;> simp
    unfold Line.intoSilo
    split <;> simp [countUp_le]
  unfold State.siloFrame
  dsimp only
  split
  · exact entered
  · exact entered.trans (State.markSuspect_keeps _)

/-- A valid frame heard takes an order number; whatever becomes of it, nothing else that `keeps` names moves (R22). -/
theorem State.hearFrame_keeps (s : State) (f : Frame) (stamp : Word) :
    (s.setLine s.line.heard).keeps (s.hearFrame f stamp) := by
  unfold State.hearFrame
  dsimp only
  split
  · exact State.siloFrame_keeps _ _
  · constructor <;> simp [countUp_le]
  · exact .refl _

theorem execFrameReceived_cases {stamp : Word} {bits : List Bool} (ht : execFrameReceived stamp bits s = .next t) :
    t = s ∧ (∀ start f, s.hearing stamp = some start → readBits bits ≠ .valid f) ∨
    ∃ start f, s.hearing stamp = some start ∧ readBits bits = .valid f ∧ t = s.hearFrame f start := by
  cases ht
  split
  case h_1 start f hs hf => exact .inr ⟨start, f, hs, hf, rfl⟩
  case h_2 h => exact .inl ⟨rfl, fun start f hs hf => h start f hs hf⟩

/-! ### The guard limits -/

/-- The part with other effective limits. -/
def State.withEffective (s : State) (l : Option Limits) : State :=
  s.setGuardUnit { s.guardUnit with effective := l }

/-- Limits that a TIGHTEN or a BAY_RESET may leave: those that stood, one of them brought down, or the configured ones
(R180, R185). -/
def State.mayLimit (s : State) (l : Option Limits) : Prop :=
  l = s.guardUnit.effective ∨
  (∃ e payload, s.guardUnit.effective = some e ∧ l = some (e.tighten s.config.limits payload)) ∨
  l = s.guardUnit.effective.map fun _ => s.config.limits

/-- TIGHTEN is refused, or sets the effective limits and answers (R180). -/
theorem State.takeTighten_limits (u : State) (f : Frame) :
    ∃ l, u.mayLimit l ∧ (u.withEffective l).keeps (u.takeTighten f) := by
  have refused (r : Reason) : ∃ l, u.mayLimit l ∧ (u.withEffective l).keeps (u.refuse .guardUnit f r detailRequest) :=
    ⟨_, .inl rfl, State.refuse_keeps _ _ _ _ _⟩
  unfold State.takeTighten
  split
  · exact refused _
  · split
    · exact refused _
    · exact refused _
    · rename_i e he _
      split
      · exact refused _
      · exact ⟨_, .inr (.inl ⟨e, f.payload, he, rfl⟩), State.offerReplies_keeps _ _ _⟩

/-- BAY_RESET is refused, or marked in progress with the limits at the configured ones; the rest keeps them (R185). -/
theorem State.takeBayReset_limits (u : State) (f : Frame) :
    ∃ l, u.mayLimit l ∧ (u.withEffective l).keeps (u.takeBayReset f) := by
  unfold State.takeBayReset
  split
  · exact ⟨_, .inl rfl, State.refuse_keeps _ _ _ _ _⟩
  · refine ⟨_, .inr (.inr rfl), ?_⟩
    have marked : (u.withEffective (u.guardUnit.effective.map fun _ => u.config.limits)).keeps (u.markReset f) :=
      .setGuardUnit _ _ rfl id
    refine marked.trans ((State.keeps.setSlotTable _ _).trans (State.keeps.trans (.setLine _ _ ?_ ?_ ?_ ?_ ?_)
      (State.resetEngine_keeps _))) <;> simp

/-- A frame handed on is the oldest of the silo (R32). -/
theorem State.handOn_taking {s u : State} {h : Heard} {cls kind : Nat} (hh : s.handOn cls kind = some (h, u)) :
    ∃ rest, s.handing h rest cls kind ∧ u = s.taking rest := by
  unfold State.handOn at hh
  split at hh
  case isFalse => cases hh
  case isTrue hc =>
    split at hh
    case h_1 => cases hh
    case h_2 rest hs =>
      split at hh
      case isFalse => cases hh
      case isTrue hk =>
        cases hh
        simp only [Bool.and_eq_true, beq_iff_eq] at hk
        exact ⟨rest, ⟨hc, hs, hk.1, hk.2⟩, rfl⟩

/-- A frame handed on, and then no more of what `keeps` names changed than the effective limits. -/
theorem handedOn_limits {c : Instr} {cls kind : Nat} {take : Heard → State → State}
    (hc : takesFrame c = some (cls, kind, take)) (ht : exec c s = .next t)
    (hk : ∀ h (u : State), ∃ l, u.mayLimit l ∧ (u.withEffective l).keeps (take h u)) :
    ∃ l, s.mayLimit l ∧ (s.withEffective l).keeps t := by
  obtain rfl | ⟨h, u, hh, rfl⟩ := exec_takesFrame hc ht
  · exact ⟨_, .inl rfl, .refl _⟩
  · obtain ⟨rest, _, rfl⟩ := State.handOn_taking hh
    obtain ⟨l, hl, kept⟩ := hk h (s.taking rest)
    have handed : (s.withEffective l).keeps ((s.taking rest).withEffective l) :=
      .setLine _ { s.line with silo := rest } rfl rfl rfl rfl id
    exact ⟨l, by simpa [State.mayLimit] using hl, handed.trans kept⟩

theorem execTighten_limits (ht : exec .tighten s = .next t) : ∃ l, s.mayLimit l ∧ (s.withEffective l).keeps t :=
  handedOn_limits rfl ht fun h u => u.takeTighten_limits h.frame

theorem execBayReset_limits (ht : exec .bayReset s = .next t) : ∃ l, s.mayLimit l ∧ (s.withEffective l).keeps t :=
  handedOn_limits rfl ht fun h u => u.takeBayReset_limits h.frame

end Sys2Proof.Machine
end

section
/-!
PROOF. The clamped configuration record (R7, R100): every clamp counts itself once, so the count is the number of fields
and pairs that were changed.
-/
namespace Sys2Proof.Machine

/-! ### Values -/

theorem clampNat_fst (low high v n : Nat) (hr : low ≤ high) : (clampNat low high v n).1 = max low (min v high) := by
  unfold clampNat
  (repeat' split) <;> simp only <;> omega

theorem clampInt_fst (low high v : Int) (n : Nat) (hr : low ≤ high) :
    (clampInt low high v n).1 = max low (min v high) := by
  unfold clampInt
  (repeat' split) <;> simp only <;> omega

theorem ownerPair_fst (low high n : Nat) :
    (ownerPair low high n).1 = if high < low then (48, 62) else (low, high) := by
  unfold ownerPair
  split <;> rfl

theorem sagPair_fst (threshold clear n : Nat) :
    (sagPair threshold clear n).1 =
      if threshold < clear then (threshold, clear)
      else if threshold ≤ 5950 then (threshold, threshold + 50) else (5950, 6000) := by
  unfold sagPair Config.feederTop
  (repeat' split) <;> first | rfl | omega

/-! ### The count -/

/-- The clamp count as the number of changes made so far, stopping at 255 as every counter does. -/
def changes (l : List Bool) : Nat := min (l.countP id) Config.counterTop

theorem changes_append (l : List Bool) (b : Bool) :
    changes (l ++ [b]) = if b then countUp (changes l) 1 else changes l := by
  cases b <;> simp [changes, countUp, List.countP_append]
  omega

theorem changes_eq (l : List Bool) (h : l.length ≤ 255) : changes l = l.countP id :=
  Nat.min_eq_left (List.countP_le_length.trans h)

theorem clampNat_snd (low high v : Nat) (l : List Bool) (hr : low ≤ high) :
    (clampNat low high v (changes l)).2 = changes (l ++ [decide (max low (min v high) ≠ v)]) := by
  rw [changes_append]
  unfold clampNat
  (repeat' split) <;> first | rfl | simp_all <;> omega

theorem clampInt_snd (low high v : Int) (l : List Bool) (hr : low ≤ high) :
    (clampInt low high v (changes l)).2 = changes (l ++ [decide (max low (min v high) ≠ v)]) := by
  rw [changes_append]
  unfold clampInt
  (repeat' split) <;> first | rfl | simp_all <;> omega

theorem ownerPair_snd (low high : Nat) (l : List Bool) :
    (ownerPair low high (changes l)).2 = changes (l ++ [decide (high < low)]) := by
  rw [changes_append]
  unfold ownerPair
  split <;> simp_all

theorem sagPair_snd (threshold clear : Nat) (l : List Bool) :
    (sagPair threshold clear (changes l)).2 = changes (l ++ [decide (clear ≤ threshold)]) := by
  rw [changes_append]
  unfold sagPair
  by_cases hp : clear ≤ threshold
  · by_cases ht : threshold + 50 ≤ Config.feederTop <;> simp [hp, ht]
  · simp [hp]

/-! ### The fields of the clamped record -/

section

variable (b : List Byte)

theorem clampRecord_capacity : (clampRecord b).1.capacity = max 100 (min (field16 b 0) 8000) :=
  clampNat_fst _ _ _ _ (by decide)

theorem clampRecord_reserve :
    (clampRecord b).1.reserve = min (field16 b 2) ((clampRecord b).1.capacity - 100) :=
  (clampNat_fst _ _ _ _ (Nat.zero_le _)).trans (Nat.zero_max _)

/-- The fields of the record that are clamped each to a range of its own. -/
theorem clampRecord_ranges :
    ((clampRecord b).1.efficiency = max 800 (min (field16 b 4) 990) ∧
      (clampRecord b).1.nominalVoltage = max 10000 (min (field16 b 6) 60000) ∧
      (clampRecord b).1.contestWindow = max 5 (min (byteAt b 8) 200) ∧
      (clampRecord b).1.refreshPeriod = max 1 (min (byteAt b 9) 50) ∧
      (clampRecord b).1.backoffBase = max 10 (min (field16 b 10) 1000)) ∧
    (clampRecord b).1.guardCurrent = max 100 (min (field16 b 16) 8000) ∧
    (clampRecord b).1.guardVoltage = max 10000 (min (field16 b 18) 65000) ∧
    (clampRecord b).1.guardTemperature = max 0 (min (signed16 b 20) 1200) ∧
    (clampRecord b).1.sagCount = max 1 (min (byteAt b 15) 64) ∧
    (clampRecord b).1.shedHold = max 100 (min (field16 b 26) 5000) ∧
    (clampRecord b).1.startWait = max 1 (min (byteAt b 28) 30) ∧
    (clampRecord b).1.ackTimeout = max 1 (min (byteAt b 29) 50) := by
  refine ⟨⟨?_, ?_, ?_, ?_, ?_⟩, ?_, ?_, ?_, ?_, ?_, ?_, ?_⟩
  case refine_8 => exact clampInt_fst _ _ _ _ (by decide)
  all_goals exact clampNat_fst _ _ _ _ (by decide)

theorem clampRecord_startOrder :
    (clampRecord b).1.startOrder = if byteAt b 12 = 0 then .priorityThenArrival else .slotNumber := by
  have clamped (n : Nat) : (if (clampNat 0 1 (byteAt b 12) n).1 == 0 then StartOrder.priorityThenArrival
      else .slotNumber) = if byteAt b 12 = 0 then .priorityThenArrival else .slotNumber := by
    rw [clampNat_fst _ _ _ _ (by decide), Nat.zero_max]
    by_cases h : byteAt b 12 = 0
    · simp [h]
    · rw [if_neg h, if_neg (by simp; omega)]
  exact clamped _

theorem ownerPair_clamped (low high i j n : Nat) :
    (ownerPair (clampNat 48 62 low i).1 (clampNat 48 62 high j).1 n).1 =
      if max 48 (min high 62) < max 48 (min low 62) then (48, 62)
      else (max 48 (min low 62), max 48 (min high 62)) := by
  rw [ownerPair_fst, clampNat_fst _ _ _ _ (by decide), clampNat_fst _ _ _ _ (by decide)]

theorem sagPair_clamped (threshold clear i j n : Nat) :
    (sagPair (clampNat 0 6000 threshold i).1 (clampNat 0 6000 clear j).1 n).1 =
      if min threshold 6000 < min clear 6000 then (min threshold 6000, min clear 6000)
      else if min threshold 6000 ≤ 5950 then (min threshold 6000, min threshold 6000 + 50) else (5950, 6000) := by
  rw [sagPair_fst, clampNat_fst _ _ _ _ (by decide), clampNat_fst _ _ _ _ (by decide), Nat.zero_max, Nat.zero_max]

theorem clampRecord_owners :
    ((clampRecord b).1.ownerLow, (clampRecord b).1.ownerHigh) =
      if max 48 (min (byteAt b 14) 62) < max 48 (min (byteAt b 13) 62) then (48, 62)
      else (max 48 (min (byteAt b 13) 62), max 48 (min (byteAt b 14) 62)) :=
  ownerPair_clamped (byteAt b 13) (byteAt b 14) _ _ _

theorem clampRecord_sag :
    ((clampRecord b).1.sagThreshold, (clampRecord b).1.sagClear) =
      if min (field16 b 22) 6000 < min (field16 b 24) 6000 then (min (field16 b 22) 6000, min (field16 b 24) 6000)
      else if min (field16 b 22) 6000 ≤ 5950 then (min (field16 b 22) 6000, min (field16 b 22) 6000 + 50)
      else (5950, 6000) :=
  sagPair_clamped (field16 b 22) (field16 b 24) _ _ _

theorem in_range_of_clamped {low high v x : Nat} (h : x = max low (min v high)) (hr : low ≤ high) :
    low ≤ x ∧ x ≤ high := by omega

theorem clampRecord_inRange : (clampRecord b).1.inRange := by
  have owners := clampRecord_owners b
  have sag := clampRecord_sag b
  obtain ⟨⟨h1, h2, h3, h4, h5⟩, h6, h7, h8, h9, h10, h11, h12⟩ := clampRecord_ranges b
  refine ⟨in_range_of_clamped (clampRecord_capacity b) (by decide), ?_, in_range_of_clamped h1 (by decide),
    in_range_of_clamped h2 (by decide), in_range_of_clamped h3 (by decide), in_range_of_clamped h4 (by decide),
    in_range_of_clamped h5 (by decide), ?_, in_range_of_clamped h6 (by decide), in_range_of_clamped h7 (by decide),
    ?_, ?_, in_range_of_clamped h9 (by decide), in_range_of_clamped h10 (by decide),
    in_range_of_clamped h11 (by decide), in_range_of_clamped h12 (by decide)⟩
  · rw [clampRecord_reserve]
    exact Nat.min_le_right _ _
  · clear h1 h2 h3 h4 h5 h6 h7 h8 h9 h10 h11 h12 sag
    split at owners <;> simp only [Prod.mk.injEq] at owners <;> omega
  · clear h1 h2 h3 h4 h5 h6 h7 h9 h10 h11 h12 sag owners
    omega
  · clear h1 h2 h3 h4 h5 h6 h7 h8 h9 h10 h11 h12 owners
    (repeat' split at sag) <;> simp only [Prod.mk.injEq] at sag <;> omega

/-! ### The clamp count -/

/-- The count passes through the fields in the order of R7's table, then through the two pairs. -/
theorem clampRecord_count :
    let n := (clampNat 100 8000 (field16 b 0) (changes [])).2
    let n := (clampNat 0 ((clampRecord b).1.capacity - 100) (field16 b 2) n).2
    let n := (clampNat 800 990 (field16 b 4) n).2
    let n := (clampNat 10000 60000 (field16 b 6) n).2
    let n := (clampNat 5 200 (byteAt b 8) n).2
    let n := (clampNat 1 50 (byteAt b 9) n).2
    let n := (clampNat 10 1000 (field16 b 10) n).2
    let n := (clampNat 0 1 (byteAt b 12) n).2
    let low := clampNat 48 62 (byteAt b 13) n
    let high := clampNat 48 62 (byteAt b 14) low.2
    let n := (clampNat 100 8000 (field16 b 16) high.2).2
    let n := (clampNat 10000 65000 (field16 b 18) n).2
    let n := (clampInt 0 1200 (signed16 b 20) n).2
    let threshold := clampNat 0 6000 (field16 b 22) n
    let clear := clampNat 0 6000 (field16 b 24) threshold.2
    let n := (clampNat 1 64 (byteAt b 15) clear.2).2
    let n := (clampNat 100 5000 (field16 b 26) n).2
    let n := (clampNat 1 30 (byteAt b 28) n).2
    let n := (clampNat 1 50 (byteAt b 29) n).2
    (clampRecord b).2 = (sagPair threshold.1 clear.1 (ownerPair low.1 high.1 n).2).2 := rfl

end

/-- Settles O7: each field by its clamp, and the count by the clamps in the order of the table. -/
theorem recordIsClamped : Obligations.RecordIsClamped := by
  intro b
  obtain ⟨⟨h1, h2, h3, h4, h5⟩, h6⟩ := clampRecord_ranges b
  obtain ⟨h7, h8, h9, h10, h11, h12, h13⟩ := h6
  refine ⟨clampRecord_inRange b, ⟨clampRecord_capacity b, clampRecord_reserve b, h1, h2, h3, h4, h5,
    clampRecord_startOrder b⟩, ⟨h7, h8, h9, h10, h11, h12, h13⟩, clampRecord_owners b, clampRecord_sag b, ?_⟩
  have bounded : (min (byteAt b 12) 1 ≠ byteAt b 12) = (1 < byteAt b 12) := by
    rw [eq_iff_iff]; omega
  refine (clampRecord_count b).trans ?_
  iterate 12 rw [clampNat_snd]
  rw [clampInt_snd]
  iterate 6 rw [clampNat_snd]
  rw [ownerPair_snd, sagPair_snd]
  iterate 4 rw [clampNat_fst]
  · rw [changes_eq _ (by simp only [List.length_append, List.length_cons, List.length_nil]; decide)]
    simp only [clampRecord_reserve, clampRecord_capacity, h1, h2, h3, h4, h5, h7, h8, h9, h10, h11, h12, h13, bounded,
      Nat.zero_max, List.nil_append, List.cons_append]
  all_goals omega

end Sys2Proof.Machine
end

section
/-!
PROOF. Station time, the station state table, the counters and the guard limits: each from what the ordinary commands
keep, and from the state that each of the others sets.
-/
namespace Sys2Proof.Machine

/-! ### Station time (R1) -/

/-- Settles O5: the clock is set by power reset and the tick, and kept by every other command. -/
theorem stationTimeMovesByTicksAlone : Obligations.StationTimeMovesByTicksAlone := by
  refine ⟨fun s => rfl, fun c s t ht => ?_⟩
  cases c with
  | powerReset straps =>
    refine (execPowerReset_keeps ht).time.trans ?_
    unfold State.strapped State.takeStraps
    split <;> rfl
  | stationTimeTick => cases ht; rfl
  | configReadComplete record =>
    obtain rfl | ⟨_, rfl | rfl | rfl⟩ := execConfigReadComplete_cases ht <;> rfl
  | configReadNotAcknowledged => obtain rfl | ⟨_, rfl⟩ := execConfigReadNotAcknowledged_cases ht <;> rfl
  | configReadTimeout => obtain rfl | ⟨_, rfl⟩ := execConfigReadTimeout_cases ht <;> rfl
  | loopedFrameReceived bits => obtain rfl | ⟨_, rfl | rfl⟩ := execLoopedFrameReceived_cases ht <;> rfl
  | selfLoopTimeout => obtain rfl | ⟨_, rfl⟩ := execSelfLoopTimeout_cases ht <;> rfl
  | joinTimerExpiry =>
    obtain rfl | ⟨_, rfl⟩ := execJoinTimerExpiry_cases ht
    · rfl
    · exact (State.examineStart_keeps _).time
  | frameSent =>
    obtain ⟨_, rfl⟩ | ⟨_, e, _, rfl⟩ := execFrameSent_cases ht
    · rfl
    · exact (State.reportCompleted_keeps _ _ _).time
  | sendCollision =>
    obtain ⟨kept, _⟩ | ⟨_, e, _, rfl⟩ := execSendCollision_cases ht
    · exact kept.time
    · exact (State.silence_keeps _).time
  | frameReceived stamp bits =>
    obtain ⟨rfl, _⟩ | ⟨_, f, _, _, rfl⟩ := execFrameReceived_cases ht
    · rfl
    · exact (State.hearFrame_keeps _ _ _).time
  | tighten => obtain ⟨_, _, kept⟩ := execTighten_limits ht; exact kept.time
  | bayReset => obtain ⟨_, _, kept⟩ := execBayReset_limits ht; exact kept.time
  | _ => exact (exec_keeps rfl ht).time

/-! ### The station state table -/

/-- A frame in its attempt is queued, so the part is connected to the line (R24, R34). -/
theorem State.connected_of_attempt {s : State} {start : Word} {e : Entry} (hq : s.queueForm)
    (h : s.line.attempt = some (start, e)) : s.station.connected = true := by
  obtain ⟨_, _, _, _, _, _, _, _, _, apart⟩ := hq
  by_contra hc
  obtain ⟨empty, _⟩ := apart (by simpa using hc)
  simp [Line.attempt, Line.sendingEntry, empty] at h

theorem State.readingConfig_station {s : State} (h : s.readingConfig = true) : s.station = .loading := by
  simp only [State.readingConfig, Bool.and_eq_true, beq_iff_eq] at h
  exact h.1

theorem State.strapped_startup (s : State) (straps : Address) :
    (s.strapped straps).startup =
      if straps.toNat < 48 then
        { StartUp.reset with
          address := some straps, configRead := some { device := 86, offset := 0, count := 40, due := 500 } }
      else { StartUp.reset with address := some straps, station := .offLine, fault := some .strapInvalid } := by
  have hb : isBay straps = decide (straps.toNat < 48) := rfl
  unfold State.strapped State.takeStraps
  rw [hb]
  by_cases h : straps.toNat < 48
  · rw [if_pos (by simpa using h), if_pos h]; rfl
  · rw [if_neg (by simpa using h), if_neg h]; rfl

/-- What the station state table gives of a state whose start-up record is this one. -/
theorem State.keeps.station_fault {s t : State} (h : s.keeps t) :
    t.station = s.station ∧ t.startup.fault = s.startup.fault := ⟨h.station, by rw [h.startup]⟩

/-- Settles O9: an ordinary command keeps the start-up record, and each other one is read off the state it sets. -/
theorem stationStateTransitions : Obligations.StationStateTransitions := by
  intro c s t hq ht
  cases c with
  | powerReset straps =>
    right
    have started := (execPowerReset_keeps ht).startup.trans (s.strapped_startup straps)
    dsimp only
    split at started <;> simp [*, State.station, StartUp.reset]
  | stationTimeTick => cases ht; exact .inl ⟨rfl, rfl⟩
  | configReadComplete record =>
    obtain rfl | ⟨hr, rfl | rfl | rfl⟩ := execConfigReadComplete_cases ht
    · exact .inl ⟨rfl, rfl⟩
    · exact .inr ⟨State.readingConfig_station hr, .inr ⟨rfl, .inr rfl⟩⟩
    · exact .inr ⟨State.readingConfig_station hr, .inr ⟨rfl, .inl rfl⟩⟩
    · exact .inr ⟨State.readingConfig_station hr, .inl ⟨rfl, rfl⟩⟩
  | configReadNotAcknowledged =>
    obtain rfl | ⟨hr, rfl⟩ := execConfigReadNotAcknowledged_cases ht
    · exact .inl ⟨rfl, rfl⟩
    · exact .inr ⟨State.readingConfig_station hr, rfl, rfl⟩
  | configReadTimeout =>
    obtain rfl | ⟨hr, rfl⟩ := execConfigReadTimeout_cases ht
    · exact .inl ⟨rfl, rfl⟩
    · exact .inr ⟨State.readingConfig_station hr, rfl, rfl⟩
  | loopedFrameReceived bits =>
    obtain rfl | ⟨hs, rfl | rfl⟩ := execLoopedFrameReceived_cases ht
    · exact .inl ⟨rfl, rfl⟩
    · exact .inr ⟨hs, .inl ⟨rfl, rfl⟩⟩
    · exact .inr ⟨hs, .inr ⟨rfl, rfl⟩⟩
  | selfLoopTimeout =>
    obtain rfl | ⟨hs, rfl⟩ := execSelfLoopTimeout_cases ht
    · exact .inl ⟨rfl, rfl⟩
    · exact .inr ⟨hs, rfl, rfl⟩
  | joinTimerExpiry =>
    obtain rfl | ⟨hs, rfl⟩ := execJoinTimerExpiry_cases ht
    · exact .inl ⟨rfl, rfl⟩
    · exact .inr ⟨hs, (State.examineStart_keeps _).station_fault⟩
  | frameSent =>
    obtain ⟨_, rfl⟩ | ⟨_, e, _, rfl⟩ := execFrameSent_cases ht
    · exact .inl ⟨rfl, rfl⟩
    · exact .inl (State.reportCompleted_keeps _ _ _).station_fault
  | sendCollision =>
    obtain ⟨kept, _⟩ | ⟨_, e, he, rfl⟩ := execSendCollision_cases ht
    · exact .inl kept.station_fault
    · exact .inr ⟨State.connected_of_attempt hq he, (State.silence_keeps _).station_fault⟩
  | frameReceived stamp bits =>
    obtain ⟨rfl, _⟩ | ⟨_, f, _, _, rfl⟩ := execFrameReceived_cases ht
    · exact .inl ⟨rfl, rfl⟩
    · exact .inl (State.hearFrame_keeps _ _ _).station_fault
  | tighten => obtain ⟨_, _, kept⟩ := execTighten_limits ht; exact .inl kept.station_fault
  | bayReset => obtain ⟨_, _, kept⟩ := execBayReset_limits ht; exact .inl kept.station_fault
  | _ => exact .inl (exec_keeps rfl ht).station_fault

/-! ### Counters and the order counter (R7, R22, R33) -/

theorem clampRecord_count_le (b : List Byte) : (clampRecord b).2 ≤ Config.counterTop := by
  obtain ⟨_, _, _, _, _, count⟩ := recordIsClamped b
  exact count.trans_le (List.countP_le_length.trans (by simp [Config.counterTop]))

theorem State.strapped_counters (s : State) (straps : Address) : (s.strapped straps).counterForm := by
  unfold State.strapped State.takeStraps
  split <;> exact ⟨Nat.zero_le _, Nat.zero_le _, Nat.zero_le _, Nat.zero_le _, Nat.zero_le _, Nat.zero_le _,
    Nat.zero_le _, Nat.zero_le _⟩

theorem State.strapped_order (s : State) (straps : Address) : (s.strapped straps).line.order = 0 := by
  unfold State.strapped State.takeStraps
  split <;> rfl

theorem State.takeConfig_counters {s : State} (hs : s.counterForm) (record : List Byte) :
    (s.takeConfig record).counterForm := ⟨clampRecord_count_le record, hs.2⟩

theorem State.completed_counters {s : State} (hs : s.counterForm) (e : Entry) :
    (s.setLine (s.line.completed e)).counterForm := by
  simpa [State.counterForm] using hs

theorem State.apart_counters {s : State} (hs : s.counterForm) (e : Entry) :
    (s.setLine (s.line.countCollision e)).apart.counterForm := by
  obtain ⟨clamps, errors, overruns, foreign, drops, aged, _, further⟩ := hs
  exact ⟨clamps, errors, overruns, foreign, drops, aged, Nat.zero_le _, further⟩

theorem State.onLineWith_of_attempt {s : State} {start : Word} {e : Entry} (h : s.line.attempt = some (start, e)) :
    s.onLineWith start e := by
  unfold Line.attempt at h
  split at h
  case h_1 hj hq => cases h; exact ⟨hj, hq⟩
  case h_2 => cases h

theorem State.hears_of_hearing {s : State} {stamp start : Word} (h : s.hearing stamp = some start) :
    s.hears stamp start := by
  unfold State.hearing at h
  split at h
  case isFalse => cases h
  case isTrue hc =>
    split at h
    case h_1 hj => cases h; exact ⟨hc, .inl ⟨hj, rfl⟩⟩
    case h_2 hj => cases h; exact ⟨hc, .inr hj⟩
    all_goals cases h

/-- What a command of the rows that keep the order counter owes: counters within 255, and that counter. -/
theorem State.keeps.counters_order {s t : State} (h : s.keeps t) :
    (s.counterForm → t.counterForm) ∧ t.line.order = s.line.order := ⟨h.counters, h.order⟩

/-- Settles O21: every command counts on from a state that keeps its counters, and the completions alone number a frame. -/
theorem countersAndOrderNumber : Obligations.CountersAndOrderNumber := by
  intro c s t ht
  cases c with
  | powerReset straps =>
    have kept := execPowerReset_keeps ht
    exact ⟨fun _ => kept.counters (s.strapped_counters straps), kept.order.trans (s.strapped_order straps)⟩
  | stationTimeTick => cases ht; exact ⟨id, rfl⟩
  | configReadComplete record =>
    obtain rfl | ⟨_, rfl | rfl | rfl⟩ := execConfigReadComplete_cases ht
    · exact ⟨id, rfl⟩
    · exact ⟨id, rfl⟩
    · exact ⟨id, rfl⟩
    · exact ⟨fun hs => State.takeConfig_counters hs record, rfl⟩
  | configReadNotAcknowledged => obtain rfl | ⟨_, rfl⟩ := execConfigReadNotAcknowledged_cases ht <;> exact ⟨id, rfl⟩
  | configReadTimeout => obtain rfl | ⟨_, rfl⟩ := execConfigReadTimeout_cases ht <;> exact ⟨id, rfl⟩
  | loopedFrameReceived bits => obtain rfl | ⟨_, rfl | rfl⟩ := execLoopedFrameReceived_cases ht <;> exact ⟨id, rfl⟩
  | selfLoopTimeout => obtain rfl | ⟨_, rfl⟩ := execSelfLoopTimeout_cases ht <;> exact ⟨id, rfl⟩
  | joinTimerExpiry =>
    obtain rfl | ⟨_, rfl⟩ := execJoinTimerExpiry_cases ht
    · exact ⟨id, rfl⟩
    · exact (State.examineStart_keeps s.joined).counters_order
  | frameSent =>
    obtain ⟨hn, rfl⟩ | ⟨start, e, he, rfl⟩ := execFrameSent_cases ht
    · refine ⟨id, fun ⟨start, e, hw⟩ => ?_, fun _ => rfl⟩
      rw [Line.attempt_of_onLineWith hw] at hn
      cases hn
    · have kept := State.reportCompleted_keeps (s.setLine (s.line.completed e)) e (s.line.order + 1)
      exact ⟨fun hs => kept.counters (State.completed_counters hs e), fun _ => kept.order,
        fun hn => absurd ⟨start, e, State.onLineWith_of_attempt he⟩ hn⟩
  | sendCollision =>
    obtain ⟨kept, _⟩ | ⟨_, e, _, rfl⟩ := execSendCollision_cases ht
    · exact kept.counters_order
    · have kept := State.silence_keeps (s.setLine (s.line.countCollision e))
      exact ⟨fun hs => kept.counters (State.apart_counters hs e), kept.order⟩
  | frameReceived stamp bits =>
    obtain ⟨rfl, hn⟩ | ⟨start, f, hs, hf, rfl⟩ := execFrameReceived_cases ht
    · refine ⟨id, fun ⟨⟨start, hw⟩, f, hf⟩ => ?_, fun _ => rfl⟩
      exact absurd hf (hn start f (State.hearing_of_hears hw))
    · have kept := State.hearFrame_keeps s f start
      exact ⟨fun hc => kept.counters hc, fun _ => kept.order,
        fun hn => absurd ⟨⟨start, State.hears_of_hearing hs⟩, f, hf⟩ hn⟩
  | tighten => obtain ⟨_, _, kept⟩ := execTighten_limits ht; exact kept.counters_order
  | bayReset => obtain ⟨_, _, kept⟩ := execBayReset_limits ht; exact kept.counters_order
  | _ => exact (exec_keeps rfl ht).counters_order

/-! ### Guard limits (R179, R180, R185) -/

/-- A limit tightened stays at or below the configured one (R180). -/
theorem Limits.tighten_within {e c : Limits} (h : e.within c) (payload : List Byte) : (e.tighten c payload).within c := by
  obtain ⟨hc, hv, ht⟩ := h
  unfold Limits.tighten
  split
  · exact ⟨Nat.min_le_right _ _, hv, ht⟩
  · exact ⟨hc, Nat.min_le_right _ _, ht⟩
  · exact ⟨hc, hv, Int.min_le_right _ _⟩

theorem State.keeps.limits {s t : State} (h : s.keeps t) (hs : s.limitForm) : t.limitForm := by
  unfold State.limitForm at *
  rw [h.effective, h.startup, h.station]
  exact hs

/-- Whatever TIGHTEN and BAY_RESET may make of the limits, they stay within the configured ones. -/
theorem State.withEffective_limits {s : State} (hs : s.limitForm) {l : Option Limits} (hl : s.mayLimit l) :
    (s.withEffective l).limitForm := by
  obtain ⟨within, absent⟩ := hs
  have unset (h : s.station = .loading) : l = none := by
    obtain rfl | ⟨e, payload, he, rfl⟩ | rfl := hl
    · exact (absent h).2
    · rw [(absent h).2] at he; cases he
    · rw [(absent h).2]; rfl
  refine ⟨?_, fun h => ⟨(absent h).1, unset h⟩⟩
  have configured {c : ConfigRecord} (hc : c ∈ s.startup.config) : s.config = c := by
    simp only [Option.mem_def] at hc
    simp [State.config, hc]
  obtain rfl | ⟨e, payload, he, rfl⟩ | rfl := hl
  · exact within
  · rintro _ ⟨⟩
    obtain ⟨c, hc, hw⟩ := within e he
    exact ⟨c, hc, configured hc ▸ Limits.tighten_within (by rw [configured hc]; exact hw) payload⟩
  · rintro l hl
    obtain ⟨e, he, rfl⟩ := Option.mem_map.mp hl
    obtain ⟨c, hc, _⟩ := within e he
    exact ⟨c, hc, by rw [configured hc]; exact ⟨le_refl _, le_refl _, le_refl _⟩⟩

theorem State.strapped_limits (s : State) (straps : Address) : (s.strapped straps).limitForm := by
  unfold State.strapped State.takeStraps
  split <;> exact ⟨fun e he => (by cases he), fun _ => ⟨rfl, rfl⟩⟩

/-- DEGRADED is entered from LOADING, where no limit is set (R8, R12). -/
theorem State.degrade_limits {s : State} (hs : s.limitForm) (h : s.station = .loading) (fault : StationFault) :
    (s.degrade fault).limitForm := by
  refine ⟨fun e he => ?_, fun hl => (by cases hl)⟩
  have unset : s.guardUnit.effective = none := (hs.2 h).2
  rw [show (s.degrade fault).guardUnit.effective = none from unset] at he
  cases he

theorem State.takeConfig_limits (s : State) (record : List Byte) : (s.takeConfig record).limitForm := by
  refine ⟨?_, fun h => by cases h⟩
  rintro _ ⟨⟩
  exact ⟨_, rfl, le_refl _, le_refl _, le_refl _⟩

/-- A step to a station state other than LOADING that leaves record and limits keeps the limits' form. -/
theorem State.limitForm_of_same {s t : State} (hs : s.limitForm) (hc : t.startup.config = s.startup.config)
    (he : t.guardUnit.effective = s.guardUnit.effective) (hn : t.station ≠ .loading) : t.limitForm :=
  ⟨by rw [he, hc]; exact hs.1, fun h => absurd h hn⟩

theorem exec_limitForm {c : Instr} {s t : State} (hs : s.limitForm) (ht : exec c s = .next t) : t.limitForm := by
  cases c with
  | powerReset straps => exact (execPowerReset_keeps ht).limits (s.strapped_limits straps)
  | stationTimeTick => cases ht; exact hs
  | configReadComplete record =>
    obtain rfl | ⟨hr, rfl | rfl | rfl⟩ := execConfigReadComplete_cases ht
    · exact hs
    · exact State.degrade_limits hs (State.readingConfig_station hr) _
    · exact State.degrade_limits hs (State.readingConfig_station hr) _
    · exact State.takeConfig_limits _ _
  | configReadNotAcknowledged =>
    obtain rfl | ⟨hr, rfl⟩ := execConfigReadNotAcknowledged_cases ht
    · exact hs
    · exact State.degrade_limits hs (State.readingConfig_station hr) _
  | configReadTimeout =>
    obtain rfl | ⟨hr, rfl⟩ := execConfigReadTimeout_cases ht
    · exact hs
    · exact State.degrade_limits hs (State.readingConfig_station hr) _
  | loopedFrameReceived bits =>
    obtain rfl | ⟨_, rfl | rfl⟩ := execLoopedFrameReceived_cases ht
    · exact hs
    · exact State.limitForm_of_same hs rfl rfl (by simp [State.enterJoining, State.writeDrop])
    · exact State.limitForm_of_same hs rfl rfl (by simp [State.goOffLine])
  | selfLoopTimeout =>
    obtain rfl | ⟨_, rfl⟩ := execSelfLoopTimeout_cases ht
    · exact hs
    · exact State.limitForm_of_same hs rfl rfl (by simp [State.goOffLine])
  | joinTimerExpiry =>
    obtain rfl | ⟨_, rfl⟩ := execJoinTimerExpiry_cases ht
    · exact hs
    · exact (State.examineStart_keeps _).limits (State.limitForm_of_same hs rfl rfl (by simp [State.joined]))
  | frameSent =>
    obtain ⟨_, rfl⟩ | ⟨_, e, _, rfl⟩ := execFrameSent_cases ht
    · exact hs
    · exact (State.reportCompleted_keeps _ _ _).limits hs
  | sendCollision =>
    obtain ⟨kept, _⟩ | ⟨_, e, _, rfl⟩ := execSendCollision_cases ht
    · exact kept.limits hs
    · exact (State.silence_keeps _).limits (State.limitForm_of_same hs rfl rfl (by simp [State.apart, State.goOffLine]))
  | frameReceived stamp bits =>
    obtain ⟨rfl, _⟩ | ⟨_, f, _, _, rfl⟩ := execFrameReceived_cases ht
    · exact hs
    · exact (State.hearFrame_keeps _ _ _).limits hs
  | tighten => obtain ⟨_, hl, kept⟩ := execTighten_limits ht; exact kept.limits (State.withEffective_limits hs hl)
  | bayReset => obtain ⟨_, hl, kept⟩ := execBayReset_limits ht; exact kept.limits (State.withEffective_limits hs hl)
  | _ => exact (exec_keeps rfl ht).limits hs

/-- What every command keeps of a form that does not speak of the waiting commands, every step keeps (log 2). -/
theorem step_keeps_form {P : State → Prop} (hp : ∀ (s : State) (rest : List Instr), P s → P { s with pending := rest })
    (hx : ∀ (c : Instr) (s t : State), P s → exec c s = .next t → P t) {s t : State} (hs : P s)
    (ht : step s = .next t) : P t := by
  unfold step at ht
  split at ht
  · cases ht; exact hs
  · exact hx _ _ _ (hp _ _ hs) ht

/-- Settles O37: no command takes the limits from within the configured ones. -/
theorem limitFormKept : Obligations.LimitFormKept := fun _ _ hs ht =>
  step_keeps_form (P := State.limitForm) (fun _ _ h => h) (fun _ _ _ => exec_limitForm) hs ht

end Sys2Proof.Machine
end

section
/-!
PROOF. Outside ON_LINE the contactor is requested open and the engine is idle, or in OFF_LINE at the abort that silencing
began; no command of the part changes that but POWER_RESET, the start-up commands and the silencing itself, which are
read off the states they set (R11, R75, R137, R143).
-/
namespace Sys2Proof.Machine

/-- The part stands down: outside ON_LINE, the contactor requested open, and no check but the abort of a silencing. -/
structure State.standsDown (s : State) : Prop where
  station : s.station ≠ .onLine
  standing : s.port.standing = .opened
  engine : s.engine.phase = .idle ∨ s.station = .offLine ∧ s.engine.phase = .aborting

theorem State.stationForm_iff (s : State) :
    s.stationForm ↔ (s.station = .onLine ∨ s.standsDown) ∧ s.engine.phase ≠ .release := by
  refine and_congr_left fun _ => ⟨fun h => ?_, ?_⟩
  · by_cases hs : s.station = .onLine
    · exact .inl hs
    · exact .inr ⟨hs, (h hs).1, (h hs).2⟩
  · rintro (hs | h) hn
    · exact absurd hs hn
    · exact ⟨h.standing, h.engine⟩

variable {s t : State}

/-- An operation that leaves the station, the standing request and the phase as they are. -/
theorem State.standsDown.same (h : s.standsDown) (hs : t.station = s.station)
    (hp : t.port.standing = s.port.standing) (he : t.engine.phase = s.engine.phase) : t.standsDown :=
  ⟨hs ▸ h.station, hp.trans h.standing, by rw [hs, he]; exact h.engine⟩

theorem State.standsDown.setEngine (h : s.standsDown) (e : Engine) (he : e.phase = s.engine.phase) :
    (s.setEngine e).standsDown := h.same rfl rfl he

theorem State.standsDown.setPort (h : s.standsDown) (p : Port) (hp : p.standing = .opened) :
    (s.setPort p).standsDown := h.same rfl (hp.trans h.standing.symm) rfl

theorem State.standsDown.setGuardUnit (h : s.standsDown) (g : GuardUnit) : (s.setGuardUnit g).standsDown :=
  h.same rfl rfl rfl

theorem State.standsDown.setSlotTable (h : s.standsDown) (x : SlotTable) : (s.setSlotTable x).standsDown :=
  h.same rfl rfl rfl

theorem State.standsDown.setLine (h : s.standsDown) (l : Line) : (s.setLine l).standsDown :=
  h.same rfl rfl rfl

theorem State.standsDown.openContactor (h : s.standsDown) (p : Port) (hp : p.standing = .opened) :
    (s.openContactor p).standsDown := (h.setPort p hp).setGuardUnit _

/-- An engine that has become idle, with the contactor requested open. -/
theorem State.standsDown.idle (h : s.standsDown) (hs : t.station = s.station) (hp : t.port.standing = .opened)
    (he : t.engine.phase = .idle) : t.standsDown := ⟨hs ▸ h.station, hp, .inl he⟩

/-- In a phase other than IDLE and ABORTING the part does not stand down. -/
theorem State.standsDown.phase (h : s.standsDown) : s.engine.phase = .idle ∨ s.engine.phase = .aborting :=
  h.engine.imp_right And.right

theorem State.standsDown.startable (h : s.standsDown) : s.startable = none := by
  have : (s.station == .onLine) = false := by simpa using h.station
  simp [State.startable, State.mayStart, this]

theorem State.standsDown.examineStart (h : s.standsDown) : s.examineStart = s := by
  unfold State.examineStart
  rw [h.startable]

/-! ### The end of a check and the abort -/

theorem State.standsDown.dropCarry (h : s.standsDown) : s.dropCarry.standsDown :=
  h.same (by simp) (by simp) (by simp)

theorem State.standsDown.reportIdle (h : s.standsDown) : s.reportIdle.standsDown := by
  have completed : s.completeReset.standsDown := h.same (by simp) (by simp) (by simp)
  unfold State.reportIdle
  dsimp only
  rw [completed.startable]
  exact completed.dropCarry

theorem State.standsDown.finishCheck (h : s.standsDown) (carry : Bool) : (s.finishCheck carry).standsDown :=
  State.standsDown.reportIdle (h.idle rfl h.standing rfl)

theorem State.standsDown.finishAbort (h : s.standsDown) (mismatched : Bool) : (s.finishAbort mismatched).standsDown := by
  have opened : (if s.engine.abortOpens mismatched then s.requestOpen else s).standsDown := by
    split
    · exact h.openContactor _ rfl
    · exact h
  unfold State.finishAbort
  generalize (if s.engine.abortOpens mismatched then s.requestOpen else s) = u at opened
  dsimp only
  have withdrawn : u.withdrawNeed.standsDown := opened.same (by simp) (by simp) (by simp)
  apply State.standsDown.finishCheck
  split <;> exact withdrawn.same (by simp) (by simp) (by simp)

theorem State.standsDown.secondCause (h : s.standsDown) (cause : Cause) : (s.secondCause cause).standsDown := by
  unfold State.secondCause
  dsimp only
  split
  · exact h.setEngine _ rfl
  · split
    · exact h.setEngine _ rfl
    · split
      · have marked := h.setEngine
          { s.engine with furtherFault := true, mustOpen := s.engine.mustOpen || cause.opens } rfl
        split
        · exact marked.finishAbort false
        · exact marked
      · exact h

theorem State.standsDown.orderAbort (h : s.standsDown) (cause : Cause) : (s.orderAbort cause).standsDown := by
  unfold State.orderAbort
  obtain he | he := h.phase <;> simp only [he]
  · split
    · exact h.dropCarry
    · exact h
  · exact h.secondCause cause

theorem State.standsDown.resetEngine (h : s.standsDown) : s.resetEngine.standsDown := by
  unfold State.resetEngine
  obtain he | he := h.phase <;> simp only [he]
  · exact h.dropCarry.reportIdle
  · exact h.setEngine _ he.symm

/-! ### Faults -/

theorem State.standsDown.latchFault (h : s.standsDown) (cause : Cause) : (s.latchFault cause).standsDown := by
  unfold State.latchFault
  split
  · exact State.standsDown.orderAbort ((h.setGuardUnit _).openContactor _ rfl) cause
  · exact State.standsDown.orderAbort (h.setGuardUnit _) cause

theorem State.standsDown.latchFaults (h : s.standsDown) (causes : List Cause) :
    (causes.foldl State.latchFault s).standsDown := by
  induction causes generalizing s with
  | nil => exact h
  | cons cause rest ih => exact ih (h.latchFault cause)

/-- With the contactor requested open the guard unit examines no set (R181). -/
theorem State.standsDown.guardSet (h : s.standsDown) (x : SampleSet) : s.guardSet x = s := by
  unfold State.guardSet
  split
  · rfl
  · rw [if_neg (by simp [Port.commandedClosed, h.standing])]

theorem State.standsDown.clearLatch (h : s.standsDown) : s.clearLatch.standsDown := by
  have released : ((s.setGuardUnit { s.guardUnit with latch := none, further := 0 }).releaseHold).standsDown :=
    (h.setGuardUnit _).setPort _ h.standing
  unfold State.clearLatch
  dsimp only
  rw [released.examineStart]
  exact released.latchFaults _

/-! ### Shed events, sets and answers -/

theorem State.standsDown.engineShed (h : s.standsDown) : s.engineShed = s := by
  unfold State.engineShed
  obtain he | he := h.phase <;> simp only [he]

theorem State.standsDown.granted (h : s.standsDown) (atOnce : Bool) : s.granted atOnce = s := by
  unfold State.granted
  obtain he | he := h.phase <;> simp only [he]

theorem State.standsDown.engineSet (h : s.standsDown) (x : SampleSet) : (s.engineSet x).standsDown := by
  unfold State.engineSet
  split
  · exact h
  · have taken : (s.setEngine (s.engine.takeIn x)).standsDown := h.setEngine _ (by simp)
    obtain he | he := taken.phase <;> simpa only [he] using taken

theorem State.standsDown.setpointAcknowledged (h : s.standsDown) (c : Check) :
    (s.setpointAcknowledged c).standsDown := by
  unfold State.setpointAcknowledged State.newestAcknowledged
  obtain he | he := h.phase <;> simp only [he] <;> split <;> first | exact h | exact h.setEngine _ he.symm

theorem State.standsDown.dropAcknowledged (h : s.standsDown) : s.dropAcknowledged.standsDown := by
  unfold State.dropAcknowledged
  obtain he | he := h.phase <;> simp only [he]
  · exact h
  · exact h.finishAbort false

theorem State.standsDown.engineAcknowledged (h : s.standsDown) (sp : Setpoint) :
    (s.engineAcknowledged sp).standsDown := by
  unfold State.engineAcknowledged
  split
  · exact h.dropAcknowledged
  · split
    · exact h
    · exact h.setpointAcknowledged _

theorem State.standsDown.offerSet (h : s.standsDown) (x : SampleSet) (order : SetOrder) :
    (s.offerSet x order).standsDown := by
  unfold State.offerSet
  split
  · rw [h.guardSet]
    exact (h.engineSet x).same (by simp) (by simp) (by simp)
  · rw [(h.engineSet x).guardSet]
    exact (h.engineSet x).same (by simp) (by simp) (by simp)

theorem State.standsDown.answerDiffers (h : s.standsDown) (sp : Setpoint) : (s.answerDiffers sp).standsDown := by
  unfold State.answerDiffers
  dsimp only
  split
  · exact (h.latchFault _).finishAbort true
  · exact h.latchFault _

theorem State.standsDown.answerMatches (h : s.standsDown) (sp : Setpoint) : (s.answerMatches sp).standsDown := by
  have answered : ((s.setPort { s.port with applied := sp.value }).engineAcknowledged sp).standsDown :=
    (h.setPort { s.port with applied := sp.value } h.standing).engineAcknowledged sp
  exact answered.same (by simp [State.answerMatches]) (by simp [State.answerMatches]) (by simp [State.answerMatches])

/-! ### Requests -/

theorem State.standsDown.validateSlot (h : s.standsDown) (f : Frame) (n : Fin 8) (head : SlotHead)
    (parts : List (List Byte)) : (s.validateSlot f n head parts).standsDown := by
  unfold State.validateSlot
  split
  · exact h.same (by simp) (by simp) (by simp)
  · dsimp only
    rw [State.standsDown.examineStart]
    all_goals exact h.same (by simp) (by simp) (by simp)

theorem State.standsDown.refuse (h : s.standsDown) (block : Block) (f : Frame) (r : Reason) (d : Nat) :
    (s.refuse block f r d).standsDown := h.same (by simp) (by simp) (by simp)

theorem State.standsDown.takeOwnPart (h : s.standsDown) (f : Frame) (n : Fin 8) (head : SlotHead) (expected : Nat)
    (parts : List (List Byte)) (deadline : Word) : (s.takeOwnPart f n head expected parts deadline).standsDown := by
  unfold State.takeOwnPart
  dsimp only
  split
  · split
    · exact h.setSlotTable _
    · exact h.validateSlot _ _ _ _
  · exact h.same (by simp) (by simp) (by simp)

theorem State.standsDown.takePart (h : s.standsDown) (f : Frame) : (s.takePart f).standsDown := by
  unfold State.takePart
  (repeat' split) <;> first | exact h.refuse _ _ _ _ | exact h.takeOwnPart _ _ _ _ _ _

theorem State.standsDown.cancelSlot (h : s.standsDown) (f : Frame) (n : Fin 8) : (s.cancelSlot f n).standsDown := by
  have answered {u : State} (hu : u.standsDown) : (u.answerSlot f n).standsDown := by
    unfold State.answerSlot
    split
    · exact hu
    · exact hu.same (by simp) (by simp) (by simp)
  have vacated : (s.vacate n).standsDown := h.same (by simp) (by simp) (by simp)
  unfold State.cancelSlot
  split
  case h_1 | h_2 => exact h.same (by simp) (by simp) (by simp)
  case h_3 => split; exacts [answered vacated, h.same (by simp) (by simp) (by simp)]
  case h_4 => exact answered vacated
  case h_5 => exact answered (h.orderAbort _)

theorem State.standsDown.cancelAll (h : s.standsDown) : s.cancelAll.standsDown := by
  unfold State.cancelAll
  dsimp only
  split
  · exact (h.setSlotTable _).orderAbort _
  · exact h.setSlotTable _

theorem State.standsDown.takeCancel (h : s.standsDown) (f : Frame) : (s.takeCancel f).standsDown := by
  unfold State.takeCancel
  split
  · exact h.refuse _ _ _ _
  · split
    · exact h.cancelSlot _ _
    · split
      · exact h.cancelAll
      · exact h.refuse _ _ _ _

theorem State.standsDown.takeClearFault (h : s.standsDown) (f : Frame) : (s.takeClearFault f).standsDown := by
  unfold State.takeClearFault
  (repeat' split) <;> first
    | exact h.refuse _ _ _ _
    | exact h.clearLatch.same (by simp) (by simp) (by simp)

theorem State.standsDown.takeBayReset (h : s.standsDown) (f : Frame) : (s.takeBayReset f).standsDown := by
  unfold State.takeBayReset
  split
  · exact h.refuse _ _ _ _
  · have emptied : ((((s.markReset f).setSlotTable (s.markReset f).slotTable.vacateAll).setLine
        (s.markReset f).line.removeReplies)).standsDown := h.same rfl rfl rfl
    exact emptied.resetEngine

/-- A part that stands down goes on doing so while a frame handed on is taken, if it does when the silo is shorter. -/
theorem standsDown_handedOn {c : Instr} {cls kind : Nat} {take : Heard → State → State}
    (hc : takesFrame c = some (cls, kind, take)) (ht : exec c s = .next t) (h : s.standsDown)
    (hk : ∀ x (u : State), u.standsDown → (take x u).standsDown) : t.standsDown := by
  obtain rfl | ⟨x, u, hh, rfl⟩ := exec_takesFrame hc ht
  · exact h
  · obtain ⟨rest, _, rfl⟩ := State.handOn_taking hh
    exact hk _ _ (h.same rfl rfl rfl)

/-- A request that leaves engine and port alone. -/
theorem standsDown_request {c : Instr} {cls kind : Nat} {take : Heard → State → State}
    (hc : takesFrame c = some (cls, kind, take)) (ht : exec c s = .next t) (h : s.standsDown)
    (hk : ∀ x (u : State), (take x u).station = u.station ∧ (take x u).engine = u.engine ∧ (take x u).port = u.port) :
    t.standsDown :=
  standsDown_handedOn hc ht h fun x u hu => hu.same (hk x u).1 (by rw [(hk x u).2.2]) (by rw [(hk x u).2.1])

/-! ### Requests and announcements that leave engine and port alone -/

section

variable (u : State) (h : Heard) (f : Frame)

theorem State.takeClaim_frame (apply : Nat × Nat × Nat → List Peer → List Peer) :
    (u.takeClaim h apply).station = u.station ∧ (u.takeClaim h apply).engine = u.engine ∧
    (u.takeClaim h apply).port = u.port := by
  unfold State.takeClaim
  (repeat' split) <;> simp

theorem State.takeOpen_frame :
    (u.takeOpen h).station = u.station ∧ (u.takeOpen h).engine = u.engine ∧ (u.takeOpen h).port = u.port := by
  unfold State.takeOpen
  (repeat' split) <;> simp

theorem State.takeClear_frame :
    (u.takeClear f).station = u.station ∧ (u.takeClear f).engine = u.engine ∧ (u.takeClear f).port = u.port := by
  unfold State.takeClear
  (repeat' split) <;> simp

theorem State.takeFetch_frame :
    (u.takeFetch f).station = u.station ∧ (u.takeFetch f).engine = u.engine ∧ (u.takeFetch f).port = u.port := by
  unfold State.takeFetch State.fetchResult
  (repeat' split) <;> simp

theorem State.takeStatus_frame :
    (u.takeStatus f).station = u.station ∧ (u.takeStatus f).engine = u.engine ∧ (u.takeStatus f).port = u.port := by
  unfold State.takeStatus
  split <;> simp

theorem State.takeTighten_frame :
    (u.takeTighten f).station = u.station ∧ (u.takeTighten f).engine = u.engine ∧
    (u.takeTighten f).port = u.port := by
  unfold State.takeTighten
  (repeat' split) <;> simp

end

/-! ### The other commands -/

theorem State.standsDown.shed (h : s.standsDown) (ht : exec .shed s = .next t) : t.standsDown := by
  refine standsDown_handedOn rfl ht h fun x u hu => ?_
  split
  · have told : (u.setHeadroom (u.headroom.shedEvent x.order)).standsDown := hu.same rfl rfl rfl
    unfold State.shedEvent
    rwa [told.engineShed]
  · exact hu

/-- The report of a completed frame reaches the engine with a SHED alone, which an idle or aborting one does not heed. -/
theorem State.standsDown.reportCompleted (h : s.standsDown) (e : Entry) (order : Word) :
    (s.reportCompleted e order).standsDown := by
  unfold State.reportCompleted
  dsimp only
  split
  · exact h.same (by simp) (by simp) (by simp)
  · split
    · have told (v : Headroom) : (s.setHeadroom v).standsDown := h.same rfl rfl rfl
      rw [State.ownShed_eq, (told _).engineShed]
      exact told _
    · exact h.same (by simp) (by simp) (by simp)

theorem State.standsDown.frameSent (h : s.standsDown) (ht : exec .frameSent s = .next t) : t.standsDown := by
  obtain ⟨_, rfl⟩ | ⟨_, e, _, rfl⟩ := execFrameSent_cases ht
  · exact h
  · exact (h.setLine _).reportCompleted _ _

theorem State.hearFrame_frame (s : State) (f : Frame) (stamp : Word) :
    (s.hearFrame f stamp).engine = s.engine ∧ (s.hearFrame f stamp).port = s.port := by
  unfold State.hearFrame State.siloFrame
  dsimp only
  (repeat' split) <;> simp

theorem State.standsDown.frameReceived (h : s.standsDown) {stamp : Word} {bits : List Bool}
    (ht : exec (.frameReceived stamp bits) s = .next t) : t.standsDown := by
  obtain ⟨rfl, _⟩ | ⟨start, f, _, _, rfl⟩ := execFrameReceived_cases ht
  · exact h
  · obtain ⟨he, hp⟩ := s.hearFrame_frame f start
    exact h.same (State.hearFrame_keeps s f start).station (by rw [hp]) (by rw [he])

theorem State.standsDown.contestDecision (h : s.standsDown) (ht : exec .contestDecision s = .next t) :
    t.standsDown := by
  cases ht
  split
  · split
    · split
      · unfold State.grantContest
        dsimp only
        rw [State.standsDown.granted]
        all_goals exact h.same (by simp) (by simp) (by simp)
      · exact h.same (by simp [State.yieldContest]) (by simp [State.yieldContest]) (by simp [State.yieldContest])
    · exact h
  · exact h

theorem State.standsDown.holdStale (h : s.standsDown) (ht : exec .holdStaleTimerExpiry s = .next t) :
    t.standsDown := by
  cases ht
  split
  · have stopped : (s.setHeadroom { s.headroom with staleTimer := none }).standsDown := h.same rfl rfl rfl
    exact stopped.orderAbort _
  · exact h

theorem State.standsDown.sampleSet (h : s.standsDown) {r : ReportedSet} {o : SetOrder}
    (ht : exec (.sampleSetArrival r o) s = .next t) : t.standsDown := by
  cases ht
  split
  · have taken : (s.takeSet r.taken).standsDown := h.same (by simp) (by simp) (by simp)
    apply State.standsDown.offerSet
    split
    · exact taken.same (by simp) (by simp) (by simp)
    · exact taken
  · exact h

theorem State.standsDown.acknowledgement (h : s.standsDown) {v : Nat}
    (ht : exec (.setpointAcknowledgement v) s = .next t) : t.standsDown := by
  cases ht
  split
  · exact h.latchFault _
  · have emptied := h.setPort { s.port with onPort := none, ackTimer := none } h.standing
    dsimp only
    split
    · exact emptied.answerMatches _
    · exact emptied.answerDiffers _

theorem State.standsDown.emergencyStop (h : s.standsDown) {level : Bool}
    (ht : exec (.emergencyStopChange level) s = .next t) : t.standsDown := by
  cases ht
  split
  · exact h
  · have changed := h.setPort { s.port with estop := level } h.standing
    dsimp only
    split
    · exact changed.latchFault _
    · exact changed

/-- A timer of a running check finds no such check where the part stands down. -/
theorem State.standsDown.not_phase (h : s.standsDown) {p : Phase} (hp : p ≠ .idle ∧ p ≠ .aborting) :
    (s.engine.phase == p) = false := by
  obtain he | he := h.phase <;> simp [he, hp.1.symm, hp.2.symm]

theorem State.standsDown.timeOut (h : s.standsDown) (ht : exec .timeOutTimerExpiry s = .next t) : t.standsDown := by
  cases ht
  split
  · dsimp only
    rw [h.not_phase (by decide)]
    exact h.setEngine _ rfl
  · exact h

/-- A timer of one phase of a running check. -/
theorem State.standsDown.timer (h : s.standsDown) {p : Phase} (hp : p ≠ .idle ∧ p ≠ .aborting) (due : Bool)
    (u : State) : (if s.engine.phase == p && due then u else s).standsDown := by
  rw [h.not_phase hp]
  exact h

theorem State.standsDown.soakMaximum (h : s.standsDown) (ht : exec .soakMaximumTimerExpiry s = .next t) :
    t.standsDown := by
  cases ht
  rw [h.not_phase (by decide), h.not_phase (by decide)]
  exact h

theorem State.standsDown.offTime (h : s.standsDown) (ht : exec .offTimeTimerExpiry s = .next t) : t.standsDown := by
  cases ht
  split
  · exact h
  · exact h.timer (by decide) _ _

theorem State.standsDown.acknowledgementTimer (h : s.standsDown)
    (ht : exec .acknowledgementTimerExpiry s = .next t) : t.standsDown := by
  cases ht
  split
  · exact h
  · split
    · refine State.standsDown.latchFault (h.setPort _ ?_) _
      exact h.standing
    · exact h

theorem State.standsDown.sampleWatchdog (h : s.standsDown) (ht : exec .sampleWatchdogExpiry s = .next t) :
    t.standsDown := by
  cases ht
  split
  · refine State.standsDown.latchFault (h.setPort _ ?_) _
    exact h.standing
  · exact h

/-- A part that stands down goes on doing so, whatever ordinary command it takes. -/
theorem exec_standsDown {c : Instr} (hc : ordinary c = true) (h : s.standsDown) (ht : exec c s = .next t) :
    t.standsDown := by
  cases c with
  | shed => exact h.shed ht
  | ask | hold | drop => exact standsDown_request rfl ht h fun x u => u.takeClaim_frame x _
  | openSlot => exact standsDown_request rfl ht h fun x u => u.takeOpen_frame x
  | part => exact standsDown_handedOn rfl ht h fun x _ hu => hu.takePart x.frame
  | cancel => exact standsDown_handedOn rfl ht h fun x _ hu => hu.takeCancel x.frame
  | clear => exact standsDown_request rfl ht h fun x u => u.takeClear_frame x.frame
  | fetch => exact standsDown_request rfl ht h fun x u => u.takeFetch_frame x.frame
  | status => exact standsDown_request rfl ht h fun x u => u.takeStatus_frame x.frame
  | clearFault => exact standsDown_handedOn rfl ht h fun x _ hu => hu.takeClearFault x.frame
  | contestDecision => exact h.contestDecision ht
  | holdStaleTimerExpiry => exact h.holdStale ht
  | sampleSetArrival r o => exact h.sampleSet ht
  | sampleWatchdogExpiry => exact h.sampleWatchdog ht
  | setpointAcknowledgement v => exact h.acknowledgement ht
  | acknowledgementTimerExpiry => exact h.acknowledgementTimer ht
  | emergencyStopChange level => exact h.emergencyStop ht
  | startWaitTimerExpiry | restTimerExpiry | shedHoldTimerExpiry | recoverWaitTimerExpiry =>
    cases ht; exact h.timer (by decide) _ _
  | soakMaximumTimerExpiry => exact h.soakMaximum ht
  | timeOutTimerExpiry => exact h.timeOut ht
  | offTimeTimerExpiry => exact h.offTime ht
  | transmitStart | arbitrationLost | receivedInError | abortRunSeen | lineIdle | assemblyDeadlineExpiry
  | contestTimerExpiry | backoffTimerExpiry | refreshTimerExpiry | peerEntryExpiry | reListenTimerExpiry
  | sampleReadBegin | writeBegin | writeEnd =>
    cases ht
    (repeat' split) <;> exact h.same (by simp) (by simp) (by simp)
  | powerReset | stationTimeTick | configReadComplete | configReadNotAcknowledged | configReadTimeout
  | loopedFrameReceived | selfLoopTimeout | joinTimerExpiry | frameSent | sendCollision | frameReceived | tighten
  | bayReset => simp [ordinary] at hc

/-! ### The station form -/

/-- What keeps the station and lets no engine stand in RELEASE keeps the form, if a part that stands down goes on so. -/
theorem State.keeps.stationForm (h : s.keeps t) (hd : s.standsDown → t.standsDown) (hs : s.stationForm) :
    t.stationForm := by
  rw [State.stationForm_iff] at hs ⊢
  obtain ⟨stands, phase⟩ := hs
  exact ⟨by rw [h.station]; exact stands.imp_right hd, h.phase phase⟩

/-- In a station state other than ON_LINE and OFF_LINE no check runs, nor does an abort. -/
theorem State.stationForm_idle (hs : s.stationForm) (h1 : s.station ≠ .onLine) (h2 : s.station ≠ .offLine) :
    s.port.standing = .opened ∧ s.engine.phase = .idle := by
  obtain ⟨standing, idle | ⟨off, _⟩⟩ := hs.1 h1
  · exact ⟨standing, idle⟩
  · exact absurd off h2

/-- A start-up step enters its station state with the contactor requested open and the engine idle. -/
theorem State.stationForm_of_idle (hp : t.port.standing = .opened) (he : t.engine.phase = .idle) : t.stationForm :=
  ⟨fun _ => ⟨hp, .inl he⟩, by simp [he]⟩

theorem State.degrade_form (hs : s.stationForm) (h : s.readingConfig = true) (fault : StationFault) :
    (s.degrade fault).stationForm := by
  have loading := State.readingConfig_station h
  obtain ⟨hp, he⟩ := State.stationForm_idle hs (by simp [loading]) (by simp [loading])
  exact State.stationForm_of_idle hp he

theorem State.takeConfig_form (hs : s.stationForm) (h : s.readingConfig = true) (record : List Byte) :
    (s.takeConfig record).stationForm := by
  have loading := State.readingConfig_station h
  obtain ⟨hp, he⟩ := State.stationForm_idle hs (by simp [loading]) (by simp [loading])
  exact State.stationForm_of_idle hp he

theorem State.goOffLine_form (hs : s.stationForm) (h : s.station = .selfLoop) (fault : StationFault) :
    (s.goOffLine fault).stationForm := by
  obtain ⟨hp, he⟩ := State.stationForm_idle hs (by simp [h]) (by simp [h])
  exact State.stationForm_of_idle hp he

theorem State.strapped_form (s : State) (straps : Address) : (s.strapped straps).standsDown := by
  unfold State.strapped State.takeStraps
  split <;> exact ⟨nofun, rfl, .inl rfl⟩

/-! ### Silencing (R13, R123, R143) -/

/-- The port as silencing leaves it: the contactor is requested open (R123). -/
theorem State.silencePort_standing (s : State) : s.silencePort.port.standing = .opened := rfl

/-- STATION_SILENCED is no cause whose abort ends at once: the check is left in ABORTING, an idle engine idle (R143). -/
theorem State.orderAbort_silenced (s : State) (h : s.engine.phase ≠ .release) :
    (s.orderAbort .stationSilenced).engine.phase = .idle ∨
    (s.orderAbort .stationSilenced).engine.phase = .aborting := by
  unfold State.orderAbort State.beginAbort
  cases he : s.engine.phase <;> simp_all [State.secondCause]

theorem State.orderAbort_silenced_standing (s : State) :
    (s.orderAbort .stationSilenced).port.standing = s.port.standing := by
  unfold State.orderAbort State.beginAbort
  cases he : s.engine.phase <;> simp [State.secondCause]

theorem State.silence_form (hs : s.stationForm) : s.silence.stationForm := by
  have off : s.silence.station = .offLine := (State.silence_keeps s).station
  have notReleased : s.silence.engine.phase ≠ .release := (State.silence_keeps s).phase hs.2
  suffices h : s.silence.port.standing = .opened ∧
      (s.silence.engine.phase = .idle ∨ s.silence.engine.phase = .aborting) from
    ⟨fun _ => ⟨h.1, h.2.imp_right fun ha => ⟨off, ha⟩⟩, notReleased⟩
  unfold State.silence
  dsimp only
  split
  · simp only [State.tryBar_frame]
    refine ⟨?_, State.orderAbort_silenced _ ?_⟩
    · rw [State.orderAbort_silenced_standing]
      exact State.silencePort_standing _
    · exact hs.2
  case isFalse hb =>
    have notOnLine : s.station ≠ .onLine := by
      intro h
      simp [h, StationState.builds] at hb
    obtain ⟨hp, he⟩ := hs.1 notOnLine
    exact ⟨hp, he.imp_right And.right⟩

theorem exec_stationForm {c : Instr} (hs : s.stationForm) (ht : exec c s = .next t) : t.stationForm := by
  cases c with
  | powerReset straps =>
    have down := s.strapped_form straps
    cases ht
    split
    · exact (State.latchFault_keeps _ _).stationForm (fun h => h.latchFault _)
        (State.stationForm_of_idle down.standing (by unfold State.takeStraps; split <;> rfl))
    · exact State.stationForm_of_idle down.standing (by unfold State.takeStraps; split <;> rfl)
  | stationTimeTick => cases ht; exact hs
  | configReadComplete record =>
    obtain rfl | ⟨hr, rfl | rfl | rfl⟩ := execConfigReadComplete_cases ht
    · exact hs
    · exact State.degrade_form hs hr _
    · exact State.degrade_form hs hr _
    · exact State.takeConfig_form hs hr _
  | configReadNotAcknowledged =>
    obtain rfl | ⟨hr, rfl⟩ := execConfigReadNotAcknowledged_cases ht
    · exact hs
    · exact State.degrade_form hs hr _
  | configReadTimeout =>
    obtain rfl | ⟨hr, rfl⟩ := execConfigReadTimeout_cases ht
    · exact hs
    · exact State.degrade_form hs hr _
  | loopedFrameReceived bits =>
    obtain rfl | ⟨hl, rfl | rfl⟩ := execLoopedFrameReceived_cases ht
    · exact hs
    · obtain ⟨hp, he⟩ := State.stationForm_idle hs (by simp [hl]) (by simp [hl])
      exact State.stationForm_of_idle (by simpa [State.enterJoining] using hp) he
    · exact State.goOffLine_form hs hl _
  | selfLoopTimeout =>
    obtain rfl | ⟨hl, rfl⟩ := execSelfLoopTimeout_cases ht
    · exact hs
    · exact State.goOffLine_form hs hl _
  | joinTimerExpiry =>
    obtain rfl | ⟨_, rfl⟩ := execJoinTimerExpiry_cases ht
    · exact hs
    · refine ⟨fun h => absurd ?_ h, (State.examineStart_keeps s.joined).phase hs.2⟩
      exact (State.examineStart_keeps s.joined).station
  | frameSent =>
    have down : s.standsDown → t.standsDown := fun h => h.frameSent ht
    obtain ⟨_, rfl⟩ | ⟨_, e, _, rfl⟩ := execFrameSent_cases ht
    · exact hs
    · exact (State.reportCompleted_keeps _ _ _).stationForm (fun h => h.reportCompleted _ _) hs
  | sendCollision =>
    obtain ⟨kept, he, hp⟩ | ⟨_, e, _, rfl⟩ := execSendCollision_cases ht
    · exact kept.stationForm (fun h => h.same kept.station (by rw [hp]) (by rw [he])) hs
    · exact State.silence_form (s := s.setLine _) hs
  | frameReceived stamp bits =>
    have down : s.standsDown → t.standsDown := fun h => h.frameReceived ht
    obtain ⟨rfl, _⟩ | ⟨start, f, _, _, rfl⟩ := execFrameReceived_cases ht
    · exact hs
    · refine (State.hearFrame_keeps s f start).stationForm (fun h => down ?_) hs
      exact h.same rfl rfl rfl
  | tighten =>
    obtain ⟨_, _, kept⟩ := execTighten_limits ht
    exact kept.stationForm (fun h => standsDown_request rfl ht (h.same rfl rfl rfl) fun x u => u.takeTighten_frame x.frame) hs
  | bayReset =>
    obtain ⟨_, _, kept⟩ := execBayReset_limits ht
    exact kept.stationForm
      (fun h => standsDown_handedOn rfl ht (h.same rfl rfl rfl) fun x _ hu => hu.takeBayReset x.frame) hs
  | _ => exact (exec_keeps rfl ht).stationForm (fun h => exec_standsDown rfl h ht) hs

/-- Settles O10: what stands down goes on doing so until ON_LINE is entered or power is reset, and silencing leaves no
check but the abort it began. -/
theorem stationFormKept : Obligations.StationFormKept := fun _ _ hs ht =>
  step_keeps_form (P := State.stationForm) (fun _ _ h => h) (fun _ _ _ => exec_stationForm) hs ht

end Sys2Proof.Machine
end

section
/-!
PROOF. Power reset, the ends of the configuration read and of the self-loop test: whole next
states, read off what each command does.
-/
namespace Sys2Proof.Machine

/-! ### Power reset -/

theorem reset_slot (n : Fin 8) : State.reset.slotTable.slot n = .vacant := by
  revert n; decide

theorem reset_contactorForm : State.reset.contactorForm := ⟨rfl, nofun, nofun⟩
theorem reset_stationForm : State.reset.stationForm := ⟨fun _ => ⟨rfl, .inl rfl⟩, nofun⟩
theorem reset_pathForm : State.reset.port.pathForm := ⟨nofun, nofun⟩
theorem reset_unloadedForm : State.reset.unloadedForm := ⟨nofun, nofun⟩

theorem reset_queueForm : State.reset.queueForm :=
  ⟨.nil, nofun, nofun, by decide, by decide, by decide, by decide, nofun, nofun, fun _ => ⟨rfl, rfl⟩⟩

theorem reset_viewForm : State.reset.viewForm := ⟨by decide, nofun, fun _ => rfl, .nil, nofun, fun _ => rfl⟩

theorem reset_needForm : State.reset.needForm := by
  refine ⟨nofun, nofun, fun _ => rfl, by decide, fun _ n => ?_, fun n w hw => ?_, nofun⟩
  · rw [reset_slot]; rfl
  · rw [reset_slot] at hw; cases hw

theorem reset_claimForm : State.reset.claimForm := ⟨rfl, fun _ _ => rfl, reset_needForm⟩

theorem reset_slotForm : State.reset.slotForm := by
  refine ⟨.nil, fun n => ?_, fun n hn => ?_⟩
  · rw [reset_slot]; exact ⟨nofun, nofun⟩
  · rw [reset_slot] at hn; cases hn

theorem reset_limitForm : State.reset.limitForm := ⟨nofun, fun _ => ⟨rfl, rfl⟩⟩
theorem reset_counterForm : State.reset.counterForm := by decide

/-- Settles O3: every field by evaluation, and the forms, which hold of a part that holds nothing. -/
theorem resetValues : Obligations.ResetValues :=
  ⟨by decide, by decide, by decide, ⟨reset_slot, rfl, rfl⟩, by decide, by decide, by decide, reset_contactorForm,
    reset_stationForm, reset_pathForm, reset_unloadedForm, reset_queueForm, reset_viewForm, reset_claimForm,
    reset_slotForm, reset_limitForm, reset_counterForm⟩

/-- Settles O4: the straps decide the start-up record, and the input's level the latch. -/
theorem powerResetBeginsAnew : Obligations.PowerResetBeginsAnew := by
  intro straps s begun clear
  have started : s.strapped straps = { clear with port := { clear.port with estop := s.port.estop } } := by
    unfold State.strapped State.takeStraps
    have hb : isBay straps = decide (straps.toNat < 48) := rfl
    by_cases h : straps.toNat < 48
    · simp only [clear, begun]
      rw [if_pos (by simpa [hb] using h), if_pos h]; rfl
    · simp only [clear, begun]
      rw [if_neg (by simpa [hb] using h), if_neg h]; rfl
  have ends : exec (.powerReset straps) s =
    .next (if s.port.estop then (s.strapped straps).latchFault .estop else s.strapped straps) := rfl
  constructor <;> intro h <;> rw [ends, started, h] <;> rfl

/-! ### The configuration read and the self-loop test -/

/-- Settles O6: a record in time by its length and its check, and the two failures, each as the part's read is in progress. -/
theorem configReadEnds : Obligations.ConfigReadEnds := by
  intro s hs read hr degraded
  simp only [Option.mem_def] at hr
  have reading : s.readingConfig = true := by simp [State.readingConfig, hs, hr]
  have limit : s.configDue = some read.due := by simp [State.configDue, hr]
  refine ⟨fun record hl => ?_, ?_, fun hd => ?_⟩
  · show Host.Outcome.next _ = _
    have whole : (record.length == Config.configLength) = true := by simp [hl, Config.configLength]
    have late : overdue s.time s.configDue = earlier read.due s.time := by rw [limit]; rfl
    rw [reading, whole, late]
    by_cases hd : earlier read.due s.time = true
    · simp [hd]; rfl
    · have agrees : recordAgrees record =
        decide ((checkSequence (bytesBits (record.take 38))).toNat = field16 record 38) := rfl
      rw [agrees]
      by_cases hc : (checkSequence (bytesBits (record.take 38))).toNat = field16 record 38
      · simp [hd, hc]; rfl
      · simp [hd, hc]; rfl
  · show Host.Outcome.next _ = _
    rw [reading]; rfl
  · show Host.Outcome.next _ = _
    have expired : due s.time s.configDue = true := by rw [limit]; exact hd
    rw [reading, expired]; rfl

/-- Settles O8: the frame back is judged by its instant and its bits, and both timers act at their limit alone. -/
theorem selfLoopAndJoining : Obligations.SelfLoopAndJoining := by
  intro s failed
  have left : s.goOffLine .loopFailed = failed := rfl
  refine ⟨fun hs => ⟨fun ht => ?_, fun i hi he bits => ?_, fun bits hb => ?_, fun i hi hr => ?_⟩, fun hs i hi hr => ?_⟩
  all_goals
    show Host.Outcome.next _ = _
    rw [hs]
  · have inTime : overdue s.time s.startup.loopTimer = false := by
      cases hl : s.startup.loopTimer with
      | none => rfl
      | some i => exact ht i hl
    simp [inTime]
    rfl
  · have late : overdue s.time s.startup.loopTimer = true := (overdue_iff _ _).mpr ⟨i, hi, he⟩
    simp [late, left]
  · simp [hb, left]
  · have expired : due s.time s.startup.loopTimer = true := by
      rw [Option.mem_def.mp hi]; exact hr
    simp [expired, left]
  · have expired : due s.time s.startup.joinTimer = true := by
      rw [Option.mem_def.mp hi]; exact hr
    simp [expired]
    rfl

end Sys2Proof.Machine
end

section
/-!
PROOF. The third collision, and the shed event: whole next states, read off what each command does.
-/
namespace Sys2Proof.Machine

/-! ### Silencing -/

/-- A drop written stands in the path, be it new or the one that already stood (R115). -/
theorem Port.writeDrop_dropInPath (p : Port) : p.writeDrop.dropInPath := by
  unfold Port.writeDrop
  dsimp only
  split
  case h_1 _ u hu =>
    split
    case isTrue hd => exact .inl ⟨u, hu, hd⟩
    case isFalse => exact .inl ⟨_, rfl, rfl⟩
  case h_2 o _ ho =>
    split
    case isTrue hd => exact .inr ⟨o, ho, hd⟩
    case isFalse => exact .inl ⟨_, rfl, rfl⟩
  case h_3 => exact .inl ⟨_, rfl, rfl⟩

/-- Without a need, nothing of a carry is left to withdraw. -/
theorem State.dropCarry_of_needless {s : State} (h : s.headroom.need = none) :
    ∃ e, s.dropCarry = { s with engine := e } := by
  unfold State.dropCarry
  split
  · exact ⟨{ s.engine with carry := false }, by simp [State.withdrawNeed, h]; rfl⟩
  · exact ⟨s.engine, rfl⟩

/-- The order that silencing gives to the engine: without a need it changes the engine, and adds at most a drop to the
path (R143). -/
theorem State.orderAbort_silenced_parts {s : State} (h : s.headroom.need = none) :
    ∃ e p, s.orderAbort .stationSilenced = { s with engine := e, port := p } ∧ (p = s.port ∨ p = s.port.writeDrop) := by
  have enters : ∃ e p, s.enterAbort (some .stationSilenced) true = { s with engine := e, port := p } ∧
    (p = s.port ∨ p = s.port.writeDrop) := ⟨_, _, rfl, .inr rfl⟩
  unfold State.orderAbort
  cases s.engine.phase
  case idle =>
    obtain ⟨e, he⟩ := s.dropCarry_of_needless h
    exact ⟨e, s.port, he, .inl rfl⟩
  case release => exact ⟨_, _, rfl, .inl rfl⟩
  case aborting => exact ⟨_, _, rfl, .inl rfl⟩
  all_goals exact enters

/-- The part apart from the line, as silencing leaves it before its order to the engine (R13, R85, R123, R181). -/
def State.quieted (s : State) : State :=
  (s.apart.silencePort.setSlotTable s.slotTable.vacateIdle).setGuardUnit s.apart.silencePort.guardUnit.clearRuns

/-- What silencing makes of a part that is JOINING or ON_LINE, with the engine left open (R13). -/
theorem State.silence_builds {s : State} (h : s.station.builds = true) :
    ∃ e p, s.silence = ({ s.quieted with engine := e, port := p } : State).tryBar ∧
      (p = s.quieted.port ∨ p = s.quieted.port.writeDrop) := by
  obtain ⟨e, p, ends, hp⟩ := State.orderAbort_silenced_parts (s := s.quieted) rfl
  have whole : s.silence = (s.quieted.orderAbort .stationSilenced).tryBar := by
    unfold State.silence
    rw [if_pos h]; rfl
  exact ⟨e, p, by rw [whole, ends], hp⟩

theorem State.silence_apart (s : State) (h : s.station.builds = false) : s.silence = s.apart := by
  unfold State.silence
  rw [h]; rfl

/-- The port as silencing leaves it (R123), whether or not the engine's abort writes its drop as well. -/
theorem State.quieted_port (s : State) {p : Port} (h : p = s.quieted.port ∨ p = s.quieted.port.writeDrop) :
    p.dropInPath ∧ p.standing = .opened ∧ p.ceiling = 0 ∧ p.watchdog = none := by
  obtain rfl | rfl := h
  · exact ⟨Port.writeDrop_dropInPath s.port, rfl, rfl, rfl⟩
  · exact ⟨Port.writeDrop_dropInPath _, by simp [State.quieted, State.silencePort_standing]; simp [State.silencePort]⟩

theorem State.quieted_rest (s : State) : s.quieted.time = s.time ∧ s.quieted.guardUnit.latch = s.guardUnit.latch := by
  simp [State.quieted, GuardUnit.clearRuns, State.apart, State.goOffLine]

theorem SlotTable.vacateIdle_slot {x : SlotTable} {n : Fin 8} (h : (x.slot n).isActive = false) :
    x.vacateIdle.slot n = .vacant := by
  have whole : x.vacateIdle.slot n = if (x.slot n).isActive then x.slot n else .vacant := by
    simp only [SlotTable.vacateIdle, SlotTable.slot, Fin.getElem_fin, Vector.getElem_map]; rfl
  simp [whole, h]

/-- Settles O17: the third collision silences the part, whose line unit, view, slots and port are then read off. -/
theorem thirdCollisionSilences : Obligations.ThirdCollisionSilences := by
  intro s start e ho hc hk
  let counted := s.setLine (s.line.countCollision e)
  have third : Config.collisionLimit ≤ (s.line.countCollision e).collisions := by
    simp [Line.countCollision, hc, Config.collisionLimit]
    omega
  have ends : exec .sendCollision s = .next counted.silence := by
    show Host.Outcome.next _ = _
    rw [Line.attempt_of_onLineWith ho]
    simp only [if_pos third]
    rfl
  refine ⟨_, ends, ?_⟩
  cases hb : s.station.builds
  · rw [counted.silence_apart hb]
    exact ⟨rfl, rfl, rfl, rfl, rfl, rfl, rfl, rfl, rfl, rfl, rfl, rfl, rfl, rfl, nofun⟩
  · obtain ⟨e, p, whole, hp⟩ := State.silence_builds (s := counted) hb
    obtain ⟨drop, standing, ceiling, watchdog⟩ := counted.quieted_port hp
    rw [whole]
    simp only [State.tryBar_frame]
    exact ⟨rfl, rfl, rfl, rfl, rfl, rfl, rfl, rfl, rfl, rfl, rfl, rfl, counted.quieted_rest.1, counted.quieted_rest.2,
      fun _ => ⟨drop, standing, ceiling, watchdog, rfl, rfl, fun n hn => SlotTable.vacateIdle_slot hn⟩⟩

/-! ### Shed events -/

theorem Engine.leaveClaiming_parts (e : Engine) (now : Word) :
    (e.leaveClaiming now).verdict = e.verdict ∧ (e.leaveClaiming now).check = e.check := by
  unfold Engine.leaveClaiming
  split <;> exact ⟨rfl, rfl⟩

theorem State.freeze_eq (s : State) : s.freeze = { s with
    engine := { s.engine with
      phase := .frozen, frozenFrom := some s.engine.phase, restarts := s.engine.restarts + 1
      shedHold := some (later s.time (s.config.shedHold * 10)), awaiting := true, dwellStart := none, dwellCount := 0
      finalHold := false, trip := { s.engine.trip with timeOut := none } }
    port := if s.station = .offLine then s.port else s.port.writeSetpoint (s.engine.mark.getD 0) } := by
  unfold State.freeze State.writeSetpoint
  by_cases h : s.station = .offLine
  · simp [h]; rfl
  · simp [h]; rfl

/-- What a loading engine does with a shed event while it may restart: back to the mark, FROZEN for the shed hold (R133). -/
theorem State.engineShed_freezes {s : State} (h : s.engine.phase.loads = true) (hr : s.engine.restarts < 2) :
    s.engineShed = s.freeze := by
  unfold State.engineShed
  have may : s.engine.restarts < Config.restartLimit := hr
  cases he : s.engine.phase <;> simp [he, Phase.loads, may] at h ⊢

/-- What a loading engine does with a shed event after two restarts (R133). -/
theorem State.engineShed_aborts {s : State} (h : s.engine.phase.loads = true) (hr : 2 ≤ s.engine.restarts) :
    s.engineShed = s.enterAbort (some .shedLimit) false := by
  unfold State.engineShed
  have mayNot : ¬ s.engine.restarts < Config.restartLimit := Nat.not_lt.mpr hr
  cases he : s.engine.phase <;> simp [he, Phase.loads, mayNot, State.beginAbort] at h ⊢

theorem State.engineShed_frozen {s : State} (h : s.engine.phase = .frozen) :
    s.engineShed = s.setEngine { s.engine with
      shedHold := some (later s.time (s.config.shedHold * 10)), trip := { s.engine.trip with timeOut := none } } := by
  unfold State.engineShed
  rw [h]; rfl

theorem State.engineShed_unheeded {s : State} (h : s.engine.phase.loads = false) (hf : s.engine.phase ≠ .frozen) :
    s.engineShed = s := by
  unfold State.engineShed
  cases he : s.engine.phase <;> simp [he, Phase.loads] at h hf ⊢

/-- The contest on a shed event: denied when the event follows its ask, unless the SHED was late for it (R60). -/
def Headroom.toldShed (u : Headroom) (order : Word) (late : Bool) : Headroom :=
  { u with denial := u.denial || (!late && u.claim == .contest && u.own.any (fun own => earlier own order)) }

theorem Headroom.toldShed_timely (u : Headroom) (order : Word) : u.toldShed order false = u.shedEvent order := by
  rw [u.shedEvent_eq]; rfl

theorem Headroom.toldShed_late (u : Headroom) (order : Word) : u.toldShed order true = u := by
  simp [Headroom.toldShed]

/-- A SHED handed on to a part that builds tests is a shed event in time (R59). -/
theorem execShed_of_handing {s : State} {h : Heard} {rest : List Heard} (hh : s.handing h rest 0 0)
    (hb : s.station.builds = true) :
    exec .shed s = .next ((s.taking rest).setHeadroom (s.headroom.toldShed h.order false)).engineShed := by
  show Host.Outcome.next _ = _
  rw [State.handOn_of_handing hh, Headroom.toldShed_timely]
  simp [hb, State.shedEvent]

/-- The completion of the part's own SHED is a shed event, late or not (R60, log 35). -/
theorem execFrameSent_of_shed {s : State} {start : Word} {e : Entry} (ho : s.onLineWith start e)
    (hs : e.isShed = true) :
    exec .frameSent s = .next (({ s with line := s.line.afterOwn e } : State).setHeadroom
      (s.headroom.toldShed (s.line.order + 1) (s.headroom.lateShed == some e.entryOrder))).engineShed := by
  have noClaim : e.isClaim = false := by
    simp only [Entry.isShed, Entry.isClaim, beq_iff_eq] at hs ⊢
    simp [hs]
  show Host.Outcome.next _ = _
  rw [Line.attempt_of_onLineWith ho]
  simp only [State.reportCompleted, noClaim, hs, Line.completed_eq_afterOwn, State.ownShed_eq]
  by_cases late : s.headroom.lateShed = some e.entryOrder
  · simp [late, Headroom.toldShed_late, State.setLine]
  · have inTime : (s.headroom.lateShed == some e.entryOrder) = false := beq_false_of_ne late
    rw [inTime, Headroom.toldShed_timely]
    simp [late, State.setLine]

/-- Settles O25: both events tell the contest and then the engine, which takes the event by phase. -/
theorem shedEventRule : Obligations.ShedEventRule := by
  refine ⟨fun s h rest hh hb => ?_, fun c s s1 order late event => ?_⟩
  · show Host.Outcome.next _ = _
    rw [State.handOn_of_handing hh]
    simp [hb]
  · have ends : exec c s = .next (s1.setHeadroom (s.headroom.toldShed order late)).engineShed := by
      obtain ⟨h, rest, hh, hb, rfl, rfl, rfl, rfl⟩ | ⟨start, e, ho, hs, rfl, rfl, rfl, rfl⟩ := event
      · exact execShed_of_handing hh hb
      · exact execFrameSent_of_shed ho hs
    have same : s1 = { s with line := s1.line } := by
      obtain ⟨h, rest, _, _, _, _, rfl, _⟩ | ⟨start, e, _, _, _, _, rfl, _⟩ := event <;> rfl
    rw [ends, same]
    generalize s1.line = line
    let told : State := ({ s with line := line } : State).setHeadroom (s.headroom.toldShed order late)
    refine ⟨fun hl hr => ?_, fun hl hr => ?_, fun hf => ?_, fun hl hf => ?_⟩
    · rw [State.engineShed_freezes (s := told) hl hr]
      exact congrArg Host.Outcome.next told.freeze_eq
    · rw [State.engineShed_aborts (s := told) hl hr]
      obtain ⟨verdict, check⟩ := told.engine.leaveClaiming_parts told.time
      exact ⟨_, rfl, rfl, rfl, rfl, verdict, check⟩
    · rw [State.engineShed_frozen (s := told) hf]; rfl
    · rw [State.engineShed_unheeded (s := told) hl hf]; rfl

end Sys2Proof.Machine
end

section
/-!
PROOF. Which operations let a slot become ACTIVE, and in what state they leave the part: the start alone does, and what
goes before it and after it in the same command leaves the slots and the queue to it (R75).
-/
namespace Sys2Proof.Machine

/-! ### The relations -/

/-- No slot has become ACTIVE. -/
def State.startsNone (s t : State) : Prop :=
  ∀ n, (t.slotTable.slot n).isActive = true → (s.slotTable.slot n).isActive = true

/-- The slot of the check that `s` holds is not ACTIVE in `t`. -/
def State.checkOver (s t : State) : Prop :=
  ∀ c ∈ s.engine.check, (t.slotTable.slot c.slot).isActive = false

/-- `t` comes of `s` by no start: a slot stays or is vacated or DONE, the queue stays, no latch is released, no BAY_RESET
begun, and the engine goes on with its check, if only to abort it, or has ended it. -/
structure State.follows (s t : State) : Prop where
  slots : ∀ n, t.slotTable.slot n = s.slotTable.slot n ∨
    (t.slotTable.slot n).isActive = false ∧ (t.slotTable.slot n).isHeld = false
  queue : t.slotTable.queue = s.slotTable.queue
  station : t.station = s.station
  latch : t.guardUnit.latch = none → s.guardUnit.latch = none
  resetting : s.guardUnit.resetting = none → t.guardUnit.resetting = none
  engine : t.engine.check = s.engine.check ∧ (t.engine.phase = s.engine.phase ∨ t.engine.phase = .aborting) ∨
    s.checkOver t

/-- Slot `n` has become ACTIVE on the way from `s` to `t` as R75 lets it. -/
structure State.hasStarted (s t : State) (n : Fin 8) : Prop where
  station : t.station = .onLine
  latch : s.guardUnit.latch = none
  resetting : t.guardUnit.resetting = none
  head : s.slotTable.queue.head? = some n
  slot : ∃ h w, s.slotTable.slot n = .held h w ∧ t.slotTable.slot n = .active h w ∧
    t.engine.check = some { slot := n, priority := h.priority, params := w.params, need := w.need }
  ended : s.engine.phase = .idle ∨ ∀ c ∈ s.engine.check, c.slot ≠ n → (t.slotTable.slot c.slot).isActive = false
  phase : t.engine.phase = .quiet ∨ t.engine.phase = .aborting
  left : n ∉ t.slotTable.queue

/-- Every slot that has become ACTIVE has done so as R75 lets it. -/
def State.startsDuly (s t : State) : Prop :=
  ∀ n, (s.slotTable.slot n).isActive = false → (t.slotTable.slot n).isActive = true → s.hasStarted t n

variable {s t u : State}

theorem State.startsNone.of_slots (h : t.slotTable = s.slotTable) : s.startsNone t := fun n => by rw [h]; exact id

theorem State.startsNone.trans (a : s.startsNone t) (b : t.startsNone u) : s.startsNone u := fun n => a n ∘ b n

theorem State.startsNone.duly (h : s.startsNone t) : s.startsDuly t := fun n h0 h1 => by
  rw [h n h1] at h0; cases h0

theorem State.follows.startsNone (h : s.follows t) : s.startsNone t := fun n hn => by
  obtain hs | ⟨ha, _⟩ := h.slots n
  · rwa [← hs]
  · rw [ha] at hn; cases hn

/-- An operation that leaves slots, station, latch, check and phase as they are. -/
theorem State.follows.same (hs : t.slotTable = s.slotTable) (hst : t.station = s.station)
    (hl : t.guardUnit.latch = s.guardUnit.latch) (hr : t.guardUnit.resetting = s.guardUnit.resetting)
    (hc : t.engine.check = s.engine.check) (hp : t.engine.phase = s.engine.phase) : s.follows t where
  slots n := .inl (by rw [hs])
  queue := by rw [hs]
  station := hst
  latch h := hl.symm.trans h
  resetting h := hr.trans h
  engine := .inl ⟨hc, .inl hp⟩

theorem State.follows.refl (s : State) : s.follows s := .same rfl rfl rfl rfl rfl rfl

/-- A slot that is not ACTIVE becomes so by a start alone. -/
theorem State.follows.inactive (h : s.follows t) {n : Fin 8} (hn : (s.slotTable.slot n).isActive = false) :
    (t.slotTable.slot n).isActive = false :=
  Bool.eq_false_iff.mpr fun ht => by rw [h.startsNone n ht] at hn; cases hn

theorem State.follows.trans (a : s.follows t) (b : t.follows u) : s.follows u where
  slots n := by
    obtain hb | hb := b.slots n
    · rw [hb]; exact a.slots n
    · exact .inr hb
  queue := b.queue.trans a.queue
  station := b.station.trans a.station
  latch := a.latch ∘ b.latch
  resetting := b.resetting ∘ a.resetting
  engine := by
    obtain ⟨ac, ap⟩ | gone := a.engine
    · obtain ⟨bc, bp⟩ | gone := b.engine
      · refine .inl ⟨bc.trans ac, ?_⟩
        obtain bp | bp := bp
        · rwa [bp]
        · exact .inr bp
      · exact .inr fun c hc => gone c (ac ▸ hc)
    · exact .inr fun c hc => b.inactive (gone c hc)

/-- What goes before a start leaves it the queue's head as it found it. -/
theorem State.follows.duly (a : s.follows t) (b : t.startsDuly u) : s.startsDuly u := by
  intro n h0 h1
  have started := b n (a.inactive h0) h1
  obtain ⟨h, w, held, active, check⟩ := started.slot
  have same : t.slotTable.slot n = s.slotTable.slot n := by
    obtain hs | ⟨_, hs⟩ := a.slots n
    · exact hs
    · rw [held] at hs; cases hs
  refine ⟨started.station, a.latch started.latch, started.resetting, a.queue ▸ started.head,
    ⟨h, w, same ▸ held, active, check⟩, ?_, started.phase, started.left⟩
  have others (c : Check) (hc : c.slot ≠ n) (ht : (t.slotTable.slot c.slot).isActive = false) :
      (u.slotTable.slot c.slot).isActive = false := Bool.eq_false_iff.mpr fun hu => by
    obtain ⟨_, _, _, _, other⟩ := (b c.slot ht hu).slot
    rw [check] at other
    exact hc (congrArg Check.slot (Option.some.inj other)).symm
  obtain ⟨ac, ap⟩ | gone := a.engine
  · obtain idle | ended := started.ended
    · obtain ap | ap := ap
      · exact .inl (ap ▸ idle)
      · rw [ap] at idle; cases idle
    · exact .inr fun c hc => ended c (ac ▸ hc)
  · exact .inr fun c hc hn => others c hn (gone c hc)

/-- What goes after a start leaves the check to its engine, or ends it. -/
theorem State.startsDuly.follows (a : s.startsDuly t) (b : t.follows u) : s.startsDuly u := by
  intro n h0 h1
  have started := a n h0 (b.startsNone n h1)
  obtain ⟨h, w, held, active, check⟩ := started.slot
  have same : u.slotTable.slot n = t.slotTable.slot n := by
    obtain hs | ⟨hs, _⟩ := b.slots n
    · exact hs
    · rw [hs] at h1; cases h1
  obtain ⟨bc, bp⟩ | gone := b.engine
  · refine ⟨b.station.trans started.station, started.latch, b.resetting started.resetting, started.head,
      ⟨h, w, held, same ▸ active, bc.trans check⟩, ?_, ?_, b.queue ▸ started.left⟩
    · exact started.ended.imp_right fun ended c hc hn => b.inactive (ended c hc hn)
    · obtain bp | bp := bp
      · rw [bp]; exact started.phase
      · exact .inr bp
  · have ended := gone _ check
    rw [h1] at ended; cases ended

/-! ### The start (R75, R125) -/

theorem State.enterAbort_check (s : State) (cause : Option Cause) (noResult : Bool) :
    (s.enterAbort cause noResult).engine.check = s.engine.check :=
  (s.engine.leaveClaiming_parts s.time).2

theorem State.quietContactor_check (s : State) : s.quietContactor.engine.check = s.engine.check := by
  unfold State.quietContactor
  split
  · rfl
  · split
    · exact State.enterAbort_check s s.guardUnit.latch false
    · simp

theorem State.handOver_check (s : State) (n : Fin 8) (h : SlotHead) (w : Work) :
    (s.handOver n h w).engine.check =
      some { slot := n, priority := h.priority, params := w.params, need := w.need } := by
  unfold State.handOver State.enterQuiet
  dsimp only
  split
  · simp
  · rw [State.quietContactor_check]; simp

theorem State.mayStart_iff (s : State) : s.mayStart = true ↔
    s.engine.phase = .idle ∧ s.station = .onLine ∧ s.guardUnit.latch = none ∧ s.guardUnit.resetting = none := by
  simp [State.mayStart, and_assoc]

theorem not_mem_dequeueSlot (n : Fin 8) (queue : List (Fin 8)) : n ∉ dequeueSlot n queue := by
  simp [dequeueSlot]

/-- The examination of the start conditions starts the head, or nothing. -/
theorem State.examineStart_startsDuly (s : State) : s.startsDuly s.examineStart := by
  unfold State.examineStart
  split
  case h_1 => exact (State.startsNone.of_slots rfl).duly
  case h_2 m h w found =>
    intro n h0 h1
    obtain ⟨may, head, held⟩ := State.startable_held found
    obtain ⟨idle, station, latch, resetting⟩ := s.mayStart_iff.mp may
    simp only [State.handOver_frame] at h1
    obtain rfl : m = n := by
      by_contra hne
      have kept := SlotTable.slot_put_ne (t := s.slotTable) (.active h w) hne
      exact absurd (h1.symm.trans ((congrArg Slot.isActive kept).trans h0)) (by decide)
    refine ⟨by simpa using station, latch, by simpa using resetting, head, ⟨h, w, held, ?_, State.handOver_check _ _ _ _⟩,
      .inl idle, State.handOver_phase _ _ _ _, ?_⟩
    · simp only [State.handOver_frame]
      exact SlotTable.slot_put_self s.slotTable m _
    · simp only [State.handOver_frame]
      exact not_mem_dequeueSlot _ _

/-! ### What a start goes with -/

theorem State.withdrawNeed_follows (s : State) : s.follows s.withdrawNeed := by
  apply State.follows.same <;> simp

theorem State.requestOpen_follows (s : State) : s.follows s.requestOpen := by
  apply State.follows.same <;> simp

/-- A change of the engine's record that leaves its check and its phase. -/
theorem State.follows.setEngine (s : State) (e : Engine) (hc : e.check = s.engine.check)
    (hp : e.phase = s.engine.phase) : s.follows (s.setEngine e) := .same rfl rfl rfl rfl hc hp

theorem State.follows.setGuardUnit (s : State) (g : GuardUnit) (hl : g.latch = none → s.guardUnit.latch = none)
    (hr : g.resetting = s.guardUnit.resetting) : s.follows (s.setGuardUnit g) where
  slots _ := .inl rfl
  queue := rfl
  station := rfl
  latch := hl
  resetting := hr.trans
  engine := .inl ⟨rfl, .inl rfl⟩

theorem State.leaveClaiming_follows (s : State) : s.follows (s.setEngine (s.engine.leaveClaiming s.time)) := by
  refine .setEngine _ _ (s.engine.leaveClaiming_parts s.time).2 ?_
  unfold Engine.leaveClaiming
  split <;> rfl

theorem State.dropCarry_follows (s : State) : s.follows s.dropCarry := by
  unfold State.dropCarry
  split
  · exact (State.follows.setEngine s { s.engine with carry := false } rfl rfl).trans (State.withdrawNeed_follows _)
  · exact .refl s

theorem State.completeReset_resetting (s : State) : s.completeReset.guardUnit.resetting = none := by
  unfold State.completeReset
  split
  case h_1 h => exact h
  case h_2 => dsimp only; split <;> simp

theorem State.completeReset_follows (s : State) : s.follows s.completeReset where
  slots _ := .inl (by simp)
  queue := by simp
  station := by simp
  latch := by simp
  resetting _ := s.completeReset_resetting
  engine := .inl (by simp)

theorem State.enterAbort_follows (s : State) (cause : Option Cause) (noResult : Bool) :
    s.follows (s.enterAbort cause noResult) where
  slots _ := .inl (by simp)
  queue := by simp
  station := by simp
  latch := by simp
  resetting := by simp
  engine := .inl ⟨s.enterAbort_check cause noResult, .inr rfl⟩

theorem State.closeWasRefused_follows (s : State) : s.follows s.closeWasRefused :=
  (s.enterAbort_follows s.guardUnit.latch false).trans
    (.setEngine _ { (s.enterAbort s.guardUnit.latch false).engine with selfCause := s.guardUnit.latch } rfl rfl)

theorem State.quietContactor_follows (s : State) : s.follows s.quietContactor where
  slots _ := .inl (by simp)
  queue := by simp
  station := by simp
  latch := by simp
  resetting := by simp
  engine := .inl ⟨s.quietContactor_check, s.quietContactor_phase⟩

/-! ### The end of a check (R76, R137, R140) -/

/-- A slot put to a state that is neither ACTIVE nor HELD. -/
theorem State.putSlot_follows (s : State) (n : Fin 8) {x : Slot} (ha : x.isActive = false) (hh : x.isHeld = false) :
    s.follows (s.putSlot n x) where
  slots m := by
    by_cases h : n = m
    · subst h
      have put : (s.putSlot n x).slotTable.slot n = x := SlotTable.slot_put_self _ _ _
      exact .inr (by rw [put]; exact ⟨ha, hh⟩)
    · exact .inl (SlotTable.slot_put_ne x h)
  queue := rfl
  station := rfl
  latch := id
  resetting := id
  engine := .inl ⟨rfl, .inl rfl⟩

theorem State.offerReplies_follows (s : State) (block : Block) (group : List Frame) :
    s.follows (s.offerReplies block group) := by
  apply State.follows.same <;> simp

/-- The hand-back of a result makes a slot DONE at most, and leaves the check's slot not ACTIVE (R76). -/
theorem State.handBack_follows (s : State) (r : ResultRecord) :
    s.follows (s.handBack r) ∧ s.checkOver (s.handBack r) := by
  unfold State.handBack State.checkOver
  cases hc : s.engine.check with
  | none => exact ⟨.refl s, nofun⟩
  | some c =>
    suffices h : s.follows (s.slotDone c.slot r) ∧ ((s.slotDone c.slot r).slotTable.slot c.slot).isActive = false from
      ⟨h.1, fun c' h' => by cases h'; exact h.2⟩
    unfold State.slotDone
    split
    case h_1 h w _ =>
      refine ⟨(s.putSlot_follows c.slot rfl rfl).trans (State.offerReplies_follows _ _ _), ?_⟩
      have put : (s.putSlot c.slot (.done h w r none)).slotTable.slot c.slot = .done h w r none :=
        SlotTable.slot_put_self _ _ _
      simp only [State.offerReplies_frame, put]
      rfl
    case h_2 hn =>
      refine ⟨.refl s, ?_⟩
      cases h : s.slotTable.slot c.slot with
      | active head work => exact absurd h (hn head work)
      | _ => rfl

/-- An abort without a result vacates the check's slot (R140). -/
theorem State.vacateActive_follows (s : State) : s.follows s.vacateActive ∧ s.checkOver s.vacateActive := by
  unfold State.vacateActive State.checkOver
  cases hc : s.engine.check with
  | none => exact ⟨.refl s, nofun⟩
  | some c =>
    dsimp only
    split
    case isTrue h =>
      refine ⟨s.putSlot_follows c.slot rfl rfl, fun c' h' => ?_⟩
      cases h'
      have put : (s.putSlot c.slot .vacant).slotTable.slot c.slot = .vacant := SlotTable.slot_put_self _ _ _
      rw [put]; rfl
    case isFalse h =>
      exact ⟨.refl s, fun c' h' => by cases h'; exact Bool.eq_false_iff.mpr h⟩

/-- The idle report starts the queue's head, or nothing (R75, R137). -/
theorem State.reportIdle_startsDuly (s : State) : s.startsDuly s.reportIdle := by
  refine s.completeReset_follows.duly ?_
  unfold State.reportIdle
  dsimp only
  split
  · exact State.examineStart_startsDuly _
  · exact (State.dropCarry_follows _).startsNone.duly

theorem State.reportIdle_follows (h : s.guardUnit.latch.isSome = true) : s.follows s.reportIdle := by
  refine s.completeReset_follows.trans ?_
  unfold State.reportIdle
  dsimp only
  rw [State.startable_of_latched (by simpa using h)]
  exact State.dropCarry_follows _

/-- The record returned to its reset values, once the check's slot is no longer ACTIVE. -/
theorem State.engineReset_follows (carry : Bool) (h : s.checkOver s) :
    s.follows ((s.setEngine { Engine.reset with carry := carry }).setPort { s.port with ceiling := 0 }) where
  slots _ := .inl rfl
  queue := rfl
  station := rfl
  latch := id
  resetting := id
  engine := .inr h

theorem State.finishCheck_startsDuly (carry : Bool) (h : s.checkOver s) : s.startsDuly (s.finishCheck carry) :=
  (State.engineReset_follows carry h).duly (State.reportIdle_startsDuly _)

theorem State.finishCheck_follows (carry : Bool) (h : s.checkOver s) (hl : s.guardUnit.latch.isSome = true) :
    s.follows (s.finishCheck carry) :=
  (State.engineReset_follows carry h).trans (State.reportIdle_follows hl)

/-- RELEASE hands its result back, so that the check's slot is no longer ACTIVE when the next may start (R137). -/
theorem State.release_startsDuly (s : State) : s.startsDuly s.release := by
  unfold State.release
  dsimp only
  generalize hr : (s.setEngine (s.engine.leaveClaiming s.time)).engine.resultRecord _ = r
  generalize hk : (s.setEngine (s.engine.leaveClaiming s.time)).keepsNeed = keeps
  generalize hu : (if keeps then s.setEngine (s.engine.leaveClaiming s.time)
    else (s.setEngine (s.engine.leaveClaiming s.time)).withdrawNeed) = u
  have before : s.follows u := by
    rw [← hu]
    split
    · exact s.leaveClaiming_follows
    · exact s.leaveClaiming_follows.trans (State.withdrawNeed_follows _)
  obtain ⟨back, gone⟩ := u.handBack_follows r
  refine (before.trans back).duly (State.finishCheck_startsDuly _ ?_)
  simpa [State.checkOver] using gone

theorem State.notRun_startsDuly (s : State) (cause : Cause) : s.startsDuly (s.notRun cause) :=
  (State.follows.setEngine s { s.engine with
    verdict := some { verdict := .notRun, measured := 0 }, cause := some cause } rfl rfl).duly
    (State.release_startsDuly _)

/-! ### Aborts (R138 to R143) -/

/-- The end of an abort ends the check, whose slot is then no longer ACTIVE, by a start of nothing so far. -/
theorem State.finishAbort_before (s : State) (mismatched : Bool) :
    ∃ u, s.follows u ∧ u.checkOver u ∧ s.finishAbort mismatched = u.finishCheck false := by
  unfold State.finishAbort
  dsimp only
  generalize hu : (if s.engine.abortOpens mismatched then s.requestOpen else s) = u
  have before : s.follows u.withdrawNeed := by
    refine State.follows.trans ?_ (State.withdrawNeed_follows _)
    rw [← hu]
    split
    · exact s.requestOpen_follows
    · exact .refl s
  refine ⟨_, ?_, ?_, rfl⟩
  · split
    · exact before.trans (State.vacateActive_follows _).1
    · exact before.trans (State.handBack_follows _ _).1
  · split
    · simpa [State.checkOver] using u.withdrawNeed.vacateActive_follows.2
    · simpa [State.checkOver] using (u.withdrawNeed.handBack_follows _).2

theorem State.finishAbort_startsDuly (s : State) (mismatched : Bool) : s.startsDuly (s.finishAbort mismatched) := by
  obtain ⟨u, before, gone, ends⟩ := s.finishAbort_before mismatched
  rw [ends]
  exact before.duly (State.finishCheck_startsDuly _ gone)

theorem State.follows.latched (h : s.follows t) (hs : s.guardUnit.latch.isSome = true) :
    t.guardUnit.latch.isSome = true := by
  cases ht : t.guardUnit.latch with
  | none => rw [h.latch ht] at hs; cases hs
  | some _ => rfl

/-- With a fault latched the end of an abort starts nothing. -/
theorem State.finishAbort_follows (mismatched : Bool) (hl : s.guardUnit.latch.isSome = true) :
    s.follows (s.finishAbort mismatched) := by
  obtain ⟨u, before, gone, ends⟩ := s.finishAbort_before mismatched
  rw [ends]
  exact before.trans (State.finishCheck_follows _ gone (before.latched hl))

section

variable (s : State) (cause : Cause)

/-- The way from `s` to `t` may free the engine: it starts what R75 lets start, and nothing while a fault is latched. -/
def State.mayFree (s t : State) : Prop := s.startsDuly t ∧ (s.guardUnit.latch.isSome = true → s.follows t)

theorem State.follows.mayFree {s t : State} (h : s.follows t) : s.mayFree t := ⟨h.startsNone.duly, fun _ => h⟩

theorem State.follows.thenFree {s t u : State} (a : s.follows t) (b : t.mayFree u) : s.mayFree u :=
  ⟨a.duly b.1, fun hl => a.trans (b.2 (a.latched hl))⟩

theorem State.finishAbort_mayFree (mismatched : Bool) : s.mayFree (s.finishAbort mismatched) :=
  ⟨s.finishAbort_startsDuly mismatched, State.finishAbort_follows mismatched⟩

theorem State.beginAbort_mayFree (cause : Option Cause) (noResult : Bool) :
    s.mayFree (s.beginAbort cause noResult) := by
  refine (s.enterAbort_follows cause noResult).thenFree ?_
  unfold State.beginAbort
  dsimp only
  split
  · exact State.finishAbort_mayFree _ _
  · exact (State.follows.refl _).mayFree

theorem State.secondCause_mayFree : s.mayFree (s.secondCause cause) := by
  unfold State.secondCause
  dsimp only
  split
  · exact (State.follows.setEngine s { s.engine with noResult := true } rfl rfl).mayFree
  · split
    · exact (State.follows.setEngine s { s.engine with selfCause := none } rfl rfl).mayFree
    · split
      · refine (State.follows.setEngine s { s.engine with
          furtherFault := true, mustOpen := s.engine.mustOpen || cause.opens } rfl rfl).thenFree ?_
        split
        · exact State.finishAbort_mayFree _ _
        · exact (State.follows.refl _).mayFree
      · exact (State.follows.refl s).mayFree

/-- An order to abort frees the engine at once with LOAD_STAGE_SILENT alone, and then lets the queue's head start
(R138, R139). -/
theorem State.orderAbort_mayFree : s.mayFree (s.orderAbort cause) := by
  have stays : s.mayFree s := (State.follows.refl s).mayFree
  unfold State.orderAbort
  split
  · split
    · exact s.dropCarry_follows.mayFree
    · exact stays
  · exact s.beginAbort_mayFree _ _
  · exact s.beginAbort_mayFree _ _
  · exact s.beginAbort_mayFree _ _
  · exact s.beginAbort_mayFree _ _
  · exact s.beginAbort_mayFree _ _
  · exact s.beginAbort_mayFree _ _
  · exact s.beginAbort_mayFree _ _
  · split
    · exact stays
    · exact s.beginAbort_mayFree _ _
  · split
    · exact stays
    · exact s.beginAbort_mayFree _ _
  · exact stays
  · exact s.secondCause_mayFree cause

/-- A fault latched stops every start (R183). -/
theorem State.latchFault_follows : s.follows (s.latchFault cause) := by
  unfold State.latchFault
  cases hl : s.guardUnit.latch with
  | none =>
    have latched : s.follows (s.setGuardUnit { s.guardUnit with latch := some cause, further := 0 }).setHold := by
      refine (State.follows.setGuardUnit s { s.guardUnit with latch := some cause, further := 0 } nofun rfl).trans ?_
      apply State.follows.same <;> simp
    exact latched.trans ((State.orderAbort_mayFree _ cause).2 (by simp))
  | some first =>
    have counted := State.follows.setGuardUnit s
      { s.guardUnit with further := countUp s.guardUnit.further 1 } id rfl
    exact counted.trans ((State.orderAbort_mayFree _ cause).2 (by simp [hl]))

theorem State.latchFaults_follows (causes : List Cause) : s.follows (causes.foldl State.latchFault s) := by
  induction causes generalizing s with
  | nil => exact .refl s
  | cons cause rest ih => exact (s.latchFault_follows cause).trans (ih _)

/-- BAY_RESET's report to the engine (R142). -/
theorem State.resetEngine_startsDuly : s.startsDuly s.resetEngine := by
  unfold State.resetEngine
  split
  · exact s.dropCarry_follows.duly (State.reportIdle_startsDuly _)
  · exact (State.follows.setEngine s { s.engine with noResult := true } rfl rfl).startsNone.duly
  all_goals exact (s.beginAbort_mayFree none true).1

end

/-! ### Sample sets, answers and shed events -/

theorem State.engineShed_startsNone (s : State) : s.startsNone s.engineShed := by
  by_cases loads : s.engine.phase.loads = true
  · by_cases again : s.engine.restarts < 2
    · rw [State.engineShed_freezes loads again]
      exact .of_slots (by simp)
    · rw [State.engineShed_aborts loads (Nat.not_lt.mp again)]
      exact .of_slots (by simp)
  · by_cases frozen : s.engine.phase = .frozen
    · rw [State.engineShed_frozen frozen]
      exact .of_slots rfl
    · rw [State.engineShed_unheeded (Bool.eq_false_iff.mpr loads) frozen]
      exact .of_slots rfl

theorem State.guardSet_follows (s : State) (x : SampleSet) : s.follows (s.guardSet x) := by
  unfold State.guardSet
  split
  · exact .refl s
  · split
    · refine State.follows.trans ?_ (State.latchFaults_follows _ _)
      exact .setGuardUnit s _ id rfl
    · exact .refl s

theorem State.soakSet_startsDuly (s : State) (c : Check) (p : DerateParams) (x : SampleSet) :
    s.startsDuly (s.soakSet c p x) := by
  unfold State.soakSet
  dsimp only
  split
  · exact s.requestOpen_follows.duly (State.notRun_startsDuly _ _)
  · split <;> exact (State.startsNone.of_slots (by simp)).duly

theorem State.engineSet_startsDuly (s : State) (x : SampleSet) : s.startsDuly (s.engineSet x) := by
  unfold State.engineSet
  split
  · exact (State.follows.refl s).startsNone.duly
  · refine (State.follows.setEngine s (s.engine.takeIn x) rfl rfl).duly ?_
    dsimp only
    split
    case h_2 => exact State.soakSet_startsDuly _ _ _ _
    case h_3 => exact State.soakSet_startsDuly _ _ _ _
    case h_9 =>
      split
      · exact State.release_startsDuly _
      · exact (State.follows.refl _).startsNone.duly
    all_goals exact (State.startsNone.of_slots (by simp)).duly

theorem State.offerSet_startsDuly (s : State) (x : SampleSet) (order : SetOrder) : s.startsDuly (s.offerSet x order) := by
  have told (u : State) : u.follows (u.headroomSet x) := by apply State.follows.same <;> simp
  unfold State.offerSet
  split
  · exact ((s.guardSet_follows x).duly (State.engineSet_startsDuly _ _)).follows (told _)
  · exact ((s.engineSet_startsDuly x).follows (State.guardSet_follows _ _)).follows (told _)

theorem State.newestAcknowledged_startsDuly (s : State) (c : Check) : s.startsDuly (s.newestAcknowledged c) := by
  unfold State.newestAcknowledged
  dsimp only
  split
  case h_4 =>
    split
    · exact (State.startsNone.of_slots (by simp)).duly
    · exact (State.follows.setEngine s { s.engine with awaiting := false } rfl rfl).duly (State.release_startsDuly _)
  all_goals exact (State.startsNone.of_slots (by simp)).duly

theorem State.setpointAcknowledged_startsDuly (s : State) (c : Check) : s.startsDuly (s.setpointAcknowledged c) := by
  unfold State.setpointAcknowledged
  split
  · exact s.newestAcknowledged_startsDuly c
  · split <;> exact (State.startsNone.of_slots (by simp)).duly

theorem State.dropAcknowledged_startsDuly (s : State) : s.startsDuly s.dropAcknowledged := by
  unfold State.dropAcknowledged
  split
  · split
    · refine s.quietContactor_follows.duly ?_
      dsimp only
      split
      · exact State.finishAbort_startsDuly _ _
      · exact (State.follows.refl _).startsNone.duly
    · exact (State.follows.refl _).startsNone.duly
  · exact State.finishAbort_startsDuly _ _
  · exact (State.follows.refl _).startsNone.duly

theorem State.answerMatches_startsDuly (s : State) (sp : Setpoint) : s.startsDuly (s.answerMatches sp) := by
  have told (u : State) : u.follows u.portReport := by apply State.follows.same <;> simp
  have applied : s.follows (s.setPort { s.port with applied := sp.value }) := .same rfl rfl rfl rfl rfl rfl
  refine (applied.duly ?_).follows (told _)
  unfold State.engineAcknowledged
  split
  · exact State.dropAcknowledged_startsDuly _
  · split
    · exact (State.follows.refl _).startsNone.duly
    · exact State.setpointAcknowledged_startsDuly _ _

theorem State.answerDiffers_startsDuly (s : State) (sp : Setpoint) : s.startsDuly (s.answerDiffers sp) := by
  refine (s.latchFault_follows .loadStageMismatch).duly ?_
  unfold State.answerDiffers
  dsimp only
  split
  · exact State.finishAbort_startsDuly _ _
  · exact (State.follows.refl _).startsNone.duly

end Sys2Proof.Machine
end

section
/-!
PROOF. When a slot becomes ACTIVE: what each command starts, and the start itself (R75, R125).
-/
namespace Sys2Proof.Machine

variable {s t u : State}

/-! ### Slot tables in which nothing has become ACTIVE -/

theorem State.startsNone.putSlot (s : State) (n : Fin 8) {x : Slot} (h : x.isActive = false) :
    s.startsNone (s.putSlot n x) := fun m hm => by
  by_cases hn : n = m
  · subst hn
    have put : (s.putSlot n x).slotTable.slot n = x := SlotTable.slot_put_self _ _ _
    rw [put, h] at hm; cases hm
  · have kept : (s.putSlot n x).slotTable.slot m = s.slotTable.slot m := SlotTable.slot_put_ne x hn
    rwa [kept] at hm

theorem State.startsNone.vacate (s : State) (n : Fin 8) : s.startsNone (s.vacate n) :=
  State.startsNone.putSlot s n (x := .vacant) rfl

/-- A table whose slots are changed one by one, none of them to ACTIVE. -/
theorem State.startsNone.map {f : Slot → Slot} (hf : ∀ x, (f x).isActive = true → x.isActive = true)
    (ht : t.slotTable.slots = s.slotTable.slots.map f) : s.startsNone t := fun n hn => by
  have mapped : t.slotTable.slot n = f (s.slotTable.slot n) := by
    simp only [SlotTable.slot, ht, Fin.getElem_fin, Vector.getElem_map]
  exact hf _ (mapped ▸ hn)

theorem State.releaseLocks_startsNone (s : State) (hits : Nat → Bool) : s.startsNone (s.releaseLocks hits) := by
  refine .map (fun x hx => ?_) rfl
  unfold Slot.release at hx
  split at hx
  · split at hx <;> cases hx
  · exact hx

/-- From an empty queue nothing starts (R75). -/
theorem State.startsDuly.of_empty (h : s.startsDuly t) (hq : s.slotTable.queue = []) : s.startsNone t := fun n hn => by
  by_contra h0
  have head := (h n (Bool.eq_false_iff.mpr h0) hn).head
  rw [hq] at head
  cases head

theorem State.startsNone.refl (s : State) : s.startsNone s := .of_slots rfl

theorem State.startsNone.setLine {l : Line} (h : (s.setLine l).startsNone t) : s.startsNone t := h

theorem State.silence_startsNone (s : State) : s.startsNone s.silence := by
  cases hb : s.station.builds
  · rw [s.silence_apart hb]
    exact .of_slots rfl
  · obtain ⟨e, p, whole, _⟩ := State.silence_builds hb
    refine .map (f := fun x => if x.isActive then x else .vacant) (fun x hx => ?_) (by rw [whole]; simp; rfl)
    split at hx
    · assumption
    · cases hx

theorem State.reportFailed_startsNone (s : State) (e : Entry) : s.startsNone (s.reportFailed e) := by
  unfold State.reportFailed
  split
  · exact s.releaseLocks_startsNone _
  · exact .refl s

theorem State.reportCompleted_startsNone (s : State) (e : Entry) (order : Word) :
    s.startsNone (s.reportCompleted e order) := by
  unfold State.reportCompleted
  dsimp only
  split
  · exact .of_slots (by simp)
  · split
    · rw [State.ownShed_eq]
      exact State.engineShed_startsNone (s.setHeadroom _)
    · exact s.releaseLocks_startsNone _

/-! ### Requests -/

theorem State.takeOpen_startsNone (s : State) (h : Heard) : s.startsNone (s.takeOpen h) := by
  have refused (r : Reason) : s.startsNone (s.refuse .slotTable h.frame r detailRequest) := .of_slots (by simp)
  unfold State.takeOpen
  split
  · exact refused _
  · split
    · exact refused _
    · split
      · exact State.startsNone.putSlot s _ rfl
      · exact refused _
      · exact refused _

theorem State.replySlot_startsNone (s : State) (target : Address) (n : Fin 8) :
    s.startsNone (s.replySlot target n) := .of_slots (by simp)

theorem State.takeClear_startsNone (s : State) (f : Frame) : s.startsNone (s.takeClear f) := by
  have refused (r : Reason) : s.startsNone (s.refuse .slotTable f r detailRequest) := .of_slots (by simp)
  unfold State.takeClear
  split
  · exact refused _
  · split
    · exact refused _
    · split
      case h_6 => exact (State.startsNone.vacate s _).trans (State.replySlot_startsNone _ _ _)
      all_goals exact refused _

theorem State.takeFetch_startsNone (s : State) (f : Frame) : s.startsNone (s.takeFetch f) := by
  have refused (r : Reason) : s.startsNone (s.refuse .slotTable f r detailRequest) := .of_slots (by simp)
  unfold State.takeFetch
  split
  · exact refused _
  · split
    · exact refused _
    · split
      case h_5 => exact refused _
      case h_6 =>
        unfold State.fetchResult
        dsimp only
        split
        · exact State.startsNone.trans (.of_slots (by simp)) (State.startsNone.putSlot _ _ rfl)
        · exact .of_slots (by simp)
      all_goals exact .of_slots (by simp)

/-- The CANCEL for all slots empties the queue first, so its order to the engine starts nothing (R79). -/
theorem State.cancelAll_startsNone (s : State) : s.startsNone s.cancelAll := by
  let vacated := s.setSlotTable
    { s.slotTable with slots := s.slotTable.slots.map (fun x => if x.isHeld then .vacant else x), queue := [] }
  have emptied : s.startsNone vacated := by
    refine .map (f := fun x => if x.isHeld then .vacant else x) (fun x hx => ?_) rfl
    split at hx
    · cases hx
    · exact hx
  refine emptied.trans ?_
  unfold State.cancelAll
  dsimp only
  split
  · exact (vacated.orderAbort_mayFree .cancelled).1.of_empty rfl
  · exact .refl vacated

theorem State.takeCancel_startsDuly (s : State) (f : Frame) : s.startsDuly (s.takeCancel f) := by
  have refused (r : Reason) : s.startsDuly (s.refuse .slotTable f r detailRequest) :=
    (State.startsNone.of_slots (by simp)).duly
  have answered (u : State) (n : Fin 8) : u.follows (u.answerSlot f n) := by
    unfold State.answerSlot
    split
    · exact .refl u
    · apply State.follows.same <;> simp
  have vacated (n : Fin 8) : s.startsDuly ((s.vacate n).answerSlot f n) :=
    ((State.startsNone.vacate s n).trans (answered _ n).startsNone).duly
  unfold State.takeCancel
  split
  · exact refused _
  · split
    case h_1 n _ =>
      unfold State.cancelSlot
      split
      · exact refused _
      · exact refused _
      · split
        · exact vacated n
        · exact refused _
      · exact vacated n
      · exact (s.orderAbort_mayFree .cancelled).1.follows (answered _ n)
    case h_2 =>
      split
      · exact s.cancelAll_startsNone.duly
      · exact refused _

/-- BAY_RESET empties the queue first, so its report to the engine starts nothing (R84, R185). -/
theorem State.takeBayReset_startsNone (s : State) (f : Frame) : s.startsNone (s.takeBayReset f) := by
  unfold State.takeBayReset
  split
  · exact .of_slots (by simp)
  · refine State.startsNone.trans (fun n hn => ?_) ((State.resetEngine_startsDuly _).of_empty rfl)
    have vacant : ((s.markReset f).slotTable.vacateAll).slot n = .vacant := by
      simp only [SlotTable.vacateAll, SlotTable.slot, Fin.getElem_fin, Vector.getElem_replicate]
    exact absurd ((congrArg Slot.isActive vacant).symm.trans hn) (by decide)

/-! ### The commands -/

theorem handedOn_startsDuly {c : Instr} {cls kind : Nat} {take : Heard → State → State}
    (hc : takesFrame c = some (cls, kind, take)) (ht : exec c s = .next t)
    (hk : ∀ h (u : State), u.startsDuly (take h u)) : s.startsDuly t := by
  obtain rfl | ⟨h, u, hh, rfl⟩ := exec_takesFrame hc ht
  · exact (State.startsNone.refl _).duly
  · obtain ⟨rest, _, rfl⟩ := State.handOn_taking hh
    have handed : s.follows (s.taking rest) := by apply State.follows.same <;> simp
    exact handed.duly (hk h _)

/-- A command that leaves the slots alone. -/
theorem State.startsDuly.of_slots (h : t.slotTable = s.slotTable) : s.startsDuly t := (State.startsNone.of_slots h).duly

theorem State.startsDuly.refl (s : State) : s.startsDuly s := .of_slots rfl

theorem execPowerReset_startsNone {straps : Address} (ht : execPowerReset straps s = .next t) : s.startsNone t := by
  have vacant : s.startsNone (s.strapped straps) := fun n hn => by
    have same : (s.strapped straps).slotTable = State.reset.slotTable := by
      unfold State.strapped State.takeStraps
      split <;> rfl
    rw [same, reset_slot] at hn
    cases hn
  refine vacant.trans ?_
  cases ht
  split
  · exact (State.latchFault_follows _ _).startsNone
  · exact .refl _

/-- Only slots, latch and engine of the state before count. -/
theorem State.startsDuly.of_same {s s' t : State} (h : s'.startsDuly t) (hs : s'.slotTable = s.slotTable)
    (hg : s'.guardUnit = s.guardUnit) (he : s'.engine = s.engine) : s.startsDuly t := by
  intro n h0 h1
  obtain ⟨station, latch, resetting, head, slot, ended, phase, left⟩ := h n (hs ▸ h0) h1
  rw [hs] at head slot
  rw [hg] at latch
  rw [he] at ended
  exact ⟨station, latch, resetting, head, slot, ended, phase, left⟩

theorem execConfig_startsDuly (record : List Byte) (h : t = s ∨ t = s.degrade .configUnreadable ∨
    t = s.degrade .configBad ∨ t = s.takeConfig record) : s.startsDuly t := by
  obtain rfl | rfl | rfl | rfl := h <;> exact .of_slots rfl

theorem execJoinTimerExpiry_startsDuly (ht : execJoinTimerExpiry s = .next t) : s.startsDuly t := by
  obtain rfl | ⟨_, rfl⟩ := execJoinTimerExpiry_cases ht
  · exact .refl _
  · exact s.joined.examineStart_startsDuly.of_same rfl rfl rfl

theorem execFrameSent_startsDuly (ht : execFrameSent s = .next t) : s.startsDuly t := by
  obtain ⟨_, rfl⟩ | ⟨_, e, _, rfl⟩ := execFrameSent_cases ht
  · exact .refl _
  · exact (State.startsNone.setLine (State.reportCompleted_startsNone _ _ _)).duly

theorem execSendCollision_startsDuly (ht : execSendCollision s = .next t) : s.startsDuly t := by
  cases ht
  split
  · exact .refl s
  · dsimp only
    split
    · exact (State.startsNone.setLine (State.silence_startsNone _)).duly
    · exact (State.startsNone.setLine (State.reportFailed_startsNone _ _)).duly

theorem execArbitrationLost_startsDuly (ht : execArbitrationLost s = .next t) : s.startsDuly t := by
  cases ht
  split
  · exact .refl s
  · exact (State.startsNone.setLine (State.reportFailed_startsNone _ _)).duly

theorem execFrameReceived_startsDuly {stamp : Word} {bits : List Bool} (ht : execFrameReceived stamp bits s = .next t) :
    s.startsDuly t := by
  obtain ⟨rfl, _⟩ | ⟨start, f, _, _, rfl⟩ := execFrameReceived_cases ht
  · exact .refl _
  · unfold State.hearFrame State.siloFrame
    dsimp only
    split
    · split
      · exact .of_slots rfl
      · exact .of_slots (by simp)
    · exact .of_slots rfl
    · exact .of_slots rfl

theorem execAssemblyDeadlineExpiry_startsDuly {n : Fin 8} (ht : execAssemblyDeadlineExpiry n s = .next t) :
    s.startsDuly t := by
  cases ht
  split
  case h_1 =>
    split
    · exact ((State.startsNone.vacate s n).trans (State.offerReplies_follows _ _ _).startsNone).duly
    · exact .refl s
  all_goals exact .refl s

theorem execContestDecision_startsDuly (ht : execContestDecision s = .next t) : s.startsDuly t := by
  cases ht
  split
  · split
    · split
      · exact .of_slots (by simp [State.grantContest])
      · exact .of_slots (by simp [State.yieldContest])
    · exact .refl s
  · exact .refl s

theorem execSampleSetArrival_startsDuly {r : ReportedSet} {o : SetOrder} (ht : execSampleSetArrival r o s = .next t) :
    s.startsDuly t := by
  have taken : s.follows (s.takeSet r.taken) := by apply State.follows.same <;> simp
  have told (u : State) : u.follows u.portReport := by apply State.follows.same <;> simp
  cases ht
  split
  · dsimp only
    split
    · exact (taken.trans (told _)).duly (State.offerSet_startsDuly _ _ _)
    · exact taken.duly (State.offerSet_startsDuly _ _ _)
  · exact .refl s

/-- A fault latched after a change of the port. -/
theorem State.setPort_latchFault_startsDuly (s : State) (p : Port) (cause : Cause) :
    s.startsDuly ((s.setPort p).latchFault cause) :=
  ((State.follows.same rfl rfl rfl rfl rfl rfl : s.follows (s.setPort p)).trans
    (State.latchFault_follows _ cause)).startsNone.duly

theorem execSetpointAcknowledgement_startsDuly {v : Nat} (ht : execSetpointAcknowledgement v s = .next t) :
    s.startsDuly t := by
  have answered : s.follows (s.setPort { s.port with onPort := none, ackTimer := none }) :=
    .same rfl rfl rfl rfl rfl rfl
  cases ht
  split
  · exact (s.latchFault_follows _).startsNone.duly
  · dsimp only
    split
    · exact answered.duly (State.answerMatches_startsDuly _ _)
    · exact answered.duly (State.answerDiffers_startsDuly _ _)

/-- A timer of QUIET that ends the check NOT_RUN, the contactor requested open (R126, R127). -/
theorem State.openNotRun_startsDuly (s : State) (e : Engine) (cause : Cause) (hc : e.check = s.engine.check)
    (hp : e.phase = s.engine.phase) : s.startsDuly ((s.setEngine e).requestOpen.notRun cause) :=
  ((State.follows.setEngine s e hc hp).trans (State.requestOpen_follows _)).duly (State.notRun_startsDuly _ _)

theorem execTimeOutTimerExpiry_startsDuly (ht : execTimeOutTimerExpiry s = .next t) : s.startsDuly t := by
  cases ht
  split
  · dsimp only
    split
    · exact .of_slots (by simp)
    · exact .of_slots rfl
  · exact .refl s

theorem execOffTimeTimerExpiry_startsDuly (ht : execOffTimeTimerExpiry s = .next t) : s.startsDuly t := by
  cases ht
  split
  · exact .refl s
  · split
    · refine (State.follows.setEngine s { s.engine with offTime := none } rfl rfl).duly ?_
      unfold State.offTimeOver
      split
      · refine (State.closeWasRefused_follows _).duly ?_
        dsimp only
        split
        · exact State.finishAbort_startsDuly _ _
        · exact .refl _
      · exact .of_slots (by simp)
    · exact .refl s

theorem execRecoverWaitTimerExpiry_startsDuly (ht : execRecoverWaitTimerExpiry s = .next t) : s.startsDuly t := by
  cases ht
  split
  · dsimp only
    have aborts := s.requestOpen_follows.trans (State.enterAbort_follows _ (some .recoverFailed) false)
    generalize s.requestOpen.enterAbort (some .recoverFailed) false = aborted at aborts ⊢
    have marked : aborted.follows (aborted.setEngine { aborted.engine with selfCause := some .recoverFailed }) :=
      .setEngine _ _ rfl rfl
    exact ((aborts.trans marked).trans (State.latchFault_follows _ _)).startsNone.duly
  · exact .refl s

/-- Every command but PART and CLEAR_FAULT starts the slot that already stood at the queue's head, or nothing (R75). -/
theorem exec_startsDuly {c : Instr} (hp : c ≠ .part) (hf : c ≠ .clearFault) (ht : exec c s = .next t) :
    s.startsDuly t := by
  cases c with
  | powerReset straps => exact (execPowerReset_startsNone ht).duly
  | stationTimeTick => cases ht; exact .of_slots rfl
  | configReadComplete record =>
    exact execConfig_startsDuly record ((execConfigReadComplete_cases ht).imp_right And.right)
  | configReadNotAcknowledged =>
    exact execConfig_startsDuly [] ((execConfigReadNotAcknowledged_cases ht).imp_right fun h => .inl h.2)
  | configReadTimeout =>
    exact execConfig_startsDuly [] ((execConfigReadTimeout_cases ht).imp_right fun h => .inl h.2)
  | loopedFrameReceived bits =>
    obtain rfl | ⟨_, rfl | rfl⟩ := execLoopedFrameReceived_cases ht
    · exact .refl _
    · exact .of_slots rfl
    · exact .of_slots rfl
  | selfLoopTimeout =>
    obtain rfl | ⟨_, rfl⟩ := execSelfLoopTimeout_cases ht
    · exact .refl _
    · exact .of_slots rfl
  | joinTimerExpiry => exact execJoinTimerExpiry_startsDuly ht
  | transmitStart => cases ht; split <;> [split; skip] <;> exact .of_slots rfl
  | frameSent => exact execFrameSent_startsDuly ht
  | arbitrationLost => exact execArbitrationLost_startsDuly ht
  | sendCollision => exact execSendCollision_startsDuly ht
  | frameReceived stamp bits => exact execFrameReceived_startsDuly ht
  | receivedInError bits => cases ht; (repeat' split) <;> exact .of_slots (by simp)
  | abortRunSeen => cases ht; split <;> exact .of_slots rfl
  | lineIdle => cases ht; split <;> exact .of_slots rfl
  | shed =>
    refine handedOn_startsDuly rfl ht fun h u => ?_
    split
    · exact (State.engineShed_startsNone _).duly.of_same (s' := u.setHeadroom _) rfl rfl rfl
    · exact .refl u
  | ask | hold | drop =>
    refine handedOn_startsDuly rfl ht fun h u => ?_
    unfold State.takeClaim
    (repeat' split) <;> exact .of_slots (by simp)
  | openSlot => exact handedOn_startsDuly rfl ht fun h u => (u.takeOpen_startsNone h).duly
  | part => exact absurd rfl hp
  | cancel => exact handedOn_startsDuly rfl ht fun h u => u.takeCancel_startsDuly h.frame
  | clear => exact handedOn_startsDuly rfl ht fun h u => (u.takeClear_startsNone h.frame).duly
  | fetch => exact handedOn_startsDuly rfl ht fun h u => (u.takeFetch_startsNone h.frame).duly
  | status =>
    refine handedOn_startsDuly rfl ht fun h u => ?_
    unfold State.takeStatus
    split <;> exact .of_slots (by simp)
  | tighten =>
    refine handedOn_startsDuly rfl ht fun h u => ?_
    unfold State.takeTighten
    (repeat' split) <;> exact .of_slots (by simp)
  | clearFault => exact absurd rfl hf
  | bayReset => exact handedOn_startsDuly rfl ht fun h u => (u.takeBayReset_startsNone h.frame).duly
  | assemblyDeadlineExpiry n => exact execAssemblyDeadlineExpiry_startsDuly ht
  | contestDecision => exact execContestDecision_startsDuly ht
  | holdStaleTimerExpiry =>
    cases ht
    split
    · exact (State.orderAbort_mayFree _ _).1.of_same rfl rfl rfl
    · exact .refl s
  | sampleSetArrival r o => exact execSampleSetArrival_startsDuly ht
  | sampleWatchdogExpiry =>
    cases ht
    split
    · exact s.setPort_latchFault_startsDuly _ _
    · exact .refl s
  | setpointAcknowledgement v => exact execSetpointAcknowledgement_startsDuly ht
  | acknowledgementTimerExpiry =>
    cases ht
    split
    · exact .refl s
    · split
      · exact s.setPort_latchFault_startsDuly _ _
      · exact .refl s
  | emergencyStopChange level =>
    cases ht
    split
    · exact .refl s
    · dsimp only
      split
      · exact s.setPort_latchFault_startsDuly _ _
      · exact .of_slots rfl
  | startWaitTimerExpiry | restTimerExpiry =>
    cases ht; split; exacts [s.openNotRun_startsDuly _ _ rfl rfl, .refl s]
  | soakMaximumTimerExpiry => cases ht; split; exacts [s.notRun_startsDuly _, .refl s]
  | timeOutTimerExpiry => exact execTimeOutTimerExpiry_startsDuly ht
  | offTimeTimerExpiry => exact execOffTimeTimerExpiry_startsDuly ht
  | recoverWaitTimerExpiry => exact execRecoverWaitTimerExpiry_startsDuly ht
  | contestTimerExpiry | refreshTimerExpiry | reListenTimerExpiry | sampleReadBegin | writeEnd
  | shedHoldTimerExpiry | writeBegin | backoffTimerExpiry | peerEntryExpiry =>
    cases ht
    (repeat' split) <;> exact .of_slots (by simp)

end Sys2Proof.Machine
end

section
/-!
PROOF. The start by PART and by CLEAR_FAULT, and what the start does (R74, R75, R125, R126, R184).
-/
namespace Sys2Proof.Machine

variable {s t u : State}

/-! ### What is said of a slot that has become ACTIVE -/

/-- Slot `n`, which is to hold `head` and `work`, stood at the queue's head, or the last PART has just put it there. -/
def State.comesFrom (c : Instr) (s : State) (n : Fin 8) (head : SlotHead) (work : Work) : Prop :=
  s.slotTable.queue.head? = some n ∧ s.slotTable.slot n = .held head work ∨
    c = .part ∧ (∃ expected parts deadline, s.slotTable.slot n = .assembling head expected parts deadline) ∧
      ∀ m ∈ s.slotTable.queue.head?, s.goesBefore n head m

/-- What R75 asks of a command after which slot `n` has become ACTIVE. -/
def State.startRule (c : Instr) (s t : State) (n : Fin 8) : Prop :=
  t.station = .onLine ∧ t.guardUnit.resetting = none ∧ (s.guardUnit.latch = none ∨ c = .clearFault) ∧
  (s.engine.phase = .idle ∨ ∀ check ∈ s.engine.check, check.slot ≠ n →
    (t.slotTable.slot check.slot).isActive = false) ∧
  (t.engine.phase = .quiet ∨ t.engine.phase = .aborting) ∧ n ∉ t.slotTable.queue ∧
  ∀ head work, t.slotTable.slot n = .active head work → s.comesFrom c n head work ∧
    t.engine.check = some { slot := n, priority := head.priority, params := work.params, need := work.need }

/-- A start from the state `u` that a command sets before it examines the start conditions. -/
theorem State.hasStarted.rule {c : Instr} {n : Fin 8} (h : u.hasStarted t n) (he : u.engine = s.engine)
    (hl : s.guardUnit.latch = none ∨ c = .clearFault)
    (origin : ∀ head work, u.slotTable.slot n = .held head work → s.comesFrom c n head work) : s.startRule c t n := by
  obtain ⟨head, work, held, active, check⟩ := h.slot
  refine ⟨h.station, h.resetting, hl, he ▸ h.ended, h.phase, h.left, fun head' work' active' => ?_⟩
  obtain ⟨rfl, rfl⟩ := Slot.active.inj (active.symm.trans active')
  exact ⟨origin _ _ held, check⟩

/-- A start from a state with the slots and the engine that the command found. -/
theorem State.hasStarted.ruleOfHead {c : Instr} {n : Fin 8} (h : u.hasStarted t n) (hs : u.slotTable = s.slotTable)
    (he : u.engine = s.engine) (hl : s.guardUnit.latch = none ∨ c = .clearFault) : s.startRule c t n :=
  h.rule he hl fun _ _ held => .inl ⟨hs ▸ h.head, hs ▸ held⟩

/-! ### CLEAR_FAULT (R184) -/

/-- The part with latch and hold released, before the start conditions are examined (R184). -/
def State.unlatched (s : State) : State :=
  (s.setGuardUnit { s.guardUnit with latch := none, further := 0 }).releaseHold

theorem State.clearLatch_startsDuly (s : State) : s.unlatched.startsDuly s.clearLatch :=
  s.unlatched.examineStart_startsDuly.follows (State.latchFaults_follows _ _)

/-- A CLEAR_FAULT is refused, or releases the latch and is answered (R184). -/
theorem State.takeClearFault_cases (s : State) (f : Frame) :
    s.startsNone (s.takeClearFault f) ∨ s.takeClearFault f = s.clearLatch.replyStatus .guardUnit f.source := by
  have refused (r : Reason) : s.startsNone (s.refuse .guardUnit f r detailRequest) := .of_slots (by simp)
  unfold State.takeClearFault
  split
  · exact .inl (refused _)
  · split
    · exact .inl (refused _)
    · split
      · exact .inl (refused _)
      · exact .inr rfl

theorem execClearFault_startRule (ht : exec .clearFault s = .next t) {n : Fin 8}
    (h0 : (s.slotTable.slot n).isActive = false) (h1 : (t.slotTable.slot n).isActive = true) :
    s.startRule .clearFault t n := by
  obtain rfl | ⟨h, u, hh, rfl⟩ := exec_takesFrame rfl ht
  · rw [h0] at h1; cases h1
  obtain ⟨rest, _, rfl⟩ := State.handOn_taking hh
  obtain none | cleared := (s.taking rest).takeClearFault_cases h.frame
  · exact absurd ((none n h1).symm.trans h0) (by decide)
  · have answered (u : State) : u.follows (u.replyStatus .guardUnit h.frame.source) := by
      apply State.follows.same <;> simp
    have duly := (s.taking rest).clearLatch_startsDuly.follows (answered _)
    rw [← cleared] at duly
    exact (duly n h0 h1).ruleOfHead rfl rfl (.inr rfl)

/-! ### PART (R73, R74) -/

/-- The part after a slot's validation, with the slot queued and answered, before the start conditions are examined
(R73, R74). -/
def State.queued (s : State) (f : Frame) (n : Fin 8) (head : SlotHead) (work : Work) : State :=
  (s.setSlotTable { s.slotTable.put n (.held head work) with
    queue := enqueueSlot ((s.slotTable.put n (.held head work)).precedes s.config.startOrder) n s.slotTable.queue
    }).replySlot f.source n

/-- A PART starts nothing, or completes an assembly whose slot it queues (R68 to R75). -/
theorem State.takePart_cases (s : State) (f : Frame) :
    s.startsNone (s.takePart f) ∨
    ∃ n head expected parts deadline work, s.slotTable.slot n = .assembling head expected parts deadline ∧
      s.takePart f = (s.queued f n head work).examineStart := by
  have refused (u : State) (r : Reason) (d : Nat) : u.startsNone (u.refuse .slotTable f r d) := .of_slots (by simp)
  unfold State.takePart
  split
  · exact .inl (refused s _ _)
  · split
    · exact .inl (refused s _ _)
    case h_2 n _ =>
      split
      case h_2 head expected parts deadline hn =>
        split
        · unfold State.takeOwnPart
          dsimp only
          split
          · split
            · exact .inl (State.startsNone.putSlot s n rfl)
            · unfold State.validateSlot
              split
              · exact .inl ((State.startsNone.vacate s n).trans (refused _ _ _))
              case h_2 work _ => exact .inr ⟨n, head, expected, parts, deadline, work, hn, rfl⟩
          · exact .inl ((State.startsNone.vacate s n).trans (refused _ _ _))
        · exact .inl (refused s _ _)
      all_goals exact .inl (refused s _ _)

/-- The order of the start queue, as it is said of a slot that is to hold `head` (R62, R74). -/
theorem State.goesBefore_of_precedes {n m : Fin 8} {head : SlotHead} {work : Work} (hne : n ≠ m)
    (h : (s.slotTable.put n (.held head work)).precedes s.config.startOrder n m = true) : s.goesBefore n head m := by
  have own : (s.slotTable.put n (.held head work)).startKey n = (head.priority, head.arrival) := by
    unfold SlotTable.startKey
    rw [SlotTable.slot_put_self]; rfl
  have other : (s.slotTable.put n (.held head work)).startKey m = s.slotTable.startKey m := by
    unfold SlotTable.startKey
    rw [SlotTable.slot_put_ne _ hne]
  unfold SlotTable.precedes at h
  unfold State.goesBefore
  rw [own, other] at h
  generalize s.config.startOrder = order at h ⊢
  generalize s.slotTable.startKey m = key at h ⊢
  cases order with
  | slotNumber => simpa using h
  | priorityThenArrival =>
    simp at h
    split at h
    case isTrue same => exact .inr ⟨same, h⟩
    case isFalse => exact .inl h

/-- The head of the queue that a slot has entered is the head that stood there, or the slot itself before that head. -/
theorem enqueueSlot_head {precedes : Fin 8 → Fin 8 → Bool} {n m : Fin 8} {queue : List (Fin 8)} (hn : n ∉ queue)
    (hm : (enqueueSlot precedes n queue).head? = some m) :
    m ≠ n ∧ queue.head? = some m ∨ m = n ∧ ∀ k ∈ queue.head?, precedes n k = true := by
  obtain ⟨before, after, whole, placed, _, first⟩ := enqueueSlot_place precedes n queue
  rw [placed] at hm
  cases before with
  | nil => exact .inr ⟨(Option.some.inj hm).symm, by simpa [whole] using first⟩
  | cons k rest =>
    obtain rfl : k = m := Option.some.inj hm
    exact .inl ⟨by rintro rfl; simp [whole] at hn, by simp [whole]⟩

theorem State.queued_frame (s : State) (f : Frame) (n : Fin 8) (head : SlotHead) (work : Work) :
    (s.queued f n head work).slotTable = { s.slotTable.put n (.held head work) with
      queue := enqueueSlot ((s.slotTable.put n (.held head work)).precedes s.config.startOrder) n s.slotTable.queue } ∧
    (s.queued f n head work).engine = s.engine ∧ (s.queued f n head work).guardUnit = s.guardUnit := by
  simp [State.queued]

/-- A slot that starts as the queue's head after PART `n` has been queued stood there before, or is `n` (R75). -/
theorem State.queued_comesFrom {n m : Fin 8} {f : Frame} {head head' : SlotHead} {expected : Nat}
    {parts : List (List Byte)} {deadline : Word} {work work' : Work}
    (assembled : s.slotTable.slot n = .assembling head expected parts deadline) (hn : n ∉ s.slotTable.queue)
    (hm : (s.queued f n head work).slotTable.queue.head? = some m)
    (held : (s.queued f n head work).slotTable.slot m = .held head' work') : s.comesFrom .part m head' work' := by
  rw [(s.queued_frame f n head work).1] at hm held
  obtain ⟨hne, first⟩ | ⟨rfl, first⟩ := enqueueSlot_head hn hm
  · exact .inl ⟨first, (SlotTable.slot_put_ne _ hne.symm).symm.trans held⟩
  · obtain ⟨rfl, _⟩ := Slot.held.inj ((SlotTable.slot_put_self s.slotTable m _).symm.trans held)
    refine .inr ⟨rfl, ⟨_, _, _, assembled⟩, fun k hk => State.goesBefore_of_precedes ?_ (first k hk)⟩
    rintro rfl
    exact hn (List.mem_of_mem_head? hk)

theorem execPart_startRule (hf : s.slotForm) (ht : exec .part s = .next t) {n : Fin 8}
    (h0 : (s.slotTable.slot n).isActive = false) (h1 : (t.slotTable.slot n).isActive = true) :
    s.startRule .part t n := by
  obtain rfl | ⟨h, u, hh, rfl⟩ := exec_takesFrame rfl ht
  · rw [h0] at h1; cases h1
  obtain ⟨rest, _, rfl⟩ := State.handOn_taking hh
  obtain none | ⟨m, head, expected, parts, deadline, work, assembled, ends⟩ := (s.taking rest).takePart_cases h.frame
  · exact absurd ((none n h1).symm.trans h0) (by decide)
  · have outside : m ∉ s.slotTable.queue := fun hm => by
      have held := (hf.2.1 m).mp hm
      rw [show s.slotTable.slot m = _ from assembled] at held
      cases held
    obtain ⟨slots, engine, guard⟩ := (s.taking rest).queued_frame h.frame m head work
    have waits : (((s.taking rest).queued h.frame m head work).slotTable.slot n).isActive = false := by
      rw [slots]
      by_cases hn : m = n
      · subst hn
        exact congrArg Slot.isActive (SlotTable.slot_put_self _ _ _)
      · exact (congrArg Slot.isActive (SlotTable.slot_put_ne _ hn)).trans h0
    have started := State.examineStart_startsDuly _ n waits (ends ▸ h1)
    rw [← ends] at started
    refine started.rule engine (.inl (guard ▸ started.latch)) fun head' work' held => ?_
    exact State.queued_comesFrom (s := s.taking rest) assembled outside started.head held

/-! ### The start itself (R125, R126, R137) -/

theorem Params.isTrip_iff (p : Params) : p.isTrip = true ↔ p.kind = .tripRamp ∨ p.kind = .tripTime := by
  cases p <;> simp [Params.isTrip, Params.kind]

/-- No carry stands, or it is kept for a trip check whose need the hold covers (R137). -/
theorem State.settleCarry_eq {w : Work}
    (h : s.engine.carry = false ∨ w.params.isTrip = true ∧ w.need ≤ s.headroom.held) : s.settleCarry w = s := by
  unfold State.settleCarry
  obtain none | ⟨trip, covered⟩ := h
  · simp [none]
  · simp [trip, covered]

theorem dequeueSlot_head {n : Fin 8} {rest : List (Fin 8)} (h : n ∉ rest) : dequeueSlot n (n :: rest) = rest := by
  simp only [dequeueSlot, bne_self_eq_false, Bool.false_eq_true, not_false_eq_true, List.filter_cons_of_neg]
  refine List.filter_eq_self.mpr fun m hm => bne_iff_ne.mpr ?_
  rintro rfl
  exact h hm

theorem State.startable_of_head {n : Fin 8} {head : SlotHead} {work : Work} {rest : List (Fin 8)}
    (may : s.mayStart = true) (hq : s.slotTable.queue = n :: rest) (hs : s.slotTable.slot n = .held head work) :
    s.startable = some (n, head, work) := by
  simp [State.startable, may, hq, hs]

/-- Without a BAY_RESET in progress the idle report of an engine whose queue's head may start is that start (R75). -/
theorem State.reportIdle_of_startable (hr : s.guardUnit.resetting = none) (h : s.startable.isSome = true) :
    s.reportIdle = s.examineStart := by
  unfold State.reportIdle State.completeReset
  simp [hr, h]

theorem Port.writeDrop_ceiling (p : Port) (c : Nat) :
    Port.writeDrop { p with ceiling := c } = { p.writeDrop with ceiling := c } := by
  unfold Port.writeDrop
  dsimp only
  split
  · split <;> rfl
  · split <;> rfl
  · rfl

/-- The part as its engine has taken slot `n` over, before QUIET looks at the load (R125). -/
def State.takenOver (s : State) (n : Fin 8) (head : SlotHead) (work : Work) (rest : List (Fin 8)) : State :=
  { s with
    slotTable := { s.slotTable with slots := s.slotTable.slots.set n (.active head work), queue := rest }
    engine := { Engine.reset with
      phase := .quiet, carry := s.engine.carry, startStamp := s.time
      check := some { slot := n, priority := head.priority, params := work.params, need := work.need } }
    port := { s.port with ceiling := work.params.ceiling } }

/-- The start of the queue's head, with no carry to withdraw (R75, R125, R137). -/
theorem State.examineStart_of_head {n : Fin 8} {head : SlotHead} {work : Work} {rest : List (Fin 8)}
    (found : s.startable = some (n, head, work)) (hq : s.slotTable.queue = n :: rest) (hn : n ∉ rest)
    (carried : s.engine.carry = false ∨ work.params.isTrip = true ∧ work.need ≤ s.headroom.held) :
    s.examineStart = (s.takenOver n head work rest).enterQuiet := by
  have left : dequeueSlot n s.slotTable.queue = rest := by rw [hq, dequeueSlot_head hn]
  unfold State.examineStart
  rw [found]
  dsimp only
  rw [left]
  unfold State.handOver
  rw [State.settleCarry_eq (s := s.setSlotTable { s.slotTable.put n (.active head work) with queue := rest }) carried]
  rfl

/-- Entry to QUIET with a load that may still stand (R126). -/
theorem State.enterQuiet_loaded (h : ¬ (s.port.applied = 0 ∧ s.port.pending = none ∧ s.port.onPort = none)) :
    s.enterQuiet = { s with engine := { s.engine with phase := .quiet, quiet := .drop }, port := s.port.writeDrop } := by
  unfold State.enterQuiet
  rw [if_pos]
  · rfl
  · by_contra hc
    apply h
    simpa [Port.pathEmpty] using hc

/-- Entry to QUIET without a load: the contactor command decides (R126). -/
theorem State.enterQuiet_unloaded (h : s.port.applied = 0 ∧ s.port.pending = none ∧ s.port.onPort = none) :
    s.enterQuiet = (s.setEngine { s.engine with phase := .quiet }).quietContactor := by
  obtain ⟨applied, pending, onPort⟩ := h
  unfold State.enterQuiet
  rw [if_neg]
  simp [Port.pathEmpty, applied, pending, onPort]

theorem State.quietContactor_closed (hs : s.port.standing = .closed) (hh : s.port.hold = false) :
    s.quietContactor = { s with engine := { s.engine with
      quiet := .rest, restCount := 0, rest := some (later s.time 20000) } } := by
  unfold State.quietContactor
  rw [if_pos (by simp [Port.commandedClosed, hs, hh])]
  rfl

theorem State.quietContactor_opened (hs : s.port.standing = .opened) (hh : s.port.hold = false) :
    s.quietContactor = { s with
      engine := { s.engine with
        quiet := .powerGood, restCount := 0, startWait := some (later s.time (s.config.startWait * 10000)) }
      port := { s.port with standing := .closed, confirmedOpen := false } } := by
  unfold State.quietContactor
  rw [if_neg (by simp [Port.commandedClosed, hs]), if_neg (by simp [State.closeRefused, hh])]
  rfl

/-- Settles O34: only the examination of the start conditions lets a slot become ACTIVE, and what a command does before
and after it leaves the queue's head and the check to it; the start itself is then computed. -/
theorem startConditions : Obligations.StartConditions := by
  refine ⟨fun c s t n hf ht h0 h1 => ?_, fun s n head work rest station idle latch resetting hold hq hn hs => ?_⟩
  · by_cases hp : c = .part
    · subst hp
      exact execPart_startRule hf ht h0 h1
    · by_cases hc : c = .clearFault
      · subst hc
        exact execClearFault_startRule ht h0 h1
      · have started := exec_startsDuly hp hc ht n h0 h1
        exact started.ruleOfHead rfl rfl (.inl started.latch)
  · have found := State.startable_of_head (s.mayStart_iff.mpr ⟨idle, station, latch, resetting⟩) hq hs
    refine ⟨State.reportIdle_of_startable resetting (by rw [found]; rfl), fun carried => ?_⟩
    rw [← Params.isTrip_iff] at carried
    rw [State.examineStart_of_head found hq hn carried]
    let u := s.takenOver n head work rest
    let quiet := u.setEngine { u.engine with phase := .quiet }
    have dropped : u.port.writeDrop = { s.port.writeDrop with ceiling := work.params.ceiling } :=
      s.port.writeDrop_ceiling _
    refine ⟨fun loaded => ?_, fun bare closed => ?_, fun bare opened => ?_⟩
    · rw [State.enterQuiet_loaded (s := u) loaded, dropped]
      rfl
    · rw [State.enterQuiet_unloaded (s := u) bare, State.quietContactor_closed (s := quiet) closed hold]
      rfl
    · rw [State.enterQuiet_unloaded (s := u) bare, State.quietContactor_opened (s := quiet) opened hold]
      rfl

end Sys2Proof.Machine
end

section
/-!
PROOF. What a command can do to the transmit queue while no frame of the part begins or ends on the line: reply groups
and CLAIM frames are offered, a CLAIM is withdrawn, and nothing else of the line unit, of the start-up record or of the
peer view moves. One lemma for each operation, in the order of Machine/.
-/

namespace Sys2Proof.Machine

/-- `t` comes of `o` by offers to the transmit queue and by changes of other blocks (R23 to R28, R46). -/
inductive State.offered (o : State) : State → Prop
  | refl : o.offered o
  | other {s t : State} (h : o.offered s) (line : t.line = s.line) (startup : t.startup = s.startup)
      (peers : t.headroom.peers = s.headroom.peers) : o.offered t
  | replies {s : State} (h : o.offered s) (block : Block) {group : List Frame} (replies : ∀ f ∈ group, f.cls = 3) :
      o.offered (s.offerReplies block group)
  | claim {s : State} (h : o.offered s) (kind : ClaimKind) (held asked : Nat) :
      o.offered (s.offerClaim kind held asked)
  | withdrawal {s : State} (h : o.offered s) : o.offered (s.setLine s.line.withdrawClaim)

namespace State.offered

variable {o s t : State}

theorem trans (h : o.offered s) (h' : s.offered t) : o.offered t := by
  induction h' with
  | refl => exact h
  | other _ line startup peers ih => exact ih.other line startup peers
  | replies _ block replies ih => exact ih.replies block replies
  | claim _ kind held asked ih => exact ih.claim kind held asked
  | withdrawal _ ih => exact ih.withdrawal

/-- Offers leave the start-up record, the peer view, and what the line unit has heard or has on the line. -/
theorem frame (h : o.offered t) :
    t.startup = o.startup ∧ t.headroom.peers = o.headroom.peers ∧ t.line.silo = o.line.silo ∧
    t.line.order = o.line.order ∧ t.line.judgement = o.line.judgement := by
  induction h with
  | refl => simp
  | other _ line startup peers ih => simpa [line, startup, peers] using ih
  | replies _ _ _ ih | claim _ _ _ _ ih | withdrawal _ ih => simpa using ih

theorem station (h : o.offered t) : t.station = o.station := by rw [State.station, h.frame.1, State.station]

/-! ### One block replaced -/

theorem setEngine (h : o.offered s) (e : Engine) : o.offered (s.setEngine e) := h.other rfl rfl rfl
theorem setPort (h : o.offered s) (p : Port) : o.offered (s.setPort p) := h.other rfl rfl rfl
theorem setSlotTable (h : o.offered s) (t : SlotTable) : o.offered (s.setSlotTable t) := h.other rfl rfl rfl
theorem setGuardUnit (h : o.offered s) (g : GuardUnit) : o.offered (s.setGuardUnit g) := h.other rfl rfl rfl
theorem setHeadroom (h : o.offered s) (u : Headroom) (hu : u.peers = s.headroom.peers := by simp) :
    o.offered (s.setHeadroom u) := h.other rfl rfl hu

/-- An operation that leaves line unit, start-up record and peer view, as its frame lemma says. -/
theorem unmoved (h : o.offered s) (line : t.line = s.line := by simp) (startup : t.startup = s.startup := by simp)
    (peers : t.headroom.peers = s.headroom.peers := by simp) : o.offered t := h.other line startup peers

/-! ### The headroom unit -/

theorem markSuspect (h : o.offered s) : o.offered s.markSuspect := h.unmoved

theorem tryLower (h : o.offered s) : o.offered s.tryLower := by
  unfold State.tryLower
  split
  · split
    · split
      · exact (h.claim _ _ _).setHeadroom _
      · exact h
    · split
      · exact (h.claim _ _ _).setHeadroom _
      · exact h
  · exact h

theorem tryBar (h : o.offered s) : o.offered s.tryBar := h.unmoved

theorem portReport (h : o.offered s) : o.offered s.portReport := by
  unfold State.portReport
  split
  · exact h.tryBar
  · exact h.tryLower

theorem lowerToZero (h : o.offered s) : o.offered s.lowerToZero := (h.setHeadroom _).tryLower

theorem lowerIfHeld (h : o.offered s) (held : Nat) : o.offered (if held == 0 then s else s.lowerToZero) := by
  split
  · exact h
  · exact h.lowerToZero

theorem withdrawNeed (h : o.offered s) : o.offered s.withdrawNeed := by
  unfold State.withdrawNeed
  dsimp only
  split
  · exact h
  · split
    · exact (h.withdrawal.setHeadroom _).lowerIfHeld _
    · exact ((h.setHeadroom _).claim _ _ _).lowerIfHeld _
    · exact (h.setHeadroom _).lowerIfHeld _
    · exact (h.setHeadroom _).lowerToZero
    all_goals exact h.setHeadroom _

theorem stateNeed (h : o.offered s) (amount priority : Nat) : o.offered (s.stateNeed amount priority) := by
  unfold State.stateNeed
  dsimp only
  split
  · exact (h.setHeadroom _).claim _ _ _
  · split
    · exact (h.setHeadroom _).tryLower
    · exact (h.setHeadroom _).claim _ _ _
  all_goals exact h

theorem claimCompleted (h : o.offered s) (kind : BitVec 5) (order : Word) (newest : Bool) :
    o.offered (s.claimCompleted kind order newest) := by
  unfold State.claimCompleted
  dsimp only
  repeat' split
  case isFalse.isTrue.isTrue => exact h.claim _ _ _
  case isFalse.isFalse.isTrue => exact h.setHeadroom _
  case isFalse.isFalse.isFalse.isTrue => exact h.setHeadroom _
  all_goals exact h

/-! ### Replies -/

theorem reply (h : o.offered s) (block : Block) {f : Frame} (hf : f.cls = 3) : o.offered (s.offerReplies block [f]) :=
  h.replies block (by simpa using hf)

theorem replySlot (h : o.offered s) (target : Address) (n : Fin 8) : o.offered (s.replySlot target n) := h.reply _ rfl

theorem replyStatus (h : o.offered s) (block : Block) (target : Address) : o.offered (s.replyStatus block target) :=
  h.replies _ (by simp [State.statusGroup, State.replyFrame])

theorem refuse (h : o.offered s) (block : Block) (f : Frame) (reason : Reason) (detail : Nat) :
    o.offered (s.refuse block f reason detail) := by
  unfold State.refuse
  split
  · exact h
  · exact h.reply _ rfl

theorem answerSlot (h : o.offered s) (f : Frame) (n : Fin 8) : o.offered (s.answerSlot f n) := by
  unfold State.answerSlot
  split
  · exact h
  · exact h.replySlot _ _

theorem vacate (h : o.offered s) (n : Fin 8) : o.offered (s.vacate n) := h.setSlotTable _
theorem putSlot (h : o.offered s) (n : Fin 8) (x : Slot) : o.offered (s.putSlot n x) := h.setSlotTable _

/-! ### The engine: the grant, and the start of a slot -/

theorem granted (h : o.offered s) (atOnce : Bool) : o.offered (s.granted atOnce) := by
  unfold State.granted
  split
  case h_1 c _ _ =>
    dsimp only
    split
    · exact h.unmoved
    · exact h.unmoved
    · split
      · exact h.unmoved
      · exact ((h.setEngine _).setEngine _).withdrawNeed
  case h_2 => exact h

theorem enterClaiming (h : o.offered s) (c : Check) : o.offered (s.enterClaiming c) := by
  unfold State.enterClaiming
  dsimp only
  split
  · exact ((h.setEngine _).stateNeed _ _).granted _
  · exact (h.setEngine _).stateNeed _ _

theorem restShown (h : o.offered s) (c : Check) : o.offered (s.restShown c) := by
  unfold State.restShown
  dsimp only
  split
  · exact (h.setEngine _).setEngine _
  all_goals exact (h.setEngine _).enterClaiming _

theorem dropCarry (h : o.offered s) : o.offered s.dropCarry := by
  unfold State.dropCarry
  split
  · exact (h.setEngine _).withdrawNeed
  · exact h

theorem settleCarry (h : o.offered s) (w : Work) : o.offered (s.settleCarry w) := by
  unfold State.settleCarry
  split
  · split
    · exact h
    · exact (h.setEngine _).withdrawNeed
  · exact h

theorem handOver (h : o.offered s) (n : Fin 8) (head : SlotHead) (w : Work) : o.offered (s.handOver n head w) := by
  unfold State.handOver
  exact (h.settleCarry w).unmoved

theorem examineStart (h : o.offered s) : o.offered s.examineStart := by
  unfold State.examineStart
  split
  · exact h
  · exact (h.setSlotTable _).handOver _ _ _

/-! ### The engine: the end of a check -/

theorem completeReset (h : o.offered s) : o.offered s.completeReset := by
  unfold State.completeReset
  dsimp only
  split
  · exact h
  · split
    · exact h.setGuardUnit _
    · exact (h.setGuardUnit _).replyStatus _ _

theorem reportIdle (h : o.offered s) : o.offered s.reportIdle := by
  unfold State.reportIdle
  dsimp only
  split
  · exact h.completeReset.examineStart
  · exact h.completeReset.dropCarry

theorem finishCheck (h : o.offered s) (carry : Bool) : o.offered (s.finishCheck carry) :=
  ((h.setEngine _).setPort _).reportIdle

theorem handBack (h : o.offered s) (r : ResultRecord) : o.offered (s.handBack r) := by
  unfold State.handBack State.slotDone
  split
  · exact h
  · split
    · exact (h.putSlot _ _).reply _ rfl
    · exact h

theorem release (h : o.offered s) : o.offered s.release := by
  unfold State.release
  dsimp only
  refine State.offered.finishCheck (State.offered.handBack ?_ _) _
  split
  · exact h.setEngine _
  · exact (h.setEngine _).withdrawNeed

theorem notRun (h : o.offered s) (cause : Cause) : o.offered (s.notRun cause) := (h.setEngine _).release

theorem requestOpen (h : o.offered s) : o.offered s.requestOpen := h.unmoved

theorem finishAbort (h : o.offered s) (mismatched : Bool) : o.offered (s.finishAbort mismatched) := by
  have opened : o.offered (if s.engine.abortOpens mismatched then s.requestOpen else s) := by
    split
    · exact h.requestOpen
    · exact h
  unfold State.finishAbort
  generalize (if s.engine.abortOpens mismatched then s.requestOpen else s) = u at opened
  refine State.offered.finishCheck ?_ _
  split
  · exact opened.withdrawNeed.unmoved
  · exact opened.withdrawNeed.handBack _

theorem enterAbort (h : o.offered s) (cause : Option Cause) (noResult : Bool) :
    o.offered (s.enterAbort cause noResult) := h.unmoved

theorem beginAbort (h : o.offered s) (cause : Option Cause) (noResult : Bool) :
    o.offered (s.beginAbort cause noResult) := by
  unfold State.beginAbort
  dsimp only
  split
  · exact (h.enterAbort _ _).finishAbort _
  · exact h.enterAbort _ _

theorem secondCause (h : o.offered s) (cause : Cause) : o.offered (s.secondCause cause) := by
  unfold State.secondCause
  dsimp only
  split
  · exact h.setEngine _
  · split
    · exact h.setEngine _
    · split
      · split
        · exact (h.setEngine _).finishAbort _
        · exact h.setEngine _
      · exact h

theorem orderAbort (h : o.offered s) (cause : Cause) : o.offered (s.orderAbort cause) := by
  unfold State.orderAbort
  split
  case h_12 => exact h.secondCause _
  case h_1 => split; exacts [h.dropCarry, h]
  case h_9 | h_10 => split; exacts [h, h.beginAbort _ _]
  case h_11 => exact h
  all_goals exact h.beginAbort _ _

theorem resetEngine (h : o.offered s) : o.offered s.resetEngine := by
  unfold State.resetEngine
  split
  case h_1 => exact h.dropCarry.reportIdle
  case h_2 => exact h.setEngine _
  all_goals exact h.beginAbort _ _

/-! ### The engine: shed events, sample sets and answers -/

theorem engineShed (h : o.offered s) : o.offered s.engineShed := by
  unfold State.engineShed
  split
  case h_1 | h_2 | h_3 =>
    split
    · exact h.unmoved
    · exact h.beginAbort _ _
  case h_4 => exact h.setEngine _
  all_goals exact h

theorem shedEvent (h : o.offered s) (order : Word) : o.offered (s.shedEvent order) :=
  (h.setHeadroom _).engineShed

theorem ownShed (h : o.offered s) (e : Entry) (order : Word) : o.offered (s.ownShed e order) := by
  unfold State.ownShed
  split
  · exact h.engineShed
  · exact h.shedEvent _

theorem countRest (h : o.offered s) (c : Check) (x : SampleSet) : o.offered (s.countRest c x) := by
  unfold State.countRest
  generalize (if x.atRest s.config.nominalVoltage then s.engine.restCount + 1 else 0) = n
  dsimp only
  split
  · exact (h.setEngine _).restShown _
  · exact h.setEngine _

theorem quietSet (h : o.offered s) (c : Check) (x : SampleSet) : o.offered (s.quietSet c x) := by
  unfold State.quietSet
  split
  · exact h
  · split
    · exact (h.setEngine _).countRest _ _
    · exact h
  · exact h.countRest _ _

theorem soakSet (h : o.offered s) (c : Check) (p : DerateParams) (x : SampleSet) : o.offered (s.soakSet c p x) := by
  unfold State.soakSet
  dsimp only
  split
  · exact h.requestOpen.notRun _
  · split
    · exact (h.setEngine _).enterClaiming _
    · exact h.setEngine _

theorem engineSet (h : o.offered s) (x : SampleSet) : o.offered (s.engineSet x) := by
  unfold State.engineSet
  dsimp only
  split
  · exact h
  · have taken := h.setEngine (s.engine.takeIn x)
    split
    case h_1 => exact taken.quietSet _ _
    case h_2 | h_3 => exact taken.soakSet _ _ _
    case h_4 | h_5 | h_6 | h_7 => exact taken.unmoved
    case h_8 => exact taken.unmoved
    case h_9 => split; exacts [taken.release, taken]
    case h_10 => exact taken

theorem newestAcknowledged (h : o.offered s) (c : Check) : o.offered (s.newestAcknowledged c) := by
  have taken := h.setEngine { s.engine with awaiting := false }
  unfold State.newestAcknowledged
  dsimp only
  split
  case h_1 | h_2 => exact taken.setEngine _
  case h_3 => exact taken.unmoved
  case h_4 => split; exacts [taken.unmoved, taken.release]
  case h_5 => exact taken

theorem dropAcknowledged (h : o.offered s) : o.offered s.dropAcknowledged := by
  have going : o.offered s.quietContactor := h.unmoved
  unfold State.dropAcknowledged
  dsimp only
  split
  case h_1 =>
    split
    · split
      · exact going.finishAbort _
      · exact going
    · exact h
  case h_2 => exact h.finishAbort _
  case h_3 => exact h

theorem engineAcknowledged (h : o.offered s) (sp : Setpoint) : o.offered (s.engineAcknowledged sp) := by
  unfold State.engineAcknowledged
  split
  · exact h.dropAcknowledged
  · split
    · exact h
    · unfold State.setpointAcknowledged
      split
      · exact h.newestAcknowledged _
      · split
        · exact h.unmoved
        · exact h

/-! ### The guard unit, and what the port offers -/

theorem latchFault (h : o.offered s) (cause : Cause) : o.offered (s.latchFault cause) := by
  unfold State.latchFault
  split
  · exact h.unmoved.orderAbort _
  · exact (h.setGuardUnit _).orderAbort _

theorem latchFaults (h : o.offered s) (causes : List Cause) : o.offered (causes.foldl State.latchFault s) := by
  induction causes generalizing s with
  | nil => exact h
  | cons cause rest ih => exact ih (h.latchFault cause)

theorem guardSet (h : o.offered s) (x : SampleSet) : o.offered (s.guardSet x) := by
  unfold State.guardSet
  split
  · exact h
  · split
    · exact (h.setGuardUnit _).latchFaults _
    · exact h

theorem clearLatch (h : o.offered s) : o.offered s.clearLatch :=
  (h.unmoved.examineStart).latchFaults _

/-- A sample set reaches the headroom unit after guard unit and engine, which alone may end a check with it. -/
theorem offerSet (h : o.offered s) (x : SampleSet) (order : SetOrder) :
    ∃ u, o.offered u ∧ s.offerSet x order = u.headroomSet x := by
  unfold State.offerSet
  cases order
  · exact ⟨_, (h.guardSet x).engineSet x, rfl⟩
  · exact ⟨_, (h.engineSet x).guardSet x, rfl⟩

theorem answerMatches (h : o.offered s) (sp : Setpoint) : o.offered (s.answerMatches sp) :=
  ((h.setPort _).engineAcknowledged _).portReport

theorem answerDiffers (h : o.offered s) (sp : Setpoint) : o.offered (s.answerDiffers sp) := by
  unfold State.answerDiffers
  dsimp only
  split
  · exact (h.latchFault _).finishAbort _
  · exact h.latchFault _

end State.offered

end Sys2Proof.Machine
end

section
/-!
PROOF. What each command does to transmit queue, silo and peer view: most do no more than offer (State.offered), once the
frame they hand on has left the silo.
-/

namespace Sys2Proof.Machine

/-! ### Requests -/

namespace State.offered

variable {o s : State}

theorem takeOpen (h : o.offered s) (x : Heard) : o.offered (s.takeOpen x) := by
  unfold State.takeOpen
  dsimp only
  split
  · exact h.refuse _ _ _ _
  · split
    · exact h.refuse _ _ _ _
    · split
      · exact h.setSlotTable _
      all_goals exact h.refuse _ _ _ _

theorem validateSlot (h : o.offered s) (f : Frame) (n : Fin 8) (head : SlotHead) (parts : List (List Byte)) :
    o.offered (s.validateSlot f n head parts) := by
  unfold State.validateSlot
  dsimp only
  split
  · exact (h.vacate _).refuse _ _ _ _
  · exact ((h.setSlotTable _).replySlot _ _).examineStart

theorem takeOwnPart (h : o.offered s) (f : Frame) (n : Fin 8) (head : SlotHead) (expected : Nat)
    (parts : List (List Byte)) (deadline : Word) : o.offered (s.takeOwnPart f n head expected parts deadline) := by
  unfold State.takeOwnPart
  dsimp only
  split
  · split
    · exact h.putSlot _ _
    · exact h.validateSlot _ _ _ _
  · exact (h.vacate _).refuse _ _ _ _

theorem takePart (h : o.offered s) (f : Frame) : o.offered (s.takePart f) := by
  unfold State.takePart
  split
  · exact h.refuse _ _ _ _
  · split
    · exact h.refuse _ _ _ _
    · split
      case h_2 => split; exacts [h.takeOwnPart _ _ _ _ _ _, h.refuse _ _ _ _]
      all_goals exact h.refuse _ _ _ _

theorem takeCancel (h : o.offered s) (f : Frame) : o.offered (s.takeCancel f) := by
  unfold State.takeCancel
  split
  · exact h.refuse _ _ _ _
  · split
    · unfold State.cancelSlot
      split
      case h_1 | h_2 => exact h.refuse _ _ _ _
      case h_3 => split; exacts [(h.vacate _).answerSlot _ _, h.refuse _ _ _ _]
      case h_4 => exact (h.vacate _).answerSlot _ _
      case h_5 => exact (h.orderAbort _).answerSlot _ _
    · split
      · unfold State.cancelAll
        dsimp only
        split
        · exact (h.setSlotTable _).orderAbort _
        · exact h.setSlotTable _
      · exact h.refuse _ _ _ _

theorem takeClear (h : o.offered s) (f : Frame) : o.offered (s.takeClear f) := by
  unfold State.takeClear
  split
  · exact h.refuse _ _ _ _
  · split
    · exact h.refuse _ _ _ _
    · split
      case h_6 => exact (h.vacate _).replySlot _ _
      all_goals exact h.refuse _ _ _ _

theorem resultGroup (h : o.offered s) (u : State) (target : Address) (n : Fin 8) (head : SlotHead) (w : Work)
    (r : ResultRecord) : o.offered (s.offerReplies .slotTable (u.resultGroup target n head w r)) :=
  h.replies _ (by simp [State.resultGroup, State.resultFrame, State.replyFrame])

theorem takeFetch (h : o.offered s) (f : Frame) : o.offered (s.takeFetch f) := by
  unfold State.takeFetch
  split
  · exact h.refuse _ _ _ _
  · split
    · exact h.refuse _ _ _ _
    · split
      case h_5 => exact h.refuse _ _ _ _
      case h_6 =>
        unfold State.fetchResult
        dsimp only
        split
        · exact (h.resultGroup _ _ _ _ _ _).putSlot _ _
        · exact h.resultGroup _ _ _ _ _ _
      all_goals exact h.replySlot _ _

theorem takeStatus (h : o.offered s) (f : Frame) : o.offered (s.takeStatus f) := by
  unfold State.takeStatus
  split
  · exact h.refuse _ _ _ _
  · exact h.replyStatus _ _

theorem takeTighten (h : o.offered s) (f : Frame) : o.offered (s.takeTighten f) := by
  unfold State.takeTighten
  dsimp only
  split
  · exact h.refuse _ _ _ _
  · split
    case h_3 => split; exacts [h.refuse _ _ _ _, (h.setGuardUnit _).reply _ rfl]
    all_goals exact h.refuse _ _ _ _

theorem takeClearFault (h : o.offered s) (f : Frame) : o.offered (s.takeClearFault f) := by
  unfold State.takeClearFault
  split
  · exact h.refuse _ _ _ _
  · split
    · exact h.refuse _ _ _ _
    · split
      · exact h.refuse _ _ _ _
      · exact h.clearLatch.replyStatus _ _

/-! ### The contest -/

theorem grantContest (h : o.offered s) (amount : Nat) : o.offered (s.grantContest amount) :=
  ((h.setHeadroom _).claim _ _ _).granted _

theorem yieldContest (h : o.offered s) : o.offered s.yieldContest := (h.setHeadroom _).claim _ _ _

end State.offered

/-! ### The commands -/

variable {s t : State}

/-- The requests and announcements that do no more than offer, once their frame has left the silo. -/
def offersFor : Instr → Bool
  | .shed | .openSlot | .part | .cancel | .clear | .fetch | .status | .tighten | .clearFault => true
  | _ => false

/-- The commands of timers, port, headroom unit and emergency stop: they do no more than offer. -/
def offersOnly : Instr → Bool
  | .stationTimeTick | .assemblyDeadlineExpiry _ | .contestTimerExpiry | .contestDecision | .backoffTimerExpiry
  | .refreshTimerExpiry | .holdStaleTimerExpiry | .reListenTimerExpiry | .sampleReadBegin | .sampleWatchdogExpiry
  | .writeBegin | .writeEnd | .setpointAcknowledgement _ | .acknowledgementTimerExpiry | .emergencyStopChange _
  | .startWaitTimerExpiry | .restTimerExpiry | .soakMaximumTimerExpiry | .shedHoldTimerExpiry | .timeOutTimerExpiry
  | .offTimeTimerExpiry | .recoverWaitTimerExpiry => true
  | _ => false

theorem takesFrame_offered {c : Instr} {cls kind : Nat} {take : Heard → State → State} (hc : offersFor c = true)
    (ht : takesFrame c = some (cls, kind, take)) (h : Heard) (u : State) : u.offered (take h u) := by
  have start : u.offered u := .refl
  cases c with
  | shed => cases ht; dsimp only; split; exacts [start.shedEvent _, start]
  | openSlot => cases ht; exact start.takeOpen _
  | part => cases ht; exact start.takePart _
  | cancel => cases ht; exact start.takeCancel _
  | clear => cases ht; exact start.takeClear _
  | fetch => cases ht; exact start.takeFetch _
  | status => cases ht; exact start.takeStatus _
  | tighten => cases ht; exact start.takeTighten _
  | clearFault => cases ht; exact start.takeClearFault _
  | _ => cases hc

theorem execAssemblyDeadlineExpiry_offered {n : Fin 8} (ht : execAssemblyDeadlineExpiry n s = .next t) :
    s.offered t := by
  cases ht
  split
  case h_1 => split; exacts [(State.offered.refl.vacate _).reply _ rfl, .refl]
  all_goals exact .refl

theorem execContestDecision_offered (ht : execContestDecision s = .next t) : s.offered t := by
  cases ht
  split
  · split
    · split
      · exact State.offered.refl.grantContest _
      · exact State.offered.refl.yieldContest
    · exact .refl
  · exact .refl

theorem execBackoffTimerExpiry_offered (ht : execBackoffTimerExpiry s = .next t) : s.offered t := by
  cases ht
  split
  · split
    · exact (State.offered.refl.setHeadroom _).claim _ _ _
    · exact .refl
  · exact .refl

theorem execSetpointAcknowledgement_offered {v : Nat} (ht : execSetpointAcknowledgement v s = .next t) :
    s.offered t := by
  cases ht
  split
  · exact State.offered.refl.latchFault _
  · dsimp only
    split
    · exact (State.offered.refl.setPort _).answerMatches _
    · exact (State.offered.refl.setPort _).answerDiffers _

theorem execOffTimeTimerExpiry_offered (ht : execOffTimeTimerExpiry s = .next t) : s.offered t := by
  cases ht
  split
  · exact .refl
  · split
    · unfold State.offTimeOver
      dsimp only
      split
      · split
        · exact State.offered.finishAbort (State.offered.refl.unmoved) _
        · exact State.offered.refl.unmoved
      · exact State.offered.refl.unmoved
    · exact .refl

theorem execRecoverWaitTimerExpiry_offered (ht : execRecoverWaitTimerExpiry s = .next t) : s.offered t := by
  cases ht
  split
  · exact ((State.offered.refl.requestOpen.enterAbort _ _).setEngine _).latchFault _
  · exact .refl

theorem exec_offered {c : Instr} (hc : offersOnly c = true) (ht : exec c s = .next t) : s.offered t := by
  have start : s.offered s := .refl
  cases c with
  | stationTimeTick => cases ht; exact start.unmoved
  | assemblyDeadlineExpiry n => exact execAssemblyDeadlineExpiry_offered ht
  | contestTimerExpiry | reListenTimerExpiry => cases ht; split; exacts [start.setHeadroom _, start]
  | contestDecision => exact execContestDecision_offered ht
  | backoffTimerExpiry => exact execBackoffTimerExpiry_offered ht
  | refreshTimerExpiry => cases ht; split; exacts [(start.setHeadroom _).claim _ _ _, start]
  | holdStaleTimerExpiry => cases ht; split; exacts [(start.setHeadroom _).orderAbort _, start]
  | sampleReadBegin => cases ht; split <;> exact start.setPort _
  | sampleWatchdogExpiry => cases ht; split; exacts [(start.setPort _).latchFault _, start]
  | writeBegin => cases ht; split; exacts [start, by split; exacts [start.setPort _, start]]
  | writeEnd => cases ht; split; exacts [start.setPort _, start]
  | setpointAcknowledgement v => exact execSetpointAcknowledgement_offered ht
  | acknowledgementTimerExpiry =>
    cases ht; split; exacts [start, by split; exacts [(start.setPort _).latchFault _, start]]
  | emergencyStopChange level =>
    cases ht
    split
    · exact start
    · dsimp only; split; exacts [(start.setPort _).latchFault _, start.setPort _]
  | startWaitTimerExpiry | restTimerExpiry =>
    cases ht; split; exacts [(start.setEngine _).requestOpen.notRun _, start]
  | soakMaximumTimerExpiry => cases ht; split; exacts [start.notRun _, start]
  | shedHoldTimerExpiry => cases ht; split; exacts [start.setEngine _, start]
  | timeOutTimerExpiry =>
    cases ht
    split
    · dsimp only; split; exacts [start.unmoved, start.setEngine _]
    · exact start
  | offTimeTimerExpiry => exact execOffTimeTimerExpiry_offered ht
  | recoverWaitTimerExpiry => exact execRecoverWaitTimerExpiry_offered ht
  | _ => cases hc

/-- A sample set that arrives makes offers until the headroom unit takes it (R108, R57). -/
theorem execSampleSetArrival_offered {r : ReportedSet} {order : SetOrder}
    (ht : execSampleSetArrival r order s = .next t) : t = s ∨ ∃ u x, s.offered u ∧ t = State.headroomSet u x := by
  cases ht
  split
  · right
    have taken : s.offered (s.takeSet r.taken) := State.offered.refl.unmoved
    dsimp only
    split
    · obtain ⟨u, hu, he⟩ := taken.portReport.offerSet r.taken order
      exact ⟨u, r.taken, hu, he⟩
    · obtain ⟨u, hu, he⟩ := taken.offerSet r.taken order
      exact ⟨u, r.taken, hu, he⟩
  · exact .inl rfl

end Sys2Proof.Machine
end

section
/-!
PROOF. The transmit queue in order and within its quotas (R24 to R28): what each operation of the line unit does to that
form, and that every step keeps it.
-/

namespace Sys2Proof.Machine

variable {l : Line}

/-! ### The form of the line unit -/

/-- The form of the transmit queue and the waiting CLAIM, connected or not (R24 to R27). -/
structure Line.inForm (l : Line) : Prop where
  ordered : l.queue.Pairwise Entry.before
  below : ∀ e ∈ l.queue, e.entryOrder < l.nextEntry
  classes : ∀ e ∈ l.queue, e.isShed = true ∨ e.isClaim = true ∨ e.isReply = true
  sheds : l.queue.countP Entry.isShed ≤ 1
  claims : l.queue.countP Entry.isClaim ≤ 1
  replies : l.queue.countP Entry.isReply ≤ Config.replyQuota
  oneSends : l.queue.countP Entry.sending ≤ 1
  sends : ∀ e ∈ l.queue, e.sending = true → l.judgement.isSending = true
  waits : ∀ f ∈ l.waiting, f.cls = 1

/-- Nothing is queued and nothing waits. -/
def Line.empty (l : Line) : Prop := l.queue = [] ∧ l.waiting = none

theorem State.queueForm_iff (s : State) :
    s.queueForm ↔ s.line.inForm ∧ (s.station.connected = false → s.line.empty) := by
  constructor
  · rintro ⟨h1, h2, h3, h4, h5, h6, h7, h8, h9, h10⟩
    exact ⟨⟨h1, h2, h3, h4, h5, h6, h7, h8, h9⟩, h10⟩
  · rintro ⟨⟨h1, h2, h3, h4, h5, h6, h7, h8, h9⟩, h10⟩
    exact ⟨h1, h2, h3, h4, h5, h6, h7, h8, h9, h10⟩

theorem Line.empty.inForm (h : l.empty) : l.inForm := by
  obtain ⟨hq, hw⟩ := h
  constructor <;> simp [hq, hw]

/-! ### Operations on the queue -/

theorem insertEntry_pairwise {e : Entry} {q : List Entry} (hq : q.Pairwise Entry.before)
    (he : ∀ x ∈ q, x.entryOrder < e.entryOrder) : (insertEntry e q).Pairwise Entry.before := by
  induction q with
  | nil => simp [insertEntry]
  | cons x rest ih =>
    obtain ⟨hx, hrest⟩ := List.pairwise_cons.mp hq
    unfold insertEntry
    split
    case isTrue lower =>
      refine List.pairwise_cons.mpr ⟨fun y hy => .inl ?_, hq⟩
      obtain rfl | hy := List.mem_cons.mp hy
      · exact lower
      · obtain h | h := hx y hy <;> omega
    case isFalse higher =>
      refine List.pairwise_cons.mpr ⟨fun y hy => ?_, ih hrest fun y hy => he y (.tail _ hy)⟩
      obtain rfl | hy := mem_insertEntry.mp hy
      · have := he x (.head _)
        unfold Entry.before
        omega
      · exact hx y hy

/-- The quota of a frame's class has room for one more (R25 to R27). -/
def Line.hasRoom (l : Line) (f : Frame) : Prop :=
  f.cls = 0 ∧ l.queue.countP Entry.isShed = 0 ∨ f.cls = 1 ∧ l.queue.countP Entry.isClaim = 0 ∨
    f.cls = 3 ∧ l.queue.countP Entry.isReply < Config.replyQuota

theorem Line.inForm.accept (h : l.inForm) (block : Block) {f : Frame} (hf : l.hasRoom f) :
    (Line.accept block l f).inForm where
  ordered := insertEntry_pairwise h.ordered h.below
  below := by
    intro e he
    obtain rfl | he := mem_insertEntry.mp he
    · exact Nat.lt_succ_self _
    · exact Nat.lt_succ_of_lt (h.below e he)
  classes := by
    intro e he
    obtain rfl | he := mem_insertEntry.mp he
    · obtain ⟨hf, _⟩ | ⟨hf, _⟩ | ⟨hf, _⟩ := hf <;> simp [Entry.isShed, Entry.isClaim, Entry.isReply, hf]
    · exact h.classes e he
  sheds := by
    have := h.sheds
    simp only [Line.accept, countP_insertEntry, Entry.isShed]
    obtain ⟨hf, _⟩ | ⟨hf, _⟩ | ⟨hf, _⟩ := hf <;> simp_all [Entry.isShed]
  claims := by
    have := h.claims
    simp only [Line.accept, countP_insertEntry, Entry.isClaim]
    obtain ⟨hf, _⟩ | ⟨hf, _⟩ | ⟨hf, _⟩ := hf <;> simp_all
  replies := by
    have := h.replies
    simp only [Line.accept, countP_insertEntry, Entry.isReply]
    obtain ⟨hf, _⟩ | ⟨hf, _⟩ | ⟨hf, _⟩ := hf <;> simp_all
  oneSends := by simpa [Line.accept, countP_insertEntry] using h.oneSends
  sends := by
    intro e he hs
    obtain rfl | he := mem_insertEntry.mp he
    · cases hs
    · simpa using h.sends e he hs
  waits := by simpa using h.waits

theorem Line.inForm.dropEntries (h : l.inForm) (p : Entry → Bool) : (l.dropEntries p).inForm := by
  have kept : (l.queue.filter fun e => !p e).Sublist l.queue := List.filter_sublist
  have fewer (q : Entry → Bool) : (l.queue.filter fun e => !p e).countP q ≤ l.queue.countP q := kept.countP_le
  exact ⟨h.ordered.sublist kept, fun e he => h.below e (kept.subset he), fun e he => h.classes e (kept.subset he),
    (fewer _).trans h.sheds, (fewer _).trans h.claims, (fewer _).trans h.replies, (fewer _).trans h.oneSends,
    fun e he => h.sends e (kept.subset he), h.waits⟩

/-- No attempt to send is in progress. -/
def Line.atRest (l : Line) : Prop := ∀ e ∈ l.queue, e.sending = false

/-- A line unit with the same queue and waiting CLAIM, whatever it has heard, numbered or counted; where no attempt is in
progress, also with another judgement of the line. -/
theorem Line.inForm.congr {m : Line} (h : l.inForm) (queue : m.queue = l.queue) (next : m.nextEntry = l.nextEntry)
    (waiting : m.waiting = l.waiting) (judgement : m.judgement = l.judgement ∨ l.atRest) : m.inForm := by
  obtain ⟨h1, h2, h3, h4, h5, h6, h7, h8, h9⟩ := h
  constructor <;> simp only [queue, next, waiting] <;> try assumption
  intro e he hs
  obtain hj | rest := judgement
  · exact hj ▸ h8 e he hs
  · rw [rest e he] at hs
    cases hs

/-- The queue with flags of its entries changed, frames and order as they were. -/
theorem Line.inForm.mapQueue (h : l.inForm) (g : Entry → Entry) (hf : ∀ e, (g e).frame = e.frame)
    (ho : ∀ e, (g e).entryOrder = e.entryOrder) (hs : ∀ e, (g e).sending = true → e.sending = true) :
    ({ l with queue := l.queue.map g } : Line).inForm where
  ordered := by
    refine List.pairwise_map.mpr (h.ordered.imp fun {a b} hab => ?_)
    simpa only [Entry.before, hf, ho] using hab
  below := by simpa [ho] using h.below
  classes := by simpa [Entry.isShed, Entry.isClaim, Entry.isReply, hf] using h.classes
  sheds := by
    have same (e : Entry) : (g e).isShed = e.isShed := by simp [Entry.isShed, hf]
    simpa [List.countP_map, Function.comp_def, same] using h.sheds
  claims := by
    have same (e : Entry) : (g e).isClaim = e.isClaim := by simp [Entry.isClaim, hf]
    simpa [List.countP_map, Function.comp_def, same] using h.claims
  replies := by
    have same (e : Entry) : (g e).isReply = e.isReply := by simp [Entry.isReply, hf]
    simpa [List.countP_map, Function.comp_def, same] using h.replies
  oneSends := by
    rw [List.countP_map]
    exact (List.countP_mono_left fun e _ he => hs e he).trans h.oneSends
  sends := by
    intro e he hse
    obtain ⟨x, hx, rfl⟩ := List.mem_map.mp he
    exact h.sends x hx (hs x hse)
  waits := h.waits

/-! ### Offers -/

/-- A line unit that sends nothing of a class has room for it (R25, R26). -/
theorem Line.hasRoom_claim {f : Frame} (hf : f.cls = 1) (h : ∀ e ∈ l.queue, e.isClaim = false) : l.hasRoom f :=
  .inr (.inl ⟨hf, List.countP_eq_zero.mpr fun e he => by simp [h e he]⟩)

theorem Line.inForm.offerClaim (h : l.inForm) {f : Frame} (hf : f.cls = 1) : (l.offerClaim f).inForm := by
  unfold Line.offerClaim
  split
  case h_1 none =>
    exact h.accept _ (Line.hasRoom_claim hf fun e he => by simpa using List.find?_eq_none.mp none e he)
  case h_2 =>
    split
    · obtain ⟨h1, h2, h3, h4, h5, h6, h7, h8, _⟩ := h
      exact ⟨h1, h2, h3, h4, h5, h6, h7, h8, by simpa using hf⟩
    · refine (h.dropEntries _).accept _ (Line.hasRoom_claim hf fun e he => ?_)
      simpa using (List.mem_filter.mp he).2

theorem Line.inForm.withdrawClaim (h : l.inForm) : l.withdrawClaim.inForm := by
  unfold Line.withdrawClaim
  split
  · obtain ⟨h1, h2, h3, h4, h5, h6, h7, h8, _⟩ := h
    exact ⟨h1, h2, h3, h4, h5, h6, h7, h8, by simp⟩
  · exact h.dropEntries _

theorem Line.inForm.offerShed (h : l.inForm) {f : Frame} (hf : f.cls = 0) : (l.offerShed f).inForm := by
  unfold Line.offerShed
  split
  case isTrue => exact h
  case isFalse none =>
    simp only [List.any_eq_true, not_exists, not_and] at none
    exact h.accept _ (.inl ⟨hf, List.countP_eq_zero.mpr none⟩)

/-- A reply group that fits the quota is accepted frame after frame (R27). -/
theorem Line.inForm.acceptReplies (block : Block) (group : List Frame) :
    ∀ {l : Line}, l.inForm → (∀ f ∈ group, f.cls = 3) →
      l.queue.countP Entry.isReply + group.length ≤ Config.replyQuota → (group.foldl (Line.accept block) l).inForm := by
  induction group with
  | nil => exact fun h _ _ => h
  | cons f rest ih =>
    intro l h hg fits
    have hf := hg f (.head _)
    rw [List.length_cons] at fits
    refine ih (h.accept block (.inr (.inr ⟨hf, by omega⟩))) (fun x hx => hg x (.tail _ hx)) ?_
    simp [Line.accept, countP_insertEntry, Entry.isReply, hf]
    omega

theorem Line.inForm.offerReplies (h : l.inForm) (block : Block) {group : List Frame} (hg : ∀ f ∈ group, f.cls = 3) :
    (l.offerReplies block group).inForm := by
  unfold Line.offerReplies
  split
  case isTrue fits => exact h.acceptReplies _ _ hg (by simpa [Line.admits] using fits)
  case isFalse => exact h.congr rfl rfl rfl (.inl rfl)

/-! ### Sending and hearing -/

theorem Line.atRest_of_judgement (h : l.inForm) (hj : l.judgement.isSending = false) : l.atRest := by
  intro e he
  by_contra hs
  simp [h.sends e he (by simpa using hs)] at hj

theorem Line.atRest.dropEntries (h : l.atRest) (p : Entry → Bool) : (l.dropEntries p).atRest :=
  fun e he => h e (List.mem_filter.mp he).1

/-- Two entries for which a test holds are one where the test holds once. -/
theorem eq_of_countP_le_one {p : Entry → Bool} {q : List Entry} (h : q.countP p ≤ 1) {a b : Entry} (ha : a ∈ q)
    (hb : b ∈ q) (pa : p a = true) (pb : p b = true) : a = b := by
  rw [List.countP_eq_length_filter] at h
  have ha : a ∈ q.filter p := List.mem_filter.mpr ⟨ha, pa⟩
  have hb : b ∈ q.filter p := List.mem_filter.mpr ⟨hb, pb⟩
  match q.filter p, h, ha, hb with
  | [x], _, ha, hb => rw [List.mem_singleton.mp ha, List.mem_singleton.mp hb]

/-- The attempt in progress is that of an entry of the queue. -/
theorem Line.attempt_some {start : Word} {e : Entry} (h : l.attempt = some (start, e)) :
    e ∈ l.queue ∧ e.sending = true := by
  unfold Line.attempt at h
  split at h
  case h_1 found =>
    cases h
    exact ⟨List.mem_of_find?_eq_some found, by simpa using List.find?_some found⟩
  case h_2 => cases h

/-- Once the sending entry has left, no attempt is in progress and, where it was a CLAIM, no CLAIM is queued. -/
theorem Line.inForm.dropSending (h : l.inForm) {start : Word} {e : Entry} (ha : l.attempt = some (start, e)) :
    (l.dropEntries fun x => x.entryOrder == e.entryOrder).atRest ∧
    (e.isClaim = true → ∀ x ∈ (l.dropEntries fun x => x.entryOrder == e.entryOrder).queue, x.isClaim = false) := by
  obtain ⟨he, hs⟩ := Line.attempt_some ha
  have left {x : Entry} (hx : x ∈ (l.dropEntries fun x => x.entryOrder == e.entryOrder).queue) :
      x ∈ l.queue ∧ x ≠ e := by
    obtain ⟨hx, hn⟩ := List.mem_filter.mp hx
    exact ⟨hx, fun heq => by simp [heq] at hn⟩
  refine ⟨fun x hx => ?_, fun hc x hx => ?_⟩
  · by_contra hxs
    exact (left hx).2 (eq_of_countP_le_one h.oneSends (left hx).1 he (by simpa using hxs) hs)
  · by_contra hxc
    exact (left hx).2 (eq_of_countP_le_one h.claims (left hx).1 he (by simpa using hxc) hc)

theorem Line.inForm.completed (h : l.inForm) {start : Word} {e : Entry} (ha : l.attempt = some (start, e)) :
    (l.completed e).inForm :=
  (h.dropEntries _).congr rfl rfl rfl (.inr (h.dropSending ha).1)

/-- A waiting CLAIM is accepted where no CLAIM is queued (R25). -/
theorem Line.inForm.acceptWaiting (h : l.inForm) {w : Frame} (hw : l.waiting = some w)
    (none : ∀ x ∈ l.queue, x.isClaim = false) : (Line.accept .headroom { l with waiting := .none } w).inForm := by
  have freed : ({ l with waiting := .none } : Line).inForm := by
    obtain ⟨h1, h2, h3, h4, h5, h6, h7, h8, _⟩ := h
    exact ⟨h1, h2, h3, h4, h5, h6, h7, h8, by simp⟩
  exact freed.accept _ (Line.hasRoom_claim (h.waits w (by simp [hw])) none)

/-- An attempt that fails leaves the queue in form and, whatever becomes of its frame, at rest (R18, R19, R25, R28). -/
theorem Line.inForm.attemptFailed (h : l.inForm) {start : Word} {e : Entry} (ha : l.attempt = some (start, e)) :
    (l.attemptFailed e).inForm ∧ (l.attemptFailed e).atRest := by
  obtain ⟨rest, claims⟩ := h.dropSending ha
  unfold Line.attemptFailed
  dsimp only
  split
  case h_1 w hc hw =>
    refine ⟨(h.dropEntries _).acceptWaiting hw (claims hc), fun x hx => ?_⟩
    obtain rfl | hx := mem_insertEntry.mp hx
    · rfl
    · exact rest x hx
  case h_2 =>
    split
    · exact ⟨h.dropEntries _, rest⟩
    · refine ⟨h.mapQueue _ (fun _ => rfl) (fun _ => rfl) (by simp), fun x hx => ?_⟩
      obtain ⟨y, _, rfl⟩ := List.mem_map.mp hx
      rfl

/-- The head of a queue at rest begins on the line (R18). -/
theorem Line.inForm.startHead (h : l.inForm) (rest : l.atRest) (now : Word) (bits : List Bool) :
    ({ l with judgement := .sending now, driving := bits, queue := startHead l.queue } : Line).inForm := by
  cases hq : l.queue with
  | nil => exact h.congr (by simp [Machine.startHead, hq]) rfl rfl (.inr rest)
  | cons e q =>
    obtain ⟨h1, h2, h3, h4, h5, h6, _, _, h9⟩ := h
    have none : q.countP Entry.sending = 0 :=
      List.countP_eq_zero.mpr fun x hx => by simp [rest x (by simp [hq, hx])]
    rw [hq] at h1 h2 h3 h4 h5 h6
    constructor
    case ordered => simpa [Machine.startHead, Entry.before] using h1
    case below => simpa [Machine.startHead] using h2
    case classes => simpa [Machine.startHead, Entry.isShed, Entry.isClaim, Entry.isReply] using h3
    case sheds => simpa [Machine.startHead, List.countP_cons, Entry.isShed] using h4
    case claims => simpa [Machine.startHead, List.countP_cons, Entry.isClaim] using h5
    case replies => simpa [Machine.startHead, List.countP_cons, Entry.isReply] using h6
    case oneSends => simp [Machine.startHead, none]
    case sends => exact fun _ _ _ => rfl
    case waits => exact h9

/-- BAY_RESET takes queued REPLY entries away and marks a sending one (R28). -/
theorem Line.inForm.removeReplies (h : l.inForm) : l.removeReplies.inForm := by
  refine (h.dropEntries _).mapQueue _ ?_ ?_ ?_ <;> intro e <;> split <;> simp

/-! ### Every command -/

variable {s t : State}

/-- Where the line unit alone has been through operations that keep its form, or is empty, the part keeps it too. -/
theorem State.queueForm_of_line (hs : s.queueForm) (form : t.line.inForm) (station : t.station = s.station)
    (empty : s.line.empty → t.line.empty) : t.queueForm := by
  obtain ⟨_, apart⟩ := s.queueForm_iff.mp hs
  exact t.queueForm_iff.mpr ⟨form, fun hc => empty (apart (station ▸ hc))⟩

theorem State.queueForm_of_connected (form : t.line.inForm) (connected : t.station.connected = true) : t.queueForm :=
  t.queueForm_iff.mpr ⟨form, fun hc => by simp [connected] at hc⟩

theorem State.queueForm_of_empty (empty : t.line.empty) : t.queueForm :=
  t.queueForm_iff.mpr ⟨empty.inForm, fun _ => empty⟩

theorem State.queueForm.inForm (hs : s.queueForm) : s.line.inForm := (s.queueForm_iff.mp hs).1

theorem State.queueForm.empty (hs : s.queueForm) (hc : s.station.connected = false) : s.line.empty :=
  (s.queueForm_iff.mp hs).2 hc

theorem Line.empty.withdrawClaim (h : l.empty) : l.withdrawClaim.empty := by
  obtain ⟨hq, hw⟩ := h
  simp [Line.empty, Line.withdrawClaim, Line.dropEntries, hq, hw]

/-- Offers keep the queue's form; apart from the line nothing is offered (R24 to R28). -/
theorem State.offered.queueForm (h : s.offered t) (hs : s.queueForm) : t.queueForm := by
  induction h with
  | refl => exact hs
  | @other u v _ line startup _ ih =>
    exact State.queueForm_of_line ih (line ▸ ih.inForm) (by simp [State.station, startup]) (line ▸ id)
  | @replies u _ block group replies ih =>
    unfold State.offerReplies
    split
    case isTrue hc => exact State.queueForm_of_connected (ih.inForm.offerReplies _ replies) hc
    case isFalse => exact ih
  | @claim u _ kind held asked ih =>
    unfold State.offerClaim
    split
    case isTrue hc => exact State.queueForm_of_connected (ih.inForm.offerClaim rfl) hc
    case isFalse => exact ih
  | withdrawal _ ih =>
    exact State.queueForm_of_line ih ih.inForm.withdrawClaim rfl Line.empty.withdrawClaim

theorem State.headroomSet_queueForm (hs : s.queueForm) (x : SampleSet) : (s.headroomSet x).queueForm := by
  unfold State.headroomSet
  dsimp only
  split
  case isTrue online =>
    split
    · refine State.queueForm_of_connected (hs.inForm.offerShed rfl) ?_
      simp [show s.station = .onLine by simpa using online, StationState.connected]
    · exact hs
  case isFalse => exact hs

theorem State.handOn_queueForm {u : State} {h : Heard} {cls kind : Nat} (hh : s.handOn cls kind = some (h, u))
    (hs : s.queueForm) : u.queueForm := by
  obtain ⟨rest, ⟨connected, _⟩, rfl⟩ := State.handOn_taking hh
  exact State.queueForm_of_connected (hs.inForm.congr rfl rfl rfl (.inl rfl)) connected

/-! ### Start-up, silencing and joining -/

theorem State.strapped_queueForm (s : State) (straps : Address) : (s.strapped straps).queueForm := by
  refine State.queueForm_of_empty ?_
  unfold State.strapped State.takeStraps
  split <;> exact ⟨rfl, rfl⟩

theorem State.apart_of_readingConfig (h : s.readingConfig = true) : s.station.connected = false := by
  rw [State.readingConfig_station h]; rfl

theorem execPowerReset_offered {straps : Address} (ht : execPowerReset straps s = .next t) :
    (s.strapped straps).offered t := by
  cases ht
  split
  · exact State.offered.refl.latchFault _
  · exact .refl

theorem State.silence_offered (s : State) : s.apart.offered s.silence := by
  unfold State.silence
  dsimp only
  split
  · have dropped : s.apart.offered s.apart.silencePort := State.offered.refl.unmoved
    exact (((dropped.setSlotTable _).setGuardUnit _).orderAbort _).tryBar
  · exact .refl

theorem State.silence_queueForm (s : State) : s.silence.queueForm :=
  s.silence_offered.queueForm (State.queueForm_of_empty ⟨rfl, rfl⟩)

theorem execJoinTimerExpiry_queueForm (ht : execJoinTimerExpiry s = .next t) (hs : s.queueForm) : t.queueForm := by
  obtain rfl | ⟨_, rfl⟩ := execJoinTimerExpiry_cases ht
  · exact hs
  · exact (State.offered.refl.examineStart).queueForm (State.queueForm_of_connected hs.inForm rfl)

/-! ### The part's own frame -/

theorem execTransmitStart_queueForm (ht : execTransmitStart s = .next t) (hs : s.queueForm) : t.queueForm := by
  cases ht
  split
  case h_1 idle _ =>
    split
    case isTrue hc =>
      have rest := Line.atRest_of_judgement hs.inForm (by rw [idle]; rfl)
      exact State.queueForm_of_connected (hs.inForm.startHead rest _ _) hc
    case isFalse => exact hs
  case h_2 => exact hs

/-- Where no CLAIM is queued, a CLAIM offered is accepted and none waits behind it (R25). -/
theorem State.offerClaim_waiting (s : State) (kind : ClaimKind) (held asked : Nat)
    (free : s.line.queue.find? Entry.isClaim = none) :
    (s.offerClaim kind held asked).line.waiting = s.line.waiting := by
  unfold State.offerClaim Line.offerClaim
  rw [free]
  split <;> simp

theorem State.claimCompleted_waiting (s : State) (kind : BitVec 5) (order : Word) (newest : Bool)
    (free : s.line.queue.find? Entry.isClaim = none) :
    (s.claimCompleted kind order newest).line.waiting = s.line.waiting := by
  unfold State.claimCompleted
  dsimp only
  (repeat' split) <;> simp [State.offerClaim_waiting _ _ _ _ free]

theorem Line.admitWaiting_of_none {l : Line} (h : l.waiting = none) : l.admitWaiting = l := by
  simp [Line.admitWaiting, h]

/-- The completion report of a CLAIM that has left the queue, and the waiting CLAIM accepted after it (R23, R25). -/
theorem State.claimReported_queueForm (hs : s.queueForm) (hc : s.station.connected = true) (kind : BitVec 5)
    (order : Word) (unclaimed : ∀ x ∈ s.line.queue, x.isClaim = false) :
    let u := s.claimCompleted kind order s.line.waiting.isNone
    (u.setLine u.line.admitWaiting).queueForm := by
  cases hw : s.line.waiting with
  | some w =>
    refine State.queueForm_of_connected ?_ hc
    simpa [State.claimCompleted, Line.admitWaiting, hw] using hs.inForm.acceptWaiting hw unclaimed
  | none =>
    have unmoved : (s.claimCompleted kind order true).line.waiting = none := by
      rw [s.claimCompleted_waiting _ _ _ (by simpa using unclaimed), hw]
    dsimp only [Option.isNone_none]
    rw [Line.admitWaiting_of_none unmoved]
    exact (State.offered.refl.claimCompleted kind order true).queueForm hs

theorem execFrameSent_queueForm (ht : execFrameSent s = .next t) (hs : s.queueForm) : t.queueForm := by
  obtain ⟨_, rfl⟩ | ⟨start, e, ha, rfl⟩ := execFrameSent_cases ht
  · exact hs
  · have hc := State.connected_of_attempt hs ha
    have sent : (s.setLine (s.line.completed e)).queueForm := State.queueForm_of_connected (hs.inForm.completed ha) hc
    unfold State.reportCompleted
    dsimp only
    split
    case isTrue claim => exact State.claimReported_queueForm sent hc _ _ ((hs.inForm.dropSending ha).2 claim)
    case isFalse =>
      split
      · exact (State.offered.refl.ownShed _ _).queueForm sent
      · exact (State.offered.refl.setSlotTable _).queueForm sent

theorem State.reportFailed_offered (s : State) (e : Entry) : s.offered (s.reportFailed e) := by
  unfold State.reportFailed
  split
  · exact State.offered.refl.setSlotTable _
  · exact .refl

theorem execArbitrationLost_queueForm (ht : execArbitrationLost s = .next t) (hs : s.queueForm) : t.queueForm := by
  cases ht
  split
  case h_1 => exact hs
  case h_2 start e ha =>
    have hc := State.connected_of_attempt hs ha
    obtain ⟨form, rest⟩ := hs.inForm.attemptFailed ha
    refine (State.reportFailed_offered _ _).queueForm (State.queueForm_of_connected ?_ hc)
    exact form.congr rfl rfl rfl (.inr rest)

theorem execSendCollision_queueForm (ht : execSendCollision s = .next t) (hs : s.queueForm) : t.queueForm := by
  cases ht
  split
  case h_1 => exact hs
  case h_2 start e ha =>
    have counted : (s.line.countCollision e).inForm := hs.inForm.congr rfl rfl rfl (.inl rfl)
    have hc := State.connected_of_attempt hs ha
    obtain ⟨form, rest⟩ := counted.attemptFailed (start := start) (e := e) ha
    dsimp only
    split
    · exact State.silence_queueForm _
    · refine (State.reportFailed_offered _ _).queueForm (State.queueForm_of_connected ?_ hc)
      exact form.congr rfl rfl rfl (.inr rest)

/-! ### Hearing -/

/-- A part that may hear a frame is on the line and sends nothing (R17, R18). -/
theorem State.hearing_some {stamp start : Word} (h : s.hearing stamp = some start) :
    s.station.connected = true ∧ s.line.judgement.isSending = false := by
  unfold State.hearing at h
  split at h
  case isTrue hc =>
    refine ⟨hc, ?_⟩
    split at h
    case h_1 hj => rw [hj]; rfl
    case h_2 hj => rw [hj]; rfl
    all_goals cases h
  case isFalse => cases h

/-- A line unit that has heard something keeps its queue (R22, R29, R31). -/
theorem State.heard_queueForm (hs : s.queueForm) {stamp start : Word} (hh : s.hearing stamp = some start)
    (station : t.station = s.station) (queue : t.line.queue = s.line.queue)
    (next : t.line.nextEntry = s.line.nextEntry) (waiting : t.line.waiting = s.line.waiting) : t.queueForm := by
  obtain ⟨hc, hj⟩ := State.hearing_some hh
  exact State.queueForm_of_connected
    (hs.inForm.congr queue next waiting (.inr (Line.atRest_of_judgement hs.inForm hj))) (station ▸ hc)

theorem State.hearFrame_queue (s : State) (f : Frame) (stamp : Word) :
    (s.hearFrame f stamp).station = s.station ∧ (s.hearFrame f stamp).line.queue = s.line.queue ∧
    (s.hearFrame f stamp).line.nextEntry = s.line.nextEntry ∧
    (s.hearFrame f stamp).line.waiting = s.line.waiting := by
  unfold State.hearFrame State.siloFrame
  dsimp only
  split
  · split <;> simp
  · simp
  · simp

theorem execFrameReceived_queueForm {stamp : Word} {bits : List Bool} (ht : execFrameReceived stamp bits s = .next t)
    (hs : s.queueForm) : t.queueForm := by
  obtain ⟨rfl, _⟩ | ⟨start, f, hh, _, rfl⟩ := execFrameReceived_cases ht
  · exact hs
  · obtain ⟨station, queue, next, waiting⟩ := s.hearFrame_queue f start
    exact State.heard_queueForm hs hh station queue next waiting

theorem execReceivedInError_queueForm {bits : List Bool} (ht : execReceivedInError bits s = .next t)
    (hs : s.queueForm) : t.queueForm := by
  cases ht
  split
  case h_1 => exact hs
  case h_2 hh =>
    split
    · refine (State.offered.refl.markSuspect).queueForm ?_
      exact State.heard_queueForm hs hh rfl rfl rfl rfl
    · exact hs

theorem execAbortRunSeen_queueForm (ht : execAbortRunSeen s = .next t) (hs : s.queueForm) : t.queueForm := by
  cases ht
  split
  case h_1 => exact hs
  case h_2 hh => exact State.heard_queueForm hs hh rfl rfl rfl rfl

theorem execLineIdle_queueForm (ht : execLineIdle s = .next t) (hs : s.queueForm) : t.queueForm := by
  cases ht
  split
  case isTrue h =>
    obtain ⟨hc, busy⟩ : s.station.connected = true ∧ s.line.judgement = .busy := by simpa using h
    have rest := Line.atRest_of_judgement hs.inForm (by rw [busy]; rfl)
    exact State.queueForm_of_connected (hs.inForm.congr rfl rfl rfl (.inr rest)) hc
  case isFalse => exact hs

/-! ### Claims heard and BAY_RESET -/

theorem State.takeClaim_queueForm (hs : s.queueForm) (h : Heard) (apply : Nat × Nat × Nat → List Peer → List Peer) :
    (s.takeClaim h apply).queueForm := by
  unfold State.takeClaim
  split
  · split
    · exact hs
    · exact (State.offered.refl.markSuspect).queueForm hs
  · exact hs

theorem Line.empty.removeReplies {l : Line} (h : l.empty) : l.removeReplies.empty := by
  obtain ⟨hq, hw⟩ := h
  simp [Line.empty, Line.removeReplies, Line.dropEntries, hq, hw]

theorem State.takeBayReset_queueForm (hs : s.queueForm) (f : Frame) : (s.takeBayReset f).queueForm := by
  unfold State.takeBayReset
  split
  · exact (State.offered.refl.refuse _ _ _ _).queueForm hs
  · refine (State.offered.refl.resetEngine).queueForm ?_
    exact State.queueForm_of_line hs hs.inForm.removeReplies rfl Line.empty.removeReplies

/-- A command of the silo keeps the queue's form where what it makes of its frame does (R32). -/
theorem handedOn_queueForm {c : Instr} {cls kind : Nat} {take : Heard → State → State}
    (hc : takesFrame c = some (cls, kind, take)) (ht : exec c s = .next t) (hs : s.queueForm)
    (hk : ∀ h u, State.queueForm u → (take h u).queueForm) : t.queueForm := by
  obtain rfl | ⟨h, u, hh, rfl⟩ := exec_takesFrame hc ht
  · exact hs
  · exact hk h u (State.handOn_queueForm hh hs)

theorem handedOn_offered_queueForm {c : Instr} {cls kind : Nat} {take : Heard → State → State}
    (ho : offersFor c = true) (hc : takesFrame c = some (cls, kind, take)) (ht : exec c s = .next t)
    (hs : s.queueForm) : t.queueForm :=
  handedOn_queueForm hc ht hs fun h u hu => (takesFrame_offered ho hc h u).queueForm hu

theorem exec_queueForm {c : Instr} (ht : exec c s = .next t) (hs : s.queueForm) : t.queueForm := by
  cases c with
  | powerReset straps => exact (execPowerReset_offered ht).queueForm (s.strapped_queueForm straps)
  | configReadComplete record =>
    obtain rfl | ⟨hr, rfl | rfl | rfl⟩ := execConfigReadComplete_cases ht
    · exact hs
    all_goals exact State.queueForm_of_empty (hs.empty (State.apart_of_readingConfig hr))
  | configReadNotAcknowledged =>
    obtain rfl | ⟨hr, rfl⟩ := execConfigReadNotAcknowledged_cases ht
    · exact hs
    · exact State.queueForm_of_empty (hs.empty (State.apart_of_readingConfig hr))
  | configReadTimeout =>
    obtain rfl | ⟨hr, rfl⟩ := execConfigReadTimeout_cases ht
    · exact hs
    · exact State.queueForm_of_empty (hs.empty (State.apart_of_readingConfig hr))
  | loopedFrameReceived bits =>
    obtain rfl | ⟨hl, rfl | rfl⟩ := execLoopedFrameReceived_cases ht
    · exact hs
    · exact State.queueForm_of_empty (hs.empty (by rw [hl]; rfl))
    · exact State.queueForm_of_empty ⟨rfl, rfl⟩
  | selfLoopTimeout =>
    obtain rfl | ⟨_, rfl⟩ := execSelfLoopTimeout_cases ht
    · exact hs
    · exact State.queueForm_of_empty ⟨rfl, rfl⟩
  | joinTimerExpiry => exact execJoinTimerExpiry_queueForm ht hs
  | transmitStart => exact execTransmitStart_queueForm ht hs
  | frameSent => exact execFrameSent_queueForm ht hs
  | arbitrationLost => exact execArbitrationLost_queueForm ht hs
  | sendCollision => exact execSendCollision_queueForm ht hs
  | frameReceived stamp bits => exact execFrameReceived_queueForm ht hs
  | receivedInError bits => exact execReceivedInError_queueForm ht hs
  | abortRunSeen => exact execAbortRunSeen_queueForm ht hs
  | lineIdle => exact execLineIdle_queueForm ht hs
  | ask | hold | drop => exact handedOn_queueForm rfl ht hs fun h u hu => State.takeClaim_queueForm hu h _
  | bayReset => exact handedOn_queueForm rfl ht hs fun h u hu => State.takeBayReset_queueForm hu h.frame
  | peerEntryExpiry address =>
    cases ht
    split
    · exact hs
    · split <;> exact hs
  | sampleSetArrival reported order =>
    obtain rfl | ⟨u, x, hu, rfl⟩ := execSampleSetArrival_offered ht
    · exact hs
    · exact State.headroomSet_queueForm (hu.queueForm hs) x
  | shed | openSlot | part | cancel | clear | fetch | status | tighten | clearFault =>
    exact handedOn_offered_queueForm rfl rfl ht hs
  | _ => exact (exec_offered rfl ht).queueForm hs

/-- Settles O22: every command keeps the form, and so does every step. -/
theorem queueFormKept : Obligations.QueueFormKept := fun _ _ hs ht =>
  step_keeps_form (P := State.queueForm) (fun _ _ h => h) (fun _ _ _ hs ht => exec_queueForm ht hs) hs ht

end Sys2Proof.Machine
end

section
/-!
PROOF. The silo within its eight frames and the peer view in address order with entries that R36 admits: what a CLAIM
heard, a frame heard and an expiry do to that form, and that every step keeps it (R30, R31, R36 to R40).
-/

namespace Sys2Proof.Machine

variable {s t : State}

/-! ### The view -/

/-- The view in the order of its addresses, with entries that R36 admits beside the own address. -/
def viewOf (own : Address) (peers : List Peer) : Prop :=
  peers.Pairwise (fun a b => a.address.toNat < b.address.toNat) ∧ ∀ p ∈ peers, p.form own

theorem viewOf.removePeer {own : Address} {peers : List Peer} (h : viewOf own peers) (a : Address) :
    viewOf own (removePeer a peers) :=
  ⟨h.1.sublist List.filter_sublist, fun p hp => h.2 p (List.mem_filter.mp hp).1⟩

theorem mem_putPeer {e p : Peer} {peers : List Peer} (h : p ∈ putPeer e peers) : p = e ∨ p ∈ peers := by
  induction peers with
  | nil => exact .inl (by simpa [putPeer] using h)
  | cons q rest ih =>
    unfold putPeer at h
    split at h
    · simpa using h
    · split at h
      · obtain rfl | h := List.mem_cons.mp h
        exacts [.inl rfl, .inr (.tail _ h)]
      · obtain rfl | h := List.mem_cons.mp h
        exacts [.inr (.head _), (ih h).imp id (.tail _)]

theorem putPeer_pairwise {e : Peer} {peers : List Peer}
    (h : peers.Pairwise (fun a b => a.address.toNat < b.address.toNat)) :
    (putPeer e peers).Pairwise (fun a b => a.address.toNat < b.address.toNat) := by
  induction peers with
  | nil => simp [putPeer]
  | cons q rest ih =>
    obtain ⟨hq, hrest⟩ := List.pairwise_cons.mp h
    unfold putPeer
    split
    case isTrue lower =>
      refine List.pairwise_cons.mpr ⟨fun p hp => ?_, h⟩
      obtain rfl | hp := List.mem_cons.mp hp
      exacts [lower, lower.trans (hq p hp)]
    case isFalse notLower =>
      split
      case isTrue same => exact List.pairwise_cons.mpr ⟨by rwa [show e.address = q.address by simpa using same], hrest⟩
      case isFalse other =>
        refine List.pairwise_cons.mpr ⟨fun p hp => ?_, ih hrest⟩
        obtain rfl | hp := mem_putPeer hp
        · have : p.address.toNat ≠ q.address.toNat := fun heq => other (by simpa using BitVec.eq_of_toNat_eq heq)
          omega
        · exact hq p hp

theorem viewOf.putPeer {own : Address} {peers : List Peer} (h : viewOf own peers) {e : Peer} (he : e.form own) :
    viewOf own (putPeer e peers) := by
  refine ⟨putPeer_pairwise h.1, fun p hp => ?_⟩
  obtain rfl | hp := mem_putPeer hp
  exacts [he, h.2 p hp]

/-! ### Claims heard (R37 to R39) -/

/-- A CLAIM that R30 admits comes from another bay. -/
theorem filterFrame_claim {own : Address} {f : Frame} (h : filterFrame own f = .enters) (hc : f.cls.toNat = 1) :
    f.source.toNat < Config.bayAddresses ∧ f.source ≠ own := by
  simpa [filterFrame, hc, isBay] using h

theorem takenPeriod_range (p : Nat) : 1 ≤ takenPeriod p ∧ takenPeriod p ≤ Config.refreshTop := by
  unfold takenPeriod
  split
  · decide
  · simp_all
    omega

/-- What the rules of the view make of a CLAIM's fields is an entry that R36 admits. -/
theorem peerOf_form {own : Address} {h : Heard} {state : PeerState} {held period : Nat}
    (source : h.frame.source.toNat < Config.bayAddresses ∧ h.frame.source ≠ own) (hh : held ≤ Config.claimTop)
    (amounts : (peerOf h state held period).amountsFit = true) (hp : 1 ≤ period ∧ period ≤ Config.refreshTop) :
    (peerOf h state held period).form own :=
  ⟨source.1, source.2, hh, amounts, hp.1, hp.2, rfl⟩

section

variable {own : Address} {peers : List Peer} {h : Heard} {held period : Nat} (view : viewOf own peers)
  (source : h.frame.source.toNat < Config.bayAddresses ∧ h.frame.source ≠ own) (hh : held ≤ Config.claimTop)
  (hp : 1 ≤ period ∧ period ≤ Config.refreshTop)
include view source hh hp

theorem viewOf.applyHold : viewOf own (applyHold h held period peers) := by
  unfold Machine.applyHold
  split
  case isTrue => exact view.removePeer _
  case isFalse holds =>
    have holds : held ≠ 0 := by simpa using holds
    exact view.putPeer (peerOf_form source hh (decide_eq_true (Nat.pos_of_ne_zero holds)) hp)

theorem viewOf.applyAsk {asked : Nat} (ha : asked ≤ Config.claimTop) :
    viewOf own (applyAsk h held asked period peers) := by
  unfold Machine.applyAsk
  split
  case isTrue => exact view.applyHold source hh hp
  case isFalse more =>
    refine view.putPeer (peerOf_form source hh ?_ hp)
    exact Bool.and_eq_true_iff.mpr ⟨decide_eq_true (Nat.lt_of_not_le more), decide_eq_true ha⟩

end

/-! ### The form of silo and view -/

/-- The silo within its places, with frames that R30 admits (R30, R31). -/
def siloOf (own : Address) (silo : List Heard) : Prop :=
  silo.length ≤ Config.siloPlaces ∧ ∀ h ∈ silo, filterFrame own h.frame = .enters

theorem State.viewForm_iff (s : State) :
    s.viewForm ↔ (siloOf s.address s.line.silo ∧ (s.station.connected = false → s.line.silo = [])) ∧
      viewOf s.address s.headroom.peers ∧ (s.station.builds = false → s.headroom.peers = []) := by
  unfold siloOf viewOf
  tauto

theorem State.viewForm_of_same (hs : s.viewForm) (silo : t.line.silo = s.line.silo) (startup : t.startup = s.startup)
    (peers : t.headroom.peers = s.headroom.peers) : t.viewForm := by
  simpa only [State.viewForm, State.station, State.address, silo, startup, peers] using hs

theorem State.viewForm_of_empty (silo : s.line.silo = []) (peers : s.headroom.peers = []) : s.viewForm := by
  simp [State.viewForm, silo, peers]

theorem State.offered.viewForm (h : s.offered t) (hs : s.viewForm) : t.viewForm := by
  obtain ⟨startup, peers, silo, _⟩ := h.frame
  exact State.viewForm_of_same hs silo startup peers

/-- Another silo, in a part that is connected to the line. -/
theorem State.viewForm_of_silo (hs : s.viewForm) (hc : s.station.connected = true)
    (silo : siloOf s.address t.line.silo) (startup : t.startup = s.startup)
    (peers : t.headroom.peers = s.headroom.peers) : t.viewForm := by
  obtain ⟨_, view, apart⟩ := s.viewForm_iff.mp hs
  have address : t.address = s.address := by rw [State.address, startup, State.address]
  have station : t.station = s.station := by rw [State.station, startup, State.station]
  refine t.viewForm_iff.mpr ⟨⟨address ▸ silo, fun h => ?_⟩, ?_⟩
  · simp [station, hc] at h
  · rw [address, station, peers]
    exact ⟨view, apart⟩

/-- Another view, in a part that takes CLAIM frames. -/
theorem State.viewForm_of_view (hs : s.viewForm) (hb : s.station.builds = true) {peers : List Peer}
    (view : viewOf s.address peers) : (s.setHeadroom { s.headroom with peers := peers }).viewForm := by
  obtain ⟨silo, _⟩ := s.viewForm_iff.mp hs
  exact (State.viewForm_iff _).mpr ⟨silo, view, fun h => by simp [hb] at h⟩

/-- Nothing is heard before the part is on the line, and no view stands (R34, R36). -/
theorem State.viewForm.empty (hs : s.viewForm) (hc : s.station.connected = false) :
    s.line.silo = [] ∧ s.headroom.peers = [] := by
  obtain ⟨⟨_, silo⟩, _, peers⟩ := s.viewForm_iff.mp hs
  refine ⟨silo hc, peers ?_⟩
  revert hc
  cases s.station <;> simp [StationState.connected, StationState.builds]

/-! ### Frames handed on -/

/-- The oldest frame has left the silo; it was one that R30 admits (R32). -/
theorem State.handOn_viewForm {u : State} {h : Heard} {cls kind : Nat} (hh : s.handOn cls kind = some (h, u))
    (hs : s.viewForm) : u.viewForm ∧ filterFrame u.address h.frame = .enters ∧ h.frame.cls.toNat = cls := by
  obtain ⟨rest, ⟨connected, silo, hcls, _⟩, rfl⟩ := State.handOn_taking hh
  obtain ⟨⟨⟨length, admitted⟩, _⟩, _⟩ := s.viewForm_iff.mp hs
  rw [silo] at length admitted
  refine ⟨State.viewForm_of_silo hs connected ⟨?_, fun x hx => admitted x (.tail _ ?_)⟩ rfl rfl,
    admitted h (.head _), hcls⟩
  · exact (Nat.le_succ _).trans length
  · exact hx

theorem State.takeClaim_viewForm (hs : s.viewForm) (h : Heard)
    {apply : Nat × Nat × Nat → List Peer → List Peer}
    (applied : ∀ f peers, f.1 ≤ Config.claimTop → f.2.1 ≤ Config.claimTop →
      1 ≤ f.2.2 ∧ f.2.2 ≤ Config.refreshTop → viewOf s.address peers → viewOf s.address (apply f peers)) :
    (s.takeClaim h apply).viewForm := by
  unfold State.takeClaim
  split
  case isTrue hb =>
    split
    · obtain ⟨_, view, _⟩ := s.viewForm_iff.mp hs
      exact State.viewForm_of_view hs hb
        (applied _ _ (Nat.min_le_right _ _) (Nat.min_le_right _ _) (takenPeriod_range _) view)
    · exact (State.offered.refl.markSuspect).viewForm hs
  case isFalse => exact hs

/-- A command of the silo keeps the form where what it makes of its frame does (R32). -/
theorem handedOn_viewForm {c : Instr} {cls kind : Nat} {take : Heard → State → State}
    (hc : takesFrame c = some (cls, kind, take)) (ht : exec c s = .next t) (hs : s.viewForm)
    (hk : ∀ h u, State.viewForm u → filterFrame u.address h.frame = .enters → h.frame.cls.toNat = cls →
      (take h u).viewForm) : t.viewForm := by
  obtain rfl | ⟨h, u, hh, rfl⟩ := exec_takesFrame hc ht
  · exact hs
  · obtain ⟨form, enters, hcls⟩ := State.handOn_viewForm hh hs
    exact hk h u form enters hcls

theorem handedOn_offered_viewForm {c : Instr} {cls kind : Nat} {take : Heard → State → State}
    (ho : offersFor c = true) (hc : takesFrame c = some (cls, kind, take)) (ht : exec c s = .next t)
    (hs : s.viewForm) : t.viewForm :=
  handedOn_viewForm hc ht hs fun h u hu _ _ => (takesFrame_offered ho hc h u).viewForm hu

theorem State.takeBayReset_viewForm (hs : s.viewForm) (f : Frame) : (s.takeBayReset f).viewForm := by
  unfold State.takeBayReset
  split
  · exact (State.offered.refl.refuse _ _ _ _).viewForm hs
  · exact (State.offered.refl.resetEngine).viewForm (State.viewForm_of_same hs (by simp [State.markReset]) rfl rfl)

/-! ### The bay line -/

theorem execTransmitStart_viewForm (ht : execTransmitStart s = .next t) (hs : s.viewForm) : t.viewForm := by
  cases ht
  split
  · split <;> exact hs
  · exact hs

theorem State.reportCompleted_viewForm (hs : s.viewForm) (e : Entry) (order : Word) :
    (s.reportCompleted e order).viewForm := by
  unfold State.reportCompleted
  dsimp only
  split
  · refine State.viewForm_of_same ((State.offered.refl.claimCompleted _ _ _).viewForm hs) ?_ rfl rfl
    exact (Line.admitWaiting_frame _).2.2.1
  · split
    · exact (State.offered.refl.ownShed _ _).viewForm hs
    · exact (State.offered.refl.setSlotTable _).viewForm hs

theorem execFrameSent_viewForm (ht : execFrameSent s = .next t) (hs : s.viewForm) : t.viewForm := by
  obtain ⟨_, rfl⟩ | ⟨start, e, _, rfl⟩ := execFrameSent_cases ht
  · exact hs
  · have sent : (s.setLine (s.line.completed e)).viewForm := State.viewForm_of_same hs (by simp) rfl rfl
    exact State.reportCompleted_viewForm sent _ _

theorem execArbitrationLost_viewForm (ht : execArbitrationLost s = .next t) (hs : s.viewForm) : t.viewForm := by
  cases ht
  split
  · exact hs
  · exact (State.reportFailed_offered _ _).viewForm (State.viewForm_of_same hs (by simp) rfl rfl)

theorem State.silence_viewForm (s : State) : s.silence.viewForm :=
  s.silence_offered.viewForm (State.viewForm_of_empty rfl rfl)

theorem execSendCollision_viewForm (ht : execSendCollision s = .next t) (hs : s.viewForm) : t.viewForm := by
  cases ht
  split
  · exact hs
  · dsimp only
    split
    · exact State.silence_viewForm _
    · exact (State.reportFailed_offered _ _).viewForm (State.viewForm_of_same hs (by simp) rfl rfl)

/-- A valid frame heard enters a silo with room, or leaves the silo as it is (R30, R31). -/
theorem State.hearFrame_viewForm (hs : s.viewForm) (hc : s.station.connected = true) (f : Frame) (stamp : Word) :
    (s.hearFrame f stamp).viewForm := by
  obtain ⟨⟨⟨length, admitted⟩, _⟩, _⟩ := s.viewForm_iff.mp hs
  unfold State.hearFrame State.siloFrame Line.intoSilo
  dsimp only
  split
  case h_1 enters =>
    split
    case isTrue room =>
      refine State.viewForm_of_silo hs hc ⟨?_, fun h hh => ?_⟩ rfl rfl
      · simpa using room
      · obtain hh | rfl : h ∈ s.line.silo ∨ h = _ := by simpa using hh
        exacts [admitted h hh, enters]
    case isFalse => exact (State.offered.refl.markSuspect).viewForm (State.viewForm_of_same hs (by simp) rfl rfl)
  case h_2 | h_3 => exact State.viewForm_of_same hs (by simp) rfl rfl

theorem execFrameReceived_viewForm {stamp : Word} {bits : List Bool} (ht : execFrameReceived stamp bits s = .next t)
    (hs : s.viewForm) : t.viewForm := by
  obtain ⟨rfl, _⟩ | ⟨start, f, hh, _, rfl⟩ := execFrameReceived_cases ht
  · exact hs
  · exact State.hearFrame_viewForm hs (State.hearing_some hh).1 _ _

theorem execReceivedInError_viewForm {bits : List Bool} (ht : execReceivedInError bits s = .next t)
    (hs : s.viewForm) : t.viewForm := by
  cases ht
  split
  · exact hs
  · split
    · exact (State.offered.refl.markSuspect).viewForm (State.viewForm_of_same hs rfl rfl rfl)
    · exact hs

/-! ### Every command -/

theorem execPeerEntryExpiry_viewForm {a : Address} (ht : execPeerEntryExpiry a s = .next t) (hs : s.viewForm) :
    t.viewForm := by
  cases ht
  split
  case h_1 => exact hs
  case h_2 =>
    split
    case isTrue h =>
      obtain ⟨silo, view, _⟩ := s.viewForm_iff.mp hs
      have hb : s.station.builds = true := by simp_all
      exact (State.viewForm_iff _).mpr ⟨silo, view.removePeer a, fun h => by simp [hb] at h⟩
    case isFalse => exact hs

theorem execSampleSetArrival_viewForm {r : ReportedSet} {order : SetOrder}
    (ht : execSampleSetArrival r order s = .next t) (hs : s.viewForm) : t.viewForm := by
  obtain rfl | ⟨u, x, hu, rfl⟩ := execSampleSetArrival_offered ht
  · exact hs
  · exact State.viewForm_of_same (hu.viewForm hs) (by simp) (by simp) (by simp)

theorem execJoinTimerExpiry_viewForm (ht : execJoinTimerExpiry s = .next t) (hs : s.viewForm) : t.viewForm := by
  obtain rfl | ⟨_, rfl⟩ := execJoinTimerExpiry_cases ht
  · exact hs
  · refine (State.offered.refl.examineStart).viewForm ?_
    obtain ⟨⟨silo, _⟩, view, _⟩ := s.viewForm_iff.mp hs
    exact (State.viewForm_iff _).mpr ⟨⟨silo, nofun⟩, view, nofun⟩

theorem exec_viewForm {c : Instr} (ht : exec c s = .next t) (hs : s.viewForm) : t.viewForm := by
  have unread (hr : s.readingConfig = true) := hs.empty (State.apart_of_readingConfig hr)
  cases c with
  | powerReset straps =>
    refine (execPowerReset_offered ht).viewForm (State.viewForm_of_empty ?_ ?_) <;>
      unfold State.strapped State.takeStraps <;> split <;> rfl
  | configReadComplete record =>
    obtain rfl | ⟨hr, rfl | rfl | rfl⟩ := execConfigReadComplete_cases ht
    · exact hs
    all_goals exact State.viewForm_of_empty (unread hr).1 (unread hr).2
  | configReadNotAcknowledged =>
    obtain rfl | ⟨hr, rfl⟩ := execConfigReadNotAcknowledged_cases ht
    exacts [hs, State.viewForm_of_empty (unread hr).1 (unread hr).2]
  | configReadTimeout =>
    obtain rfl | ⟨hr, rfl⟩ := execConfigReadTimeout_cases ht
    exacts [hs, State.viewForm_of_empty (unread hr).1 (unread hr).2]
  | loopedFrameReceived bits =>
    obtain rfl | ⟨hl, ht⟩ := execLoopedFrameReceived_cases ht
    · exact hs
    · obtain ⟨silo, peers⟩ := hs.empty (by rw [hl]; rfl)
      obtain rfl | rfl := ht
      exacts [State.viewForm_of_empty silo peers, State.viewForm_of_empty rfl peers]
  | selfLoopTimeout =>
    obtain rfl | ⟨hl, rfl⟩ := execSelfLoopTimeout_cases ht
    exacts [hs, State.viewForm_of_empty rfl (hs.empty (by rw [hl]; rfl)).2]
  | joinTimerExpiry => exact execJoinTimerExpiry_viewForm ht hs
  | transmitStart => exact execTransmitStart_viewForm ht hs
  | frameSent => exact execFrameSent_viewForm ht hs
  | arbitrationLost => exact execArbitrationLost_viewForm ht hs
  | sendCollision => exact execSendCollision_viewForm ht hs
  | frameReceived stamp bits => exact execFrameReceived_viewForm ht hs
  | receivedInError bits => exact execReceivedInError_viewForm ht hs
  | abortRunSeen => cases ht; split <;> exact hs
  | lineIdle => cases ht; split <;> exact hs
  | ask =>
    exact handedOn_viewForm rfl ht hs fun h u hu enters hcls => State.takeClaim_viewForm hu h
      fun f peers held asked period view => view.applyAsk (filterFrame_claim enters hcls) held period asked
  | hold | drop =>
    exact handedOn_viewForm rfl ht hs fun h u hu enters hcls => State.takeClaim_viewForm hu h
      fun f peers held _ period view => view.applyHold (filterFrame_claim enters hcls) held period
  | bayReset => exact handedOn_viewForm rfl ht hs fun h u hu _ _ => State.takeBayReset_viewForm hu h.frame
  | peerEntryExpiry address => exact execPeerEntryExpiry_viewForm ht hs
  | sampleSetArrival reported order => exact execSampleSetArrival_viewForm ht hs
  | shed | openSlot | part | cancel | clear | fetch | status | tighten | clearFault =>
    exact handedOn_offered_viewForm rfl rfl ht hs
  | _ => exact (exec_offered rfl ht).viewForm hs

/-- Settles O26: every command keeps the form, and so does every step. -/
theorem viewFormKept : Obligations.ViewFormKept := fun _ _ hs ht =>
  step_keeps_form (P := State.viewForm) (fun _ _ h => h) (fun _ _ _ hs ht => exec_viewForm ht hs) hs ht

end Sys2Proof.Machine
end

section
/-!
PROOF. The frame on the line (R14, R15, R87 to R89): what a receiver unstuffs from stuffed bits, whole, broken off or
followed by a run of equal bits, and what it reads from the contents of a frame.
-/

namespace Sys2Proof.Machine

/-! ### Stuffing, bit by bit (R88) -/

/-- The length of the run that a bit ends, after a run of `run` bits equal to `last`. -/
def runAfter (last : Bool) (run : Nat) (b : Bool) : Nat := if b == last then run + 1 else 1

theorem runAfter_pos (last : Bool) (run : Nat) (b : Bool) : 1 ≤ runAfter last run b := by
  unfold runAfter; split <;> omega

theorem runAfter_le {last : Bool} {run : Nat} (h : run < Config.stuffRun) (b : Bool) :
    runAfter last run b ≤ Config.stuffRun := by
  unfold runAfter
  split
  · exact h
  · decide

section

variable {last : Bool} {run : Nat} {b : Bool}

theorem stuff_cons (rest : List Bool) : stuff last run (b :: rest) =
    if runAfter last run b == Config.stuffRun && !rest.isEmpty then b :: (!b) :: stuff (!b) 1 rest
    else b :: stuff b (runAfter last run b) rest := rfl

theorem unstuff_cons (c : Bool) (rest : List Bool) : unstuff last run (b :: c :: rest) =
    if runAfter last run b == Config.stuffRun then
      if c == b then (if b then .ninthRecessive else .ninthDominant) else (unstuff c 1 rest).cons b
    else (unstuff b (runAfter last run b) (c :: rest)).cons b := rfl

theorem stuff_short (h : runAfter last run b ≠ Config.stuffRun) (rest : List Bool) :
    stuff last run (b :: rest) = b :: stuff b (runAfter last run b) rest := by
  simp [stuff_cons, h]

theorem stuff_full (h : runAfter last run b = Config.stuffRun) {rest : List Bool} (hr : rest ≠ []) :
    stuff last run (b :: rest) = b :: (!b) :: stuff (!b) 1 rest := by
  simp [stuff_cons, h, hr]

theorem stuff_single : stuff last run [b] = [b] := by simp [stuff]

theorem unstuff_short (h : runAfter last run b ≠ Config.stuffRun) (rest : List Bool) :
    unstuff last run (b :: rest) = (unstuff b (runAfter last run b) rest).cons b := by
  cases rest with
  | nil => rfl
  | cons c rest => simp [unstuff_cons, h]

theorem unstuff_full (h : runAfter last run b = Config.stuffRun) (rest : List Bool) :
    unstuff last run (b :: (!b) :: rest) = (unstuff (!b) 1 rest).cons b := by
  simp [unstuff_cons, h]

/-- What a ninth equal bit makes of the frame (R88). -/
def ninth (b : Bool) : Unstuffed := if b then .ninthRecessive else .ninthDominant

theorem unstuff_ninth (h : runAfter last run b = Config.stuffRun) (rest : List Bool) :
    unstuff last run (b :: b :: rest) = ninth b := by
  simp [unstuff_cons, h, ninth]

@[simp] theorem ninth_cons (b c : Bool) : (ninth b).cons c = ninth b := by cases b <;> rfl

/-- A receiver removes the stuff bits that a sender puts in. -/
theorem unstuff_stuff {bits : List Bool} (hr : run < Config.stuffRun) :
    unstuff last run (stuff last run bits) = .read bits := by
  induction bits using List.rec generalizing last run with
  | nil => simp [stuff, unstuff]
  | cons b rest ih =>
    by_cases short : runAfter last run b = Config.stuffRun
    · by_cases single : rest = []
      · subst single
        rw [stuff_single, unstuff]
      · rw [stuff_full short single, unstuff_full short, ih (by decide)]
        rfl
    · rw [stuff_short short, unstuff_short short, ih (lt_of_le_of_ne (runAfter_le hr b) short)]
      rfl

/-- Stuffed bits broken off before their end are a part of the bits, broken off before their end. -/
theorem unstuff_take_stuff {bits : List Bool} (hr : run < Config.stuffRun) {n : Nat}
    (hn : n < (stuff last run bits).length) :
    ∃ m < bits.length, unstuff last run ((stuff last run bits).take n) = .read (bits.take m) ∧ (0 < n → 0 < m) := by
  induction bits generalizing last run n with
  | nil => simp [stuff] at hn
  | cons b rest ih =>
    cases n with
    | zero => exact ⟨0, by simp, by simp [unstuff], id⟩
    | succ n =>
      by_cases short : runAfter last run b = Config.stuffRun
      · by_cases single : rest = []
        · subst single
          simp [stuff_single] at hn
        · rw [stuff_full short single] at hn ⊢
          cases n with
          | zero => exact ⟨1, by simpa [List.length_pos_iff] using single, by simp [unstuff], fun _ => Nat.one_pos⟩
          | succ n =>
            obtain ⟨m, hm, hu, _⟩ := ih (last := !b) (run := 1) (by decide) (by simpa using hn)
            refine ⟨m + 1, by simpa using hm, ?_, fun _ => Nat.succ_pos _⟩
            rw [List.take_succ_cons, List.take_succ_cons, unstuff_full short, hu]
            rfl
      · rw [stuff_short short] at hn ⊢
        obtain ⟨m, hm, hu, _⟩ := ih (lt_of_le_of_ne (runAfter_le hr b) short) (by simpa using hn)
        refine ⟨m + 1, by simpa using hm, ?_, fun _ => Nat.succ_pos _⟩
        rw [List.take_succ_cons, unstuff_short short, hu]
        rfl

/-- A run of equal bits that reaches nine, with those received before it, shows as its ninth bit. -/
theorem unstuff_run (hr : run < Config.stuffRun) {k : Nat} (hk : 9 ≤ runAfter last run b + k) (after : List Bool) :
    unstuff last run (List.replicate (k + 1) b ++ after) = ninth b := by
  induction k generalizing last run with
  | zero =>
    have := runAfter_le hr b (last := last)
    simp only [Config.stuffRun] at this
    omega
  | succ k ih =>
    by_cases full : runAfter last run b = Config.stuffRun
    · exact unstuff_ninth full _
    · rw [List.replicate_succ, List.cons_append, unstuff_short full]
      rw [ih (lt_of_le_of_ne (runAfter_le hr b) full) (by simp [runAfter] at *; omega), ninth_cons]

/-- A bit in a stuff bit's place begins a run of its own, or is the ninth of the run before it. -/
theorem unstuff_full_run (h : runAfter last run b = Config.stuffRun) (c : Bool) {k : Nat} (hk : 9 ≤ k)
    (after : List Bool) : unstuff last run (b :: (List.replicate k c ++ after)) = ninth c := by
  obtain ⟨k, rfl⟩ := Nat.exists_eq_add_of_le' (Nat.one_le_of_lt hk)
  rw [List.replicate_succ, List.cons_append]
  obtain rfl | rfl : c = b ∨ c = !b := by cases b <;> cases c <;> simp
  · exact unstuff_ninth h _
  · obtain ⟨j, rfl⟩ := Nat.exists_eq_add_of_le' (show 1 ≤ k by omega)
    rw [unstuff_full h, unstuff_run (by decide) (by simp [runAfter]; omega), ninth_cons]

/-- Nine equal bits after any part of stuffed bits show as a ninth bit. -/
theorem unstuff_take_stuff_run {bits : List Bool} (hr : run < Config.stuffRun) (m : Nat) (c : Bool) {k : Nat}
    (hk : 9 ≤ k) (after : List Bool) :
    unstuff last run ((stuff last run bits).take m ++ (List.replicate k c ++ after)) = ninth c := by
  have start {last : Bool} {run : Nat} (hr : run < Config.stuffRun) :
      unstuff last run (List.replicate k c ++ after) = ninth c := by
    obtain ⟨j, rfl⟩ := Nat.exists_eq_add_of_le' (Nat.one_le_of_lt hk)
    exact unstuff_run hr (by have := runAfter_pos last run c; omega) after
  induction bits generalizing last run m with
  | nil => simpa [stuff] using start hr
  | cons b rest ih =>
    cases m with
    | zero => simpa using start hr
    | succ m =>
      by_cases full : runAfter last run b = Config.stuffRun
      · by_cases single : rest = []
        · subst single
          simpa [stuff_single] using unstuff_full_run full c hk after
        · rw [stuff_full full single]
          cases m with
          | zero => simpa using unstuff_full_run full c hk after
          | succ m =>
            rw [List.take_succ_cons, List.take_succ_cons, List.cons_append, List.cons_append, unstuff_full full,
              ih (by decide), ninth_cons]
      · rw [stuff_short full, List.take_succ_cons, List.cons_append, unstuff_short full,
          ih (lt_of_le_of_ne (runAfter_le hr b) full), ninth_cons]

end

/-! ### Fields of the contents (R87) -/

@[simp] theorem fieldBits_length (n v : Nat) : (fieldBits n v).length = n := by
  induction n with
  | zero => rfl
  | succ n ih => simp [fieldBits, ih]

/-- The bits of a field spell the value's low bits, after whatever was spelled before them. -/
theorem foldl_fieldBits (n v start : Nat) :
    (fieldBits n v).foldl (fun v b => 2 * v + b.toNat) start = start * 2 ^ n + v % 2 ^ n := by
  induction n generalizing start with
  | zero => simp [fieldBits, Nat.mod_one]
  | succ n ih =>
    rw [fieldBits, List.foldl_cons, ih, Nat.mod_pow_succ, Nat.toNat_testBit]
    ring

theorem bitsValue_fieldBits (n v : Nat) : bitsValue (fieldBits n v) = v % 2 ^ n := by
  simp [bitsValue, foldl_fieldBits]

theorem ofNat_bitsValue_fieldBits {w : Nat} (v : BitVec w) : BitVec.ofNat w (bitsValue (fieldBits w v.toNat)) = v := by
  rw [bitsValue_fieldBits, Nat.mod_eq_of_lt v.isLt, BitVec.ofNat_toNat, BitVec.setWidth_eq]

theorem drop_fieldBits {n i : Nat} (h : n ≤ i) (v : Nat) (rest : List Bool) :
    (fieldBits n v ++ rest).drop i = rest.drop (i - n) := by
  rw [List.drop_append, List.drop_eq_nil_of_le (by simpa using h), fieldBits_length, List.nil_append]

theorem contentField_here (w v : Nat) (rest : List Bool) :
    contentField (fieldBits w v ++ rest) 0 w = bitsValue (fieldBits w v) := by
  simp [contentField]

theorem contentField_skip {n i : Nat} (h : n ≤ i) (v w : Nat) (rest : List Bool) :
    contentField (fieldBits n v ++ rest) i w = contentField rest (i - n) w := by
  rw [contentField, drop_fieldBits h, contentField]

/-- A field is read from the bits up to its end. -/
theorem contentField_take {i w k : Nat} (h : i + w ≤ k) (bits : List Bool) :
    contentField (bits.take k) i w = contentField bits i w := by
  simp only [contentField, List.drop_take, List.take_take]
  rw [Nat.min_eq_left (by omega)]

@[simp] theorem bytesBits_length (bytes : List Byte) : (bytesBits bytes).length = 8 * bytes.length := by
  induction bytes with
  | nil => rfl
  | cons b rest ih => simp only [bytesBits, List.flatMap_cons, List.length_append] at *; simp [ih]; omega

theorem bitsBytes_bytesBits (bytes : List Byte) (rest : List Bool) :
    bitsBytes bytes.length (bytesBits bytes ++ rest) = bytes := by
  induction bytes with
  | nil => rfl
  | cons b bytes ih =>
    have split : bytesBits (b :: bytes) ++ rest = fieldBits 8 b.toNat ++ (bytesBits bytes ++ rest) := by
      simp [bytesBits]
    rw [split, List.length_cons, bitsBytes, List.take_left' (by simp), List.drop_left' (by simp), ih,
      ofNat_bitsValue_fieldBits]

/-! ### The contents of a frame (R14, R87) -/

@[simp] theorem Frame.contents_length (f : Frame) : f.contents.length = 26 + 8 * f.payload.length := by
  simp [Frame.contents]
  omega

section

variable {f : Frame} (rest : List Bool)

theorem Frame.contents_len (h : f.payload.length ≤ 15) : contentField (f.contents ++ rest) 22 4 = f.payload.length := by
  simp [Frame.contents, contentField_skip, contentField_here, bitsValue_fieldBits]
  omega

/-- The contents of a frame are read as that frame. -/
theorem frameOfContents_contents : frameOfContents f.payload.length f.contents = f := by
  have bytes : f.contents.drop 26 = bytesBits f.payload ++ [] := by
    simp [Frame.contents, drop_fieldBits]
  unfold frameOfContents
  rw [bytes, bitsBytes_bytesBits]
  simp [Frame.contents, contentField_skip, contentField_here, ofNat_bitsValue_fieldBits]

/-- What is read from a frame's contents with check bits of any value (R14, R15, R29). -/
theorem readContents_contents (check : Half) (h : f.payload.length ≤ 15) :
    readContents (f.contents ++ fieldBits 16 check.toNat) =
      if f.valid = true ∧ check = checkSequence f.contents then .valid f else .inError := by
  have length : (f.contents ++ fieldBits 16 check.toNat).length = 26 + 8 * f.payload.length + 16 := by simp
  have spelled : contentField (f.contents ++ fieldBits 16 check.toNat) (26 + 8 * f.payload.length) 16 = check.toNat := by
    rw [contentField, List.drop_left' (by simp), List.take_of_length_le (by simp), bitsValue_fieldBits]
    exact Nat.mod_eq_of_lt check.isLt
  unfold readContents
  simp only [Frame.contents_len _ h, length, spelled, List.take_left' f.contents_length, frameOfContents_contents]
  rw [if_neg (by omega)]
  by_cases long : Config.maxPayload < f.payload.length
  · have invalid : f.valid = false := by simp [Frame.valid, Nat.not_le.mpr long]
    simp [long, invalid]
  · rw [if_neg long, if_neg (Nat.lt_irrefl _), if_neg (Nat.lt_irrefl _)]
    have valid : f.valid = f.admitted := by simp [Frame.valid, Nat.not_lt.mp long]
    have agrees : (checkSequence f.contents == BitVec.ofNat 16 check.toNat && f.admitted) = true ↔
        f.valid = true ∧ check = checkSequence f.contents := by
      rw [valid, BitVec.ofNat_toNat, BitVec.setWidth_eq, Bool.and_eq_true, beq_iff_eq, and_comm,
        eq_comm (a := checkSequence f.contents)]
    exact if_congr agrees rfl rfl

/-- Contents broken off before the last check bit are incomplete, where the length field allows no error (R14, R29). -/
theorem readContents_broken (h : f.payload.length ≤ Config.maxPayload) (check : Half) {m : Nat}
    (hm : m < f.contents.length + 16) :
    readContents ((f.contents ++ fieldBits 16 check.toNat).take m) = .incomplete := by
  have length : ((f.contents ++ fieldBits 16 check.toNat).take m).length = m := by simp at hm ⊢; omega
  unfold readContents
  rw [length]
  by_cases short : m < 26
  · rw [if_pos short]
  · have len : contentField ((f.contents ++ fieldBits 16 check.toNat).take m) 22 4 = f.payload.length := by
      rw [contentField_take (by omega), Frame.contents_len _ (h.trans (by decide))]
    rw [if_neg short]
    dsimp only
    rw [len, if_neg (Nat.not_lt.mpr h), if_pos (by simpa using hm)]

end

/-! ### The obligations -/

/-- A frame's bits with check bits of any value, from start bit to last check bit. -/
def Frame.codedWith (f : Frame) (check : Half) : List Bool :=
  stuff true 0 (false :: (f.contents ++ fieldBits 16 check.toNat))

theorem Frame.coded_eq (f : Frame) : f.coded = f.codedWith (checkSequence f.contents) := rfl

theorem readBits_codedWith {f : Frame} (h : f.payload.length ≤ 15) (check : Half) :
    readBits (f.codedWith check) =
      if f.valid = true ∧ check = checkSequence f.contents then .valid f else .inError := by
  rw [readBits, Frame.codedWith, unstuff_stuff (by decide)]
  exact readContents_contents check h

/-- Settles O11: stuff bits are taken out again, and the contents are read field by field. -/
theorem codedFrameReadsBack : Obligations.CodedFrameReadsBack := by
  intro f h
  simpa [Frame.coded_eq] using readBits_codedWith h (checkSequence f.contents)

/-- Nine equal bits after any part of a coded frame show as a ninth bit (R88). -/
theorem unstuff_coded_run (f : Frame) (m : Nat) (b : Bool) {k : Nat} (hk : 9 ≤ k) (after : List Bool) :
    unstuff true 0 (f.coded.take m ++ (List.replicate k b ++ after)) = ninth b :=
  unstuff_take_stuff_run (by decide) m b hk after

theorem Frame.coded_no_run (f : Frame) (b : Bool) (before after : List Bool) :
    f.coded ≠ before ++ List.replicate 9 b ++ after := by
  intro h
  have whole : unstuff true 0 f.coded = .read f.unstuffed := unstuff_stuff (by decide)
  have run := unstuff_coded_run f before.length b (Nat.le_refl 9) after
  rw [h, List.append_assoc, List.take_left, ← List.append_assoc, ← h, whole] at run
  cases b <;> cases run

theorem Frame.coded_broken {f : Frame} (h : f.payload.length ≤ Config.maxPayload) {n : Nat} (h0 : 0 < n)
    (hn : n < f.coded.length) : readBits (f.coded.take n) = .incomplete := by
  obtain ⟨m, hm, hu, hpos⟩ := unstuff_take_stuff (by decide) hn
  obtain ⟨m, rfl⟩ := Nat.exists_eq_add_of_le' (hpos h0)
  have broken := readContents_broken h (checkSequence f.contents) (m := m) (by simp [Frame.unstuffed] at hm ⊢; omega)
  rw [readBits, Frame.coded, hu, Frame.unstuffed, List.take_succ_cons]
  exact broken

/-- Settles O12: a run of nine, a frame broken off, and check bits that disagree. -/
theorem codedFramesAndDamage : Obligations.CodedFramesAndDamage := by
  intro f h
  refine ⟨f.coded_no_run, fun n => Frame.coded_broken h, fun check hc => ?_⟩
  have read := readBits_codedWith (h.trans (by decide)) check
  rwa [if_neg fun both => hc both.2] at read

/-- Nine dominant bits from the start bit on, or after any part of a frame, are an abort run (R21, R88). -/
theorem readBits_dominant_run {n : Nat} (hn : 8 < n) (f : Frame) (m : Nat) (after : List Bool) :
    readBits (f.coded.take m ++ List.replicate n false ++ after) = .abortRun := by
  rw [readBits, List.append_assoc, unstuff_coded_run f m false hn]
  rfl

/-- Bits of an abort run complete no frame and are none received in error (log 9). -/
theorem abortRun_changesNothing (s : State) (stamp : Word) {bits : List Bool} (h : readBits bits = .abortRun) :
    exec (.frameReceived stamp bits) s = .next s ∧ exec (.receivedInError bits) s = .next s := by
  constructor
  · show Host.Outcome.next _ = _
    rw [h]
    split <;> simp_all
  · show Host.Outcome.next _ = _
    rw [h]
    split <;> rfl

/-- A part that may hear a frame also hears that one goes wrong, whatever its stamp. -/
theorem State.hears.hearing_isSome {s : State} {stamp start : Word} (h : s.hears stamp start) :
    ∃ x, s.hearing 0 = some x := by
  obtain ⟨hc, ⟨hj, _⟩ | hj⟩ := h <;> simp [State.hearing, hc, hj]

/-- Settles O20: the run is read as an abort run, and only ABORT_RUN_SEEN acts on it. -/
theorem abortRunDiscards : Obligations.AbortRunDiscards := by
  intro s stamp start h
  obtain ⟨x, hx⟩ := State.hears.hearing_isSome h
  refine ⟨?_, fun bits hb => ?_⟩
  · show Host.Outcome.next _ = _
    rw [hx]
    rfl
  · have run : readBits bits = .abortRun := by
      obtain ⟨n, after, hn, rfl⟩ | ⟨f, m, n, after, _, hn, _, rfl⟩ := hb
      · exact readBits_dominant_run hn (testFrame 0) 0 after
      · exact readBits_dominant_run hn f m after
    exact ⟨run, abortRun_changesNothing s stamp run⟩

end Sys2Proof.Machine
end

section
/-!
PROOF. The part's own frames and the frames it hears: the head of the queue sent, completed, lost or in collision (R18 to
R28), CLAIM frames offered (R25, R44), and what is heard filtered, counted or discarded (R29 to R31).
-/

namespace Sys2Proof.Machine

variable {s : State}

/-- Settles O13: the one branch of TRANSMIT_START that acts. -/
theorem transmitStartSendsHead : Obligations.TransmitStartSendsHead := by
  intro s e rest connected idle queue
  show Host.Outcome.next _ = _
  rw [idle, queue]
  dsimp only
  rw [if_pos connected]
  rfl

/-! ### An own frame completed -/

theorem execFrameSent_of_onLineWith {start : Word} {e : Entry} (h : s.onLineWith start e) :
    exec .frameSent s = .next ((s.setLine (s.line.afterOwn e)).reportCompleted e (s.line.order + 1)) := by
  show Host.Outcome.next _ = _
  rw [Line.attempt_of_onLineWith h, ← Line.completed_eq_afterOwn]

/-- A report that hits a lock releases it (R83). -/
theorem Slot.release_locked (hits : Nat → Bool) (h : SlotHead) (w : Work) (r : ResultRecord) (first : Nat) :
    (Slot.done h w r (some first)).release hits = .done h w r (if hits first = true then none else some first) := by
  simp only [Slot.release]
  split <;> rfl

theorem Slot.release_unlocked (hits : Nat → Bool) (h : SlotHead) (w : Work) (r : ResultRecord) :
    (Slot.done h w r none).release hits = .done h w r none := rfl

theorem SlotTable.released_slot (t : SlotTable) (hits : Nat → Bool) (n : Fin 8) :
    (t.slots.map (Slot.release hits))[n] = (t.slot n).release hits := by
  rw [Fin.getElem_fin, Vector.getElem_map]; rfl

theorem Entry.isReply_classes {e : Entry} (h : e.isReply = true) : e.isClaim = false ∧ e.isShed = false := by
  have hc : e.frame.cls = 3 := by simpa [Entry.isReply] using h
  simp [Entry.isClaim, Entry.isShed, hc]

/-- Settles O14: the report of a REPLY releases locks, and nothing else follows its completion. -/
theorem ownReplyCompletes : Obligations.OwnReplyCompletes := by
  intro s start e h reply
  obtain ⟨claim, shed⟩ := Entry.isReply_classes reply
  refine ⟨s.slotTable.slots.map (Slot.release fun first => e.entryOrder == first + 3), ?_, fun n => ?_⟩
  · rw [execFrameSent_of_onLineWith h]
    simp only [State.reportCompleted, claim, shed]
    rfl
  · rw [SlotTable.released_slot]
    cases s.slotTable.slot n with
    | done head w r lock => cases lock <;> simp [Slot.release_locked, Slot.release_unlocked]
    | _ => rfl

/-! ### CLAIM frames (R25, R44, R45) -/

theorem execFrameSent_claim {start : Word} {e : Entry} (h : s.onLineWith start e) (claim : e.isClaim = true) :
    let sent := s.setLine (s.line.afterOwn e)
    let told := sent.claimCompleted e.frame.kind (s.line.order + 1) s.line.waiting.isNone
    exec .frameSent s = .next (told.setLine told.line.admitWaiting) := by
  rw [execFrameSent_of_onLineWith h]
  simp only [State.reportCompleted, claim]
  rfl

/-- The completion of the current ASK starts the contest (R45, R48). -/
theorem State.claimCompleted_ask (current : s.headroom.current.isSome = true) (asked : s.headroom.claim = .askQueued)
    (order : Word) : s.claimCompleted 0 order true = s.setHeadroom { s.headroom with
      claim := .contest, own := some order, denial := false, askCompleted := some s.time
      contestTimer := some (later s.time (s.config.contestWindow * 10)) } := by
  simp [State.claimCompleted, Option.isSome_iff_ne_none.mp current, asked, ClaimKind.code, Config.unitsPerMs]

/-- The completion of a HOLD in HOLDING sets the refresh and hold-stale timers (R52, R53). -/
theorem State.claimCompleted_hold (current : s.headroom.current.isSome = true) (holding : s.headroom.claim = .holding)
    (order : Word) : s.claimCompleted 1 order true = s.setHeadroom { s.headroom with
      refreshTimer := some (later s.time (s.config.refreshPeriod * 1000))
      staleTimer := some (later s.time (2 * s.config.refreshPeriod * 1000)) } := by
  simp [State.claimCompleted, Option.isSome_iff_ne_none.mp current, holding, ClaimKind.code, Config.unitsPer100ms,
    Config.stalePeriods]

/-- A withdrawn ASK that completes is set right by a DROP (R51). -/
theorem State.claimCompleted_withdrawn (current : s.headroom.current = none)
    (idle : s.headroom.claim = .idle ∨ s.headroom.claim = .holding) (order : Word) :
    s.claimCompleted 0 order true = s.offerClaim .drop s.headroom.held s.headroom.held := by
  simp [State.claimCompleted, current, idle, ClaimKind.code]

/-- Where no CLAIM waits and the report changes the headroom unit alone, nothing else follows. -/
theorem execFrameSent_claim_alone {start : Word} {e : Entry} (h : s.onLineWith start e) (claim : e.isClaim = true)
    (waiting : s.line.waiting = none) {u : Headroom}
    (told : (s.setLine (s.line.afterOwn e)).claimCompleted e.frame.kind (s.line.order + 1) true =
      (s.setLine (s.line.afterOwn e)).setHeadroom u) :
    exec .frameSent s = .next { s with line := s.line.afterOwn e, headroom := u } := by
  have empty : (s.line.afterOwn e).admitWaiting = s.line.afterOwn e := Line.admitWaiting_of_none waiting
  rw [execFrameSent_claim h claim, waiting]
  dsimp only [Option.isNone_none]
  rw [told]
  simp only [State.setHeadroom_line, State.setLine_line, empty]
  rfl

/-- Of the frame that a test names, the count leaves with it (R20). -/
theorem Line.counts_iff (l : Line) (p : Entry → Bool) :
    l.counts p = true ↔ ∃ x ∈ l.queue, p x = true ∧ l.collided = some x.entryOrder := by
  simp [Line.counts]

/-- Offering a CLAIM, by what the queue holds of CLAIM frames (R25, R44). -/
theorem State.offerClaim_connected (hc : s.station.connected = true) (kind : ClaimKind) (held asked : Nat) :
    s.offerClaim kind held asked = { s with
      line := s.line.offerClaim (s.claimFrame kind held asked)
      headroom := { s.headroom with current := some { kind := kind, held := held, asked := asked } } } := by
  unfold State.offerClaim
  rw [if_pos hc]
  rfl

/-- Settles O15: the queue's CLAIM decides what an offer does, and the current claim frame what a completion does. -/
theorem ownClaimCompletes : Obligations.OwnClaimCompletes := by
  refine ⟨fun s kind held asked => ⟨fun apart => ?_, fun connected => ⟨fun free => ?_, fun e found sending => ?_,
    fun e found queued => ?_⟩⟩,
    fun s start e h claim => ⟨fun waiting current kind asked => ?_,
    fun waiting current kind holding => ?_, fun waiting current kind idle => ?_, fun w waiting => ?_⟩⟩
  · simp [State.offerClaim, apart]
  · rw [State.offerClaim_connected connected, Line.offerClaim, free]
    simp only [Line.accept, insertEntry_eq]
    cases kind <;> rfl
  · rw [State.offerClaim_connected connected, Line.offerClaim, found]
    simp only [sending]
    cases kind <;> rfl
  · rw [State.offerClaim_connected connected, Line.offerClaim, found]
    simp only [queued, Line.accept, insertEntry_eq, Line.dropEntries, Line.counts_iff]
    cases kind <;> rfl
  · exact execFrameSent_claim_alone h claim waiting
      (kind ▸ State.claimCompleted_ask (s := s.setLine (s.line.afterOwn e)) current asked _)
  · exact execFrameSent_claim_alone h claim waiting
      (kind ▸ State.claimCompleted_hold (s := s.setLine (s.line.afterOwn e)) current holding _)
  · rw [execFrameSent_claim h claim, waiting, kind]
    dsimp only [Option.isNone_none]
    rw [State.claimCompleted_withdrawn (s := s.setLine (s.line.afterOwn e)) current idle]
    rfl
  · rw [execFrameSent_claim h claim, waiting]
    have kept : (s.line.afterOwn e).waiting = some w := waiting
    simp only [State.claimCompleted, Line.admitWaiting, Option.isNone_some, Bool.not_false, if_true,
      State.setLine_line, kept]
    rfl

/-! ### Failed attempts (R18 to R20, R25, R28) -/

theorem execArbitrationLost_of_onLineWith {start : Word} {e : Entry} (h : s.onLineWith start e) :
    exec .arbitrationLost s = .next ((s.setLine { s.line.attemptFailed e with
      judgement := .receiving start, driving := [] }).reportFailed e) := by
  show Host.Outcome.next _ = _
  rw [Line.attempt_of_onLineWith h]

theorem execSendCollision_of_onLineWith {start : Word} {e : Entry} (h : s.onLineWith start e)
    (few : (if s.line.collided = some e.entryOrder then s.line.collisions + 1 else 1) < 3) :
    exec .sendCollision s = .next ((s.setLine { (s.line.countCollision e).attemptFailed e with
      judgement := .busy, driving := List.replicate 16 false }).reportFailed e) := by
  have fewer : ¬ Config.collisionLimit ≤ (s.line.countCollision e).collisions := by
    simpa [Line.countCollision, Config.collisionLimit] using few
  show Host.Outcome.next _ = _
  rw [Line.attempt_of_onLineWith h]
  dsimp only
  rw [if_neg fewer]
  rfl

/-- The frame stays in its place, no longer sending (R18, R19). -/
theorem Line.attemptFailed_stays {l : Line} {e : Entry} (h : e.isClaim = false ∨ l.waiting = none)
    (kept : e.removing = false) :
    l.attemptFailed e = { l with queue := l.queue.map fun x => { x with sending := false } } := by
  unfold Line.attemptFailed
  obtain h | h := h <;> simp [h, kept, stopSending]

/-- A waiting CLAIM takes the place of the CLAIM that failed (R25). -/
theorem Line.attemptFailed_replaced {l : Line} {e : Entry} {w : Frame} (claim : e.isClaim = true)
    (waiting : l.waiting = some w) :
    l.attemptFailed e = Line.accept .headroom
      { l.dropEntries (fun x => x.entryOrder == e.entryOrder) with waiting := none } w := by
  simp [Line.attemptFailed, claim, waiting]

/-- A REPLY that BAY_RESET marked is removed (R28). -/
theorem Line.attemptFailed_removed {l : Line} {e : Entry} (claim : e.isClaim = false) (marked : e.removing = true) :
    l.attemptFailed e = l.dropEntries fun x => x.entryOrder == e.entryOrder := by
  simp [Line.attemptFailed, claim, marked]

/-- The count is that of a queued entry exactly where it is kept for that entry's order (R20). -/
theorem Line.counts_entry {l : Line} {e : Entry} (he : e ∈ l.queue) :
    l.counts (fun x => x.entryOrder == e.entryOrder) = true ↔ l.collided = some e.entryOrder := by
  rw [Line.counts_iff]
  constructor
  · rintro ⟨x, _, same, counted⟩
    rwa [← show x.entryOrder = e.entryOrder by simpa using same]
  · exact fun counted => ⟨e, he, by simp, counted⟩

/-- The entry taken out of the queue, with its count where the count is its own (R20). -/
theorem Line.dropEntry {l : Line} {e : Entry} (he : e ∈ l.queue) :
    l.dropEntries (fun x => x.entryOrder == e.entryOrder) = { l with
      queue := l.queue.filter fun x => x.entryOrder != e.entryOrder
      collisions := if l.collided = some e.entryOrder then 0 else l.collisions
      collided := if l.collided = some e.entryOrder then none else l.collided } := by
  simp only [Line.dropEntries, Line.counts_entry he]
  rfl

theorem Line.countCollision_eq (l : Line) (e : Entry) : l.countCollision e = { l with
    collisions := if l.collided = some e.entryOrder then l.collisions + 1 else 1
    collided := some e.entryOrder } := by
  simp [Line.countCollision]

/-- An entry whose collision has just been counted takes the count with it (R20). -/
theorem Line.dropEntry_counted {l : Line} {e : Entry} (he : e ∈ l.queue) :
    (l.countCollision e).dropEntries (fun x => x.entryOrder == e.entryOrder) = { l with
      queue := l.queue.filter fun x => x.entryOrder != e.entryOrder, collisions := 0, collided := none } := by
  rw [Line.dropEntry (l := l.countCollision e) he]
  simp [Line.countCollision]

/-- Settles O16: what becomes of the frame is decided by kind, mark and waiting CLAIM, at both ends alike. -/
theorem failedAttempts : Obligations.FailedAttempts := by
  intro s start e h
  have he : e ∈ s.line.queue := List.mem_of_find?_eq_some h.2
  refine ⟨fun free kept => ⟨?_, fun few => ?_⟩, fun w claim waiting => fun kept => ⟨?_, fun few => ?_⟩,
    fun reply marked => ?_⟩
  · rw [execArbitrationLost_of_onLineWith h, Line.attemptFailed_stays free kept, State.reportFailed, kept]
    rfl
  · rw [execSendCollision_of_onLineWith h few, Line.attemptFailed_stays (l := s.line.countCollision e) free kept,
      Line.countCollision_eq, State.reportFailed, kept]
    rfl
  · rw [execArbitrationLost_of_onLineWith h, Line.attemptFailed_replaced claim waiting, Line.dropEntry he,
      State.reportFailed, kept]
    rfl
  · rw [execSendCollision_of_onLineWith h few,
      Line.attemptFailed_replaced (l := s.line.countCollision e) claim waiting, Line.dropEntry_counted he,
      State.reportFailed, kept]
    rfl
  · obtain ⟨claim, _⟩ := Entry.isReply_classes reply
    refine ⟨s.slotTable.slots.map
      (Slot.release fun first => decide (first ≤ e.entryOrder) && decide (e.entryOrder ≤ first + 3)), ?_,
      fun few => ?_, fun n => ?_⟩
    · rw [execArbitrationLost_of_onLineWith h, Line.attemptFailed_removed claim marked, Line.dropEntry he,
        State.reportFailed, marked]
      rfl
    · rw [execSendCollision_of_onLineWith h few,
        Line.attemptFailed_removed (l := s.line.countCollision e) claim marked, Line.dropEntry_counted he,
        State.reportFailed, marked]
      rfl
    · rw [SlotTable.released_slot]
      cases s.slotTable.slot n with
      | done head w r lock => cases lock <;> simp [Slot.release_locked, Slot.release_unlocked]
      | _ => rfl

/-! ### Frames heard (R17, R21, R22, R29 to R31) -/

/-- A valid frame heard is taken, stamped from its start bit (R22, R30). -/
theorem execFrameReceived_of_hears {stamp start : Word} {f : Frame} (h : s.hears stamp start) (valid : f.valid = true) :
    exec (.frameReceived stamp f.coded) s = .next (s.hearFrame f start) := by
  have short : f.payload.length ≤ Config.maxPayload := by
    simp only [Frame.valid, Bool.and_eq_true, decide_eq_true_eq] at valid
    exact valid.1
  have read := codedFrameReadsBack f (short.trans (by decide))
  rw [if_pos valid] at read
  show Host.Outcome.next _ = _
  rw [State.hearing_of_hears h, read]

theorem isBay_iff (a : Address) : isBay a = true ↔ a.toNat < 48 := decide_eq_true_iff

/-- The filter's outcome for each class (R30). -/
theorem filterFrame_eq (own : Address) (f : Frame) : filterFrame own f =
    if f.cls = 0 then .enters
    else if f.cls = 1 then (if f.source.toNat < 48 ∧ f.source ≠ own then .enters else .counted)
    else if f.cls = 2 then
      (if f.target = own then .enters
      else if f.target = 63 then (if f.kind.toNat ∈ [2, 5, 8] then .enters else .counted)
      else .discarded)
    else if f.cls = 3 then .discarded else .counted := by
  have numbered (c : BitVec 3) : f.cls = c ↔ f.cls.toNat = c.toNat := BitVec.toNat_inj.symm
  unfold filterFrame
  simp only [numbered]
  split
  case h_1 h | h_4 h => simp [h]
  case h_2 h => simp [h, isBay_iff]
  case h_3 h => simp [h, Config.allStations, or_assoc]
  case h_5 h0 h1 h2 h3 => exact (if_neg h0).trans ((if_neg h1).trans ((if_neg h2).trans (if_neg h3))) |>.symm

/-- A frame that R30 admits enters a silo with room, and is an overrun at a full one (R31, R41). -/
theorem State.siloFrame_eq (s : State) (h : Heard) : s.siloFrame h =
    if s.line.silo.length < 8 then { s with line := { s.line with silo := s.line.silo ++ [h] } }
    else State.markSuspect { s with line := { s.line with overruns := min (s.line.overruns + 1) 255 } } := by
  unfold State.siloFrame Line.intoSilo
  by_cases room : s.line.silo.length < 8
  · simp only [if_pos room, if_pos (show s.line.silo.length < Config.siloPlaces from room)]
    rfl
  · simp only [if_neg room, if_neg (show ¬ s.line.silo.length < Config.siloPlaces from room)]
    rfl

/-- Settles O18: the filter's outcome decides what the frame heard does. -/
theorem heardFrameIsFiltered : Obligations.HeardFrameIsFiltered := by
  intro s stamp start f h valid
  rw [execFrameReceived_of_hears h valid, State.hearFrame, filterFrame_eq]
  dsimp only
  simp only [State.siloFrame_eq, State.setLine_line, Line.heard_frame]
  split_ifs <;> rfl

/-- Settles O19: the one branch of each command that acts. -/
theorem errorAndIdle : Obligations.ErrorAndIdle := by
  intro s stamp start bits
  refine ⟨fun h read => ?_, fun connected busy => ?_⟩
  · obtain ⟨x, hx⟩ := State.hears.hearing_isSome h
    have error : (readBits bits).isError = true := by obtain read | read := read <;> rw [read] <;> rfl
    show Host.Outcome.next _ = _
    rw [hx]
    dsimp only
    rw [if_pos error]
    rfl
  · show Host.Outcome.next _ = _
    rw [connected, busy]
    rfl

end Sys2Proof.Machine
end

section
/-!
PROOF. The requests: the tests that every request passes first (R63, R64, R180), and CLEAR, FETCH and STATUS with the
bytes of their replies (R65, R80 to R82, R94, R96, R99).
-/

namespace Sys2Proof.Machine

variable {s : State}

/-! ### The first tests -/

/-- A command of the silo acts on the frame that the line unit hands on (R32). -/
theorem exec_of_handing {c : Instr} {cls kind : Nat} {take : Heard → State → State}
    (hc : takesFrame c = some (cls, kind, take)) {h : Heard} {rest : List Heard} (hh : s.handing h rest cls kind) :
    exec c s = .next (take h (s.taking rest)) := by
  cases c <;> cases hc
  all_goals
    show Host.Outcome.next _ = _
    rw [State.handOn_of_handing hh]

/-- A request is refused where one of its first three tests fails (R63, R180). -/
theorem takesFrame_refuses {kind : Nat} {c : Instr} {block : Block} (hk : requestOf kind = some (c, block)) :
    ∃ take, takesFrame c = some (2, kind, take) ∧
      ∀ (h : Heard) (u : State) (r : Reason), u.requestFails h.frame = some r →
        take h u = u.refuse block h.frame r detailRequest := by
  unfold requestOf at hk
  split at hk <;> cases hk <;> refine ⟨_, rfl, fun h u r hr => ?_⟩
  case h_1 => simp only [State.takeOpen, hr]
  case h_2 => simp only [State.takePart, hr]
  case h_3 => simp only [State.takeCancel, hr]
  case h_4 => simp only [State.takeClear, hr]
  case h_5 => simp only [State.takeFetch, hr]
  case h_6 => simp only [State.takeStatus, hr]
  case h_7 => simp only [State.takeTighten, hr]
  case h_8 => simp only [State.takeClearFault, hr]
  case h_9 => simp only [State.takeBayReset, hr]

/-- A request that passes them is refused where it names no slot, save a CANCEL of all slots (R63, R64). -/
theorem takesFrame_slotless {kind : Nat} {c : Instr} {block : Block} (hk : requestOf kind = some (c, block))
    (slots : kind ≤ 4) {h : Heard} {u : State} (passes : u.requestFails h.frame = none)
    (slotless : requestSlot h.frame = none)
    (single : ¬ (kind = 2 ∧ h.frame.target = 63 ∧ byteAt h.frame.payload 0 = 15)) :
    ∃ take, takesFrame c = some (2, kind, take) ∧ take h u = u.refuse block h.frame .badParam detailRequest := by
  unfold requestOf at hk
  split at hk <;> cases hk <;> refine ⟨_, rfl, ?_⟩
  case h_1 => simp only [State.takeOpen, passes, slotless]
  case h_2 => simp only [State.takePart, passes, slotless]
  case h_3 =>
    have one : (h.frame.target == Config.allStations && byteAt h.frame.payload 0 == Config.allSlots) = false := by
      simpa [Config.allStations, Config.allSlots] using single
    simp only [State.takeCancel, passes, slotless, one]
    rfl
  case h_4 => simp only [State.takeClear, passes, slotless]
  case h_5 => simp only [State.takeFetch, passes, slotless]
  all_goals omega

/-- The first tests of a request, in R63's order. -/
theorem State.requestFails_eq (s : State) (f : Frame) : s.requestFails f =
    if ¬ (s.config.ownerLow ≤ f.source.toNat ∧ f.source.toNat ≤ s.config.ownerHigh) then some .notOwner
    else if s.guardUnit.resetting.isSome = true then some .resetting
    else if f.payload.length ≠ requestLength f.kind.toNat then some .badParam else none := by
  have owns : (!s.ownsRequests f.source) = true ↔
      ¬ (s.config.ownerLow ≤ f.source.toNat ∧ f.source.toNat ≤ s.config.ownerHigh) := by
    simp [State.ownsRequests, imp_iff_not_or]
  simp only [State.requestFails, owns, bne_iff_ne]

theorem requestSlot_none {f : Frame} (h : 8 ≤ byteAt f.payload 0) : requestSlot f = none :=
  dif_neg (Nat.not_lt.mpr h)

/-- Settles O27: each failing test refuses the request, whichever command takes it. -/
theorem refusedRequestChangesNothing : Obligations.RefusedRequestChangesNothing := by
  intro s h rest kind c block hk hh
  obtain ⟨take, ht, refuses⟩ := takesFrame_refuses hk
  have refused {r : Reason} (hr : s.requestFails h.frame = some r) :
      exec c s = .next ((s.taking rest).refusing block h.frame r.code 255) := by
    rw [exec_of_handing ht hh, refuses h (s.taking rest) r hr, State.refuse_eq_refusing]
    rfl
  obtain ⟨_, _, _, hkind⟩ := id hh
  refine ⟨fun unowned => refused (r := .notOwner) ?_, fun owned resetting => refused (r := .resetting) ?_,
    fun owned free length => refused (r := .badParam) ?_, fun passes slots outside single => ?_⟩
  · rw [State.requestFails_eq, if_pos unowned]
  · rw [State.requestFails_eq, if_neg (not_not.mpr owned), if_pos resetting]
  · rw [State.requestFails_eq, if_neg (not_not.mpr owned), free, hkind, if_neg (by simp), if_pos length]
  · obtain ⟨take, ht, slotless⟩ := takesFrame_slotless hk slots (State.requestFails_of_passes passes rest)
      (requestSlot_none outside) single
    rw [exec_of_handing ht hh, slotless, State.refuse_eq_refusing]
    rfl

/-! ### The bytes of replies (R94, R96, R99) -/

theorem byte_mod (v : Nat) : byte (v % 256) = byte v := by
  apply BitVec.eq_of_toNat_eq
  simp [byte]

theorem bytes16_eq (v : Nat) : bytes16 v = [byte (v % 256), byte (v / 256)] := by
  rw [byte_mod]; rfl

theorem State.slotReply_eq (s : State) (n : Fin 8) : s.slotReply n = s.slotBytes n := by
  unfold State.slotReply State.slotBytes State.progress
  cases s.slotTable.slot n with
  | vacant => rfl
  | assembling head expected parts deadline =>
    simp [Slot.head, Slot.code, Slot.work, clampBits, CheckKind.code_eq, bytes16_eq]
  | _ => simp [Slot.head, Slot.code, Slot.work, clampBits_eq, CheckKind.code_eq, Phase.code_eq, bytes16_eq]

theorem resultBlock_eq (h : SlotHead) (w : Work) (r : ResultRecord) : resultBlock h w r = resultBytes h w r := by
  have flag (b : Bool) (v : Nat) : v * b.toNat = if b = true then v else 0 := by cases b <;> simp
  simp [resultBlock, resultBytes, Verdict.code_eq, Cause.code_eq, CheckKind.code_eq, clampBits_eq, flag]

theorem State.resultGroup_eq (s : State) (target : Address) (n : Fin 8) (h : SlotHead) (w : Work) (r : ResultRecord) :
    s.resultGroup target n h w r = s.resultFrames target n (resultBytes h w r) := by
  rw [State.resultGroup, resultBlock_eq]
  rfl

/-- Station states, station faults and claim states in the order of their codes (R99). -/
theorem StationState.code_eq (x : StationState) :
    x.code = [StationState.loading, .selfLoop, .joining, .onLine, .degraded, .offLine].idxOf x := by
  cases x <;> decide

theorem StationFault.code_eq (x : Option StationFault) : StationFault.code x =
    [none, some StationFault.strapInvalid, some .configUnreadable, some .configBad, some .loopFailed,
      some .dupAddress].idxOf x := by
  rcases x with _ | x
  · decide
  · cases x <;> decide

theorem ClaimState.code_eq (x : ClaimState) :
    x.code = [ClaimState.idle, .askQueued, .contest, .holding, .backoff, .barred].idxOf x := by
  cases x <;> decide

theorem State.statusGroup_eq (s : State) (target : Address) : s.statusGroup target = s.statusFrames target := by
  have flag (b : Bool) (v : Nat) : v * b.toNat = if b = true then v else 0 := by cases b <;> simp
  have order : 64 * s.config.startOrder.code = if (s.config.startOrder == .slotNumber) = true then 64 else 0 := by
    cases s.config.startOrder <;> rfl
  have latch : (s.guardUnit.latch.map Cause.code).getD 0 =
      (s.guardUnit.latch.map fun c => causeOrder.idxOf c).getD 0 := by
    cases s.guardUnit.latch <;> simp [Cause.code_eq]
  simp only [State.statusGroup, State.statusFrames, State.statusPart0, State.statusPart1, flag, order, latch,
    StationState.code_eq, StationFault.code_eq, ClaimState.code_eq, Phase.code_eq, bytes16_eq]
  rfl

/-! ### CLEAR, FETCH and STATUS (R65, R80 to R82) -/

/-- The RESULT group is accepted whole, with the slot locked, or dropped and counted (R27, R82). -/
theorem State.fetchResult_eq (hc : s.station.connected = true) (f : Frame) (n : Fin 8) (h : SlotHead) (w : Work)
    (r : ResultRecord) :
    (s.line.queue.countP Entry.isReply ≤ 6 → s.fetchResult f n h w r = State.withSlot
      { s with line := (s.resultFrames f.source n (resultBytes h w r)).foldl (Line.accept .slotTable) s.line }
      n (.done h w r (some s.line.nextEntry))) ∧
    (6 < s.line.queue.countP Entry.isReply → s.fetchResult f n h w r =
      { s with line := { s.line with replyDrops := min (s.line.replyDrops + 4) 255 } }) := by
  have four : (s.resultFrames f.source n (resultBytes h w r)).length = 4 := rfl
  have admits : s.line.admits 4 = decide (s.line.queue.countP Entry.isReply ≤ 6) := by
    refine decide_eq_decide.mpr ?_
    rw [show Config.replyQuota = 10 from rfl]
    omega
  unfold State.fetchResult State.offerReplies Line.offerReplies
  rw [State.resultGroup_eq, four, hc, admits]
  refine ⟨fun fits => ?_, fun full => ?_⟩
  · simp only [fits]
    rfl
  · simp only [Nat.not_le.mpr full]
    rfl

/-- A refusal as the statements write it, once the reason's code is known. -/
theorem next_refuse (s : State) (f : Frame) (r : Reason) :
    Host.Outcome.next (φ := Fault) (ρ := Refusal) (s.refuse .slotTable f r detailRequest) =
      .next (s.refusing .slotTable f r.code 255) :=
  congrArg _ (s.refuse_eq_refusing _ _ _ _)

/-- Settles O33: what the slot holds decides the answer of CLEAR and FETCH, and the quota that of a RESULT group. -/
theorem clearFetchStatus : Obligations.ClearFetchStatus := by
  refine ⟨fun s h rest n hh passes named => ?_, fun s h rest n hh passes named => ?_,
    fun s h rest hh passes => ?_, fun s target n => ?_⟩
  · have same : (s.taking rest).slotTable.slot n = s.slotTable.slot n := rfl
    rw [exec_of_handing (c := .clear) rfl hh]
    simp only [State.takeClear, State.requestFails_of_passes passes, requestSlot_of_number named, same]
    cases s.slotTable.slot n with
    | done head work result lock =>
      cases lock with
      | some first => exact next_refuse _ _ _
      | none => simp only [State.vacate_eq_withVacated]
    | _ => exact next_refuse _ _ _
  · have same : (s.taking rest).slotTable.slot n = s.slotTable.slot n := rfl
    have connected : (s.taking rest).station.connected = true := hh.1
    rw [exec_of_handing (c := .fetch) rfl hh]
    simp only [State.takeFetch, State.requestFails_of_passes passes, requestSlot_of_number named, same]
    cases s.slotTable.slot n with
    | done head work result lock =>
      cases lock with
      | some first => exact next_refuse _ _ _
      | none =>
        obtain ⟨fits, full⟩ := State.fetchResult_eq connected h.frame n head work result
        exact ⟨fun few => congrArg _ (fits few), fun many => congrArg _ (full many)⟩
    | _ => rfl
  · rw [exec_of_handing (c := .status) rfl hh]
    simp only [State.takeStatus, State.requestFails_of_passes passes, State.replyStatus, State.statusGroup_eq]
  · rw [State.replySlot, State.slotReply_eq]
    rfl

end Sys2Proof.Machine
end

section
/-!
PROOF. BAY_RESET (R28, R35, R84, R142, R185): the state it sets before the engine is told, what the engine's order adds
to it, and how the reset completes.
-/

namespace Sys2Proof.Machine

variable {s t o : State}

/-! ### What offers leave of the queue -/

theorem filter_insertEntry {p : Entry → Bool} {e : Entry} (he : p e = false) (q : List Entry) :
    (insertEntry e q).filter p = q.filter p := by
  induction q with
  | nil => simp [insertEntry, he]
  | cons x rest ih =>
    unfold insertEntry
    split
    · simp [he]
    · simp [List.filter_cons, ih]

/-- A line unit after offers of CLAIM and REPLY frames: its SHED as it was, entry orders going on from where they
stood, and no REPLY with an earlier one but those it held (R24 to R27). -/
structure Line.offeredTo (l m : Line) : Prop where
  sheds : m.queue.filter Entry.isShed = l.queue.filter Entry.isShed
  orders : l.nextEntry ≤ m.nextEntry
  replies : ∀ e ∈ m.queue, e.isReply = true → e.entryOrder < l.nextEntry → e ∈ l.queue

namespace Line.offeredTo

variable {l m : Line}

theorem refl (l : Line) : l.offeredTo l := ⟨rfl, Nat.le_refl _, fun _ he _ _ => he⟩

/-- The queue and its numbering are what counts. -/
theorem congr (h : l.offeredTo m) {k : Line} (queue : k.queue = m.queue) (next : k.nextEntry = m.nextEntry) :
    l.offeredTo k := ⟨queue ▸ h.sheds, next ▸ h.orders, queue ▸ h.replies⟩

theorem accept (h : l.offeredTo m) (block : Block) {f : Frame} (hf : f.cls ≠ 0) :
    l.offeredTo (Line.accept block m f) where
  sheds := (filter_insertEntry (by simpa [Entry.isShed] using hf) _).trans h.sheds
  orders := Nat.le_succ_of_le h.orders
  replies := by
    intro e he hr ho
    obtain rfl | he := mem_insertEntry.mp he
    · exact absurd (h.orders.trans_lt ho) (Nat.lt_irrefl _)
    · exact h.replies e he hr ho

theorem dropEntries (h : l.offeredTo m) {p : Entry → Bool} (hp : ∀ e : Entry, e.isShed = true → p e = false) :
    l.offeredTo (m.dropEntries p) where
  sheds := by
    have kept (e : Entry) : (e.isShed && !p e) = e.isShed := by
      cases he : e.isShed <;> simp [hp e, he]
    simpa [Line.dropEntries, List.filter_filter, kept] using h.sheds
  orders := h.orders
  replies := fun e he hr ho => h.replies e (List.mem_filter.mp he).1 hr ho

theorem isClaim_of_isShed {e : Entry} (h : e.isShed = true) : e.isClaim = false := by
  simp_all [Entry.isShed, Entry.isClaim]

theorem offerClaim (h : l.offeredTo m) {f : Frame} (hf : f.cls = 1) : l.offeredTo (m.offerClaim f) := by
  have notShed : f.cls ≠ 0 := by rw [hf]; decide
  unfold Line.offerClaim
  split
  · exact h.accept _ notShed
  · split
    · exact h.congr rfl rfl
    · exact (h.dropEntries fun _ => isClaim_of_isShed).accept _ notShed

theorem withdrawClaim (h : l.offeredTo m) : l.offeredTo m.withdrawClaim := by
  unfold Line.withdrawClaim
  split
  · exact h.congr rfl rfl
  · exact h.dropEntries fun e he => by simp [isClaim_of_isShed he]

theorem offerReplies (h : l.offeredTo m) (block : Block) {group : List Frame} (hg : ∀ f ∈ group, f.cls = 3) :
    l.offeredTo (m.offerReplies block group) := by
  have accepted : l.offeredTo (group.foldl (Line.accept block) m) := by
    induction group generalizing m with
    | nil => exact h
    | cons f rest ih =>
      have notShed : f.cls ≠ 0 := by rw [hg f (.head _)]; decide
      exact ih (h.accept block notShed) fun x hx => hg x (.tail _ hx)
  unfold Line.offerReplies
  split
  · exact accepted
  · exact h.congr rfl rfl

end Line.offeredTo

theorem State.offered.lines (h : o.offered t) : o.line.offeredTo t.line := by
  induction h with
  | refl => exact .refl _
  | other _ line _ _ ih => exact line ▸ ih
  | replies _ block replies ih =>
    unfold State.offerReplies
    split
    · exact ih.offerReplies block replies
    · exact ih
  | claim _ kind held asked ih =>
    unfold State.offerClaim
    split
    · exact ih.offerClaim rfl
    · exact ih
  | withdrawal _ ih => exact ih.withdrawClaim

/-! ### The completion of a reset (R185) -/

theorem State.dropCarry_of_none (h : s.engine.carry = false) : s.dropCarry = s := by
  simp [State.dropCarry, h]

/-- Where no slot is queued, the engine's idle report completes a reset and ends a carry (R137, R185). -/
theorem State.reportIdle_of_empty (h : s.slotTable.queue = []) : s.reportIdle = s.completeReset.dropCarry := by
  unfold State.reportIdle
  dsimp only
  rw [State.startable_of_empty (by simpa using h)]
  rfl

/-- A reset completes, answered by the part's status where it was sent to the part (R185). -/
theorem State.completeReset_of_resetting {r : ResetRequest} (h : s.guardUnit.resetting = some r) :
    let ended : State := { s with guardUnit := { s.guardUnit with resetting := none } }
    s.completeReset = if r.target = 63 then ended else ended.offerReplies .guardUnit (ended.statusFrames r.source) := by
  unfold State.completeReset
  rw [h]
  simp only [State.replyStatus, State.statusGroup_eq, Config.allStations, beq_iff_eq]
  rfl

theorem State.reportIdle_resets {r : ResetRequest} (h : s.guardUnit.resetting = some r) (hq : s.slotTable.queue = [])
    (hc : s.engine.carry = false) :
    let ended : State := { s with guardUnit := { s.guardUnit with resetting := none } }
    s.reportIdle = if r.target = 63 then ended else ended.offerReplies .guardUnit (ended.statusFrames r.source) := by
  rw [State.reportIdle_of_empty hq, State.dropCarry_of_none (by simpa using hc), State.completeReset_of_resetting h]

/-- The engine stays idle at its idle report, and no reset is in progress after it. -/
theorem State.reportIdle_idle (hq : s.slotTable.queue = []) : s.reportIdle.engine.phase = s.engine.phase ∧
    s.reportIdle.guardUnit.resetting = none ∧ s.reportIdle.slotTable = s.slotTable := by
  rw [State.reportIdle_of_empty hq]
  simp [State.completeReset_resetting]

/-! ### The engine told of a reset (R142) -/

theorem State.resetEngine_idle (h : s.engine.phase = .idle) : s.resetEngine = s.dropCarry.reportIdle := by
  simp [State.resetEngine, h]

/-- A running check is aborted without a result, and an abort in progress is to end without one (R140, R142). -/
theorem State.resetEngine_running (h : s.engine.phase ≠ .idle) :
    ∃ e p, s.resetEngine = { s with engine := e, port := p } ∧ e.phase = .aborting ∧ e.noResult = true ∧
      e.check = s.engine.check ∧ (s.engine.phase ≠ .aborting → e.cause = none ∧ p.dropInPath) := by
  have aborts : ∃ e p, s.beginAbort none true = { s with engine := e, port := p } ∧ e.phase = .aborting ∧
      e.noResult = true ∧ e.check = s.engine.check ∧ (s.engine.phase ≠ .aborting → e.cause = none ∧ p.dropInPath) :=
    ⟨_, _, rfl, rfl, rfl, by simp, fun _ => ⟨rfl, Port.writeDrop_dropInPath _⟩⟩
  unfold State.resetEngine
  cases hp : s.engine.phase
  case idle => exact absurd hp h
  case aborting => exact ⟨{ s.engine with noResult := true }, s.port, rfl, hp, rfl, rfl, fun hn => absurd rfl hn⟩
  all_goals simpa only [hp] using aborts

/-- Told of a reset, the engine leaves slots, start queue, limits, latch and hold, and what the line unit has heard. -/
theorem State.resetEngine_leaves (hq : s.slotTable.queue = []) :
    s.resetEngine.slotTable = s.slotTable ∧ s.resetEngine.guardUnit.effective = s.guardUnit.effective ∧
    s.resetEngine.guardUnit.latch = s.guardUnit.latch ∧ s.resetEngine.guardUnit.further = s.guardUnit.further ∧
    s.resetEngine.port.hold = s.port.hold ∧ s.resetEngine.startup = s.startup ∧
    s.resetEngine.line.silo = s.line.silo ∧ s.resetEngine.line.order = s.line.order := by
  refine ⟨?_, by simp, by simp, by simp, by simp, by simp, by simp, by simp⟩
  by_cases idle : s.engine.phase = .idle
  · rw [State.resetEngine_idle idle, (State.reportIdle_idle (by simpa using hq)).2.2]
    simp
  · obtain ⟨e, p, whole, _⟩ := State.resetEngine_running idle
    rw [whole]

/-- An abort without a result ends in the idle report of the reset engine, at the start queue it found (R140). -/
theorem State.finishAbort_noResult (h : s.engine.noResult = true) (mismatched : Bool) :
    ∃ u : State, s.finishAbort mismatched = u.reportIdle ∧ u.engine = Engine.reset ∧
      u.slotTable.queue = s.slotTable.queue ∧ u.guardUnit.resetting = s.guardUnit.resetting := by
  let opened := if s.engine.abortOpens mismatched then s.requestOpen else s
  have found : opened.engine = s.engine ∧ opened.slotTable = s.slotTable ∧
      opened.guardUnit.resetting = s.guardUnit.resetting := by
    dsimp only [opened]
    split <;> simp
  obtain ⟨engine, slots, resetting⟩ := found
  let vacated := opened.withdrawNeed.vacateActive
  refine ⟨(vacated.setEngine Engine.reset).setPort { vacated.port with ceiling := 0 }, ?_, rfl,
    by simp [vacated, slots], by simp [vacated, resetting]⟩
  change (if opened.withdrawNeed.engine.noResult then vacated else _).finishCheck false = _
  rw [if_pos (by simp [engine, h])]
  rfl

/-- The drop answered as it was sent ends the wait of an abort (R117, R139). -/
theorem execSetpointAcknowledgement_drop {o : OnPort} (ho : s.port.onPort = some o) (drop : o.setpoint.drop = true)
    (aborting : s.engine.phase = .aborting) :
    let answered := s.setPort { s.port with onPort := none, ackTimer := none, applied := o.setpoint.value }
    exec (.setpointAcknowledgement o.setpoint.value) s = .next (answered.finishAbort false).portReport := by
  change execSetpointAcknowledgement _ s = _
  simp [execSetpointAcknowledgement, ho, State.answerMatches, State.engineAcknowledged, drop, State.dropAcknowledged,
    aborting]

/-! ### The state that a BAY_RESET sets (R28, R84, R185) -/

/-- The part once slots, start queue, queued REPLY frames and tightened limits are gone, before the engine is told. -/
def State.cleared (s : State) (f : Frame) : State :=
  ((s.markReset f).setSlotTable s.slotTable.vacateAll).setLine s.line.removeReplies

theorem State.takeBayReset_passes {f : Frame} (h : s.requestFails f = none) :
    s.takeBayReset f = (s.cleared f).resetEngine := by
  simp only [State.takeBayReset, h]
  rfl

/-- Queued REPLY frames leave and a sending one is marked (R28). -/
theorem Line.removeReplies_eq (l : Line) : l.removeReplies = { l with
    queue := (l.queue.filter fun e => !(e.isReply && !e.sending)).map
      fun e => if e.isReply = true then { e with removing := true } else e
    collisions := if ∃ e ∈ l.queue, (e.isReply && !e.sending) = true ∧ l.collided = some e.entryOrder then 0
      else l.collisions
    collided := if ∃ e ∈ l.queue, (e.isReply && !e.sending) = true ∧ l.collided = some e.entryOrder then none
      else l.collided } := by
  simp only [Line.removeReplies, Line.dropEntries, Line.counts_iff]

theorem Line.removeReplies_sheds (l : Line) :
    l.removeReplies.queue.filter Entry.isShed = l.queue.filter Entry.isShed := by
  have notReply {e : Entry} (h : e.isShed = true) : e.isReply = false := by simp_all [Entry.isShed, Entry.isReply]
  have marked : Entry.isShed ∘ (fun e => if e.isReply = true then { e with removing := true } else e) =
      Entry.isShed := by
    funext e
    dsimp only [Function.comp]
    split <;> rfl
  have unmarked {e : Entry} (h : e.isShed = true) :
      (if e.isReply = true then { e with removing := true } else e) = e := if_neg (by simp [notReply h])
  have stays (e : Entry) : (e.isShed && !(e.isReply && !e.sending)) = e.isShed := by
    cases h : e.isShed <;> simp [notReply, h]
  rw [Line.removeReplies_eq, List.filter_map, marked, List.filter_filter]
  simp only [stays]
  exact (List.map_congr_left fun e he => unmarked (List.mem_filter.mp he).2).trans (List.map_id' _)

/-- A REPLY that stays is the sending one, marked for removal (R28). -/
theorem Line.removeReplies_reply {l : Line} {e : Entry} (he : e ∈ l.removeReplies.queue) (hr : e.isReply = true) :
    e.sending = true ∧ e.removing = true := by
  rw [Line.removeReplies_eq] at he
  obtain ⟨x, hx, rfl⟩ := List.mem_map.mp he
  obtain ⟨_, stays⟩ := List.mem_filter.mp hx
  split at hr
  case isTrue reply =>
    rw [if_pos reply]
    exact ⟨by simpa [reply] using stays, rfl⟩
  case isFalse other => exact absurd hr other

/-! ### The obligation -/

section

variable {h : Heard} {rest : List Heard} (hh : s.handing h rest 2 8) (passes : s.requestPasses h.frame)
include hh passes

theorem execBayReset_passes : exec .bayReset s = .next ((s.taking rest).cleared h.frame).resetEngine := by
  rw [exec_of_handing (c := .bayReset) rfl hh, State.takeBayReset_passes (State.requestFails_of_passes passes rest)]

end

/-- Settles O39: the state that the reset sets, and what the engine's order makes of it by phase. -/
theorem bayResetRule : Obligations.BayResetRule := by
  refine ⟨fun s h rest hh passes => ⟨fun idle uncarried => ?_, ?_⟩, fun s r resetting empty => ⟨fun uncarried => ?_, ?_⟩⟩
  · rw [execBayReset_passes hh passes, State.resetEngine_idle (s := (s.taking rest).cleared h.frame) idle,
      State.dropCarry_of_none (s := (s.taking rest).cleared h.frame) uncarried,
      State.reportIdle_resets (s := (s.taking rest).cleared h.frame) rfl rfl uncarried, State.cleared, Line.removeReplies_eq]
    rfl
  · let u := (s.taking rest).cleared h.frame
    obtain ⟨slots, effective, latch, further, hold, startup, silo, order⟩ := State.resetEngine_leaves (s := u) rfl
    have line : u.line = _ := Line.removeReplies_eq _
    have told : u.offered u.resetEngine := State.offered.refl.resetEngine
    refine ⟨_, execBayReset_passes hh passes, slots, effective, latch, further, hold, startup, silo.trans ?_,
      order.trans ?_, told.lines.sheds.trans (Line.removeReplies_sheds _), fun e he hr ho => ?_, fun idle => ?_,
      fun running => ?_, fun running fresh => ?_⟩
    · rw [line]
      rfl
    · rw [line]
      rfl
    · exact Line.removeReplies_reply (told.lines.replies e he hr ho) hr
    · obtain ⟨phase, ended, _⟩ := State.reportIdle_idle (s := u.dropCarry) (by simp; rfl)
      rw [State.resetEngine_idle (s := u) idle]
      exact ⟨phase.trans ((State.dropCarry_phase u).trans idle), ended⟩
    · obtain ⟨e, p, whole, phase, result, check, _⟩ := State.resetEngine_running (s := u) running
      rw [whole]
      exact ⟨rfl, line, phase, result, check, rfl⟩
    · obtain ⟨e, p, whole, _, _, _, began⟩ := State.resetEngine_running (s := u) running
      rw [whole]
      exact began fresh
  · exact State.reportIdle_resets resetting empty uncarried
  · intro o ho drop aborting noResult
    obtain ⟨u, whole, engine, queue, kept⟩ := State.finishAbort_noResult (s := s.setPort { s.port with
      onPort := none, ackTimer := none, applied := o.setpoint.value }) noResult false
    obtain ⟨phase, ended, _⟩ := State.reportIdle_idle (queue.trans empty)
    refine ⟨_, u, execSetpointAcknowledgement_drop ho drop aborting, by rw [whole], engine, queue.trans empty,
      kept.trans resetting, ?_, ?_⟩
    · simpa [whole] using ended
    · simp [whole, phase, engine, Engine.reset]

end Sys2Proof.Machine
end

section
/-!
PROOF. What a validation makes of the part data of a slot (R54, R73, R101 to R104): refused at the first failing test, or
clamped and claimed; and that the check it leaves lies within every limit.
-/

namespace Sys2Proof.Machine

/-! ### The steps of a validation (R73) -/

/-- The claim tests, once the tests of the parts are passed: the check with the need of its ceiling, or one of the two claim
refusals (R54, R73). -/
def ConfigRecord.claims (c : ConfigRecord) (clamped : Params × Bool × Bool) : Validated :=
  let need := c.needOf clamped.1.ceiling
  if 400 < need then .refused .claimTooLarge 255
  else if c.capacity - c.reserve < need then .refused .claimExceedsFeeder 255
  else .held { params := clamped.1, ceilingClamped := clamped.2.1, dwellClamped := clamped.2.2, need := need }

section

variable {c : ConfigRecord} {guard : Nat} {kind : CheckKind} {parts : List (List Byte)}

theorem validate_eq (c : ConfigRecord) (guard : Nat) (kind : CheckKind) (parts : List (List Byte)) :
    validate c guard kind parts =
      match (readParams kind parts).failingPart parts.length with
      | some index => .refused .badParam index
      | none => c.claims ((readParams kind parts).clamp guard) := rfl

theorem validate_refused {index : Nat} (h : (readParams kind parts).failingPart parts.length = some index) :
    validate c guard kind parts = .refused .badParam index := by
  rw [validate_eq, h]

theorem validate_claims (h : (readParams kind parts).failingPart parts.length = none) :
    validate c guard kind parts = c.claims ((readParams kind parts).clamp guard) := by
  rw [validate_eq, h]

end

/-- A test stands before the tests behind it. -/
@[simp] theorem failsAt_or (index : Nat) (refused : Bool) (rest : Option Nat) :
    (failsAt index refused).or rest = if refused then some index else rest := by
  cases refused <;> rfl

theorem failsAt_eq (index : Nat) (refused : Bool) : failsAt index refused = if refused then some index else none := rfl

/-- The tests of part 2 of both trip kinds (R103). -/
theorem TripTail.refused_iff (t : TripTail) : t.refused = true ↔ t.collapseCount = 0 ∨ 16 < t.collapseCount ∨
    t.offTime = 0 ∨ 100 < t.offTime ∨ t.recoverWait = 0 ∨ 600 < t.recoverWait := by
  simp [TripTail.refused, or_assoc]

/-- The three tests of a trip kind in their order, and the claim tests behind them (R73, R103). -/
theorem validate_of_tests {c : ConfigRecord} {guard : Nat} {kind : CheckKind} {parts : List (List Byte)}
    {a b d : Bool} {A B D : Prop} [Decidable A] [Decidable B] [Decidable D]
    (tests : (readParams kind parts).failingPart parts.length = (failsAt 0 a).or ((failsAt 1 b).or (failsAt 2 d)))
    (ha : a = true ↔ A) (hb : b = true ↔ B) (hd : d = true ↔ D) :
    validate c guard kind parts =
      if A then .refused .badParam 0 else if B then .refused .badParam 1 else if D then .refused .badParam 2
      else c.claims ((readParams kind parts).clamp guard) := by
  rw [validate_eq, tests]
  simp only [← ha, ← hb, ← hd]
  cases a
  · cases b
    · cases d <;> rfl
    · rfl
  · rfl

/-- The tests of a DERATE check in their order: four of its parts, and then its curve (R103). -/
theorem derate_failingPart (count : Nat) (p : DerateParams) {A B D E : Prop}
    [Decidable A] [Decidable B] [Decidable D] [Decidable E]
    (hA : A ↔ p.tHigh < p.tLow ∨ p.soakMaximum = 0) (hB : B ↔ 1000 < p.ramp.dwell)
    (hD : D ↔ p.foldCount = 0 ∨ 16 < p.foldCount)
    (hE : E ↔ p.ramp.ceiling = 0 ∨ p.ramp.ceiling < p.ramp.start ∨ p.points + 4 ≠ count ∨ p.blockSets < 1000 ∨
      60000 < p.blockSets) :
    (Params.derate p).failingPart count =
      if A then some 0 else if B then some 1 else if D then some 2 else if E then some 3
      else curveFails 4 none p.curve := by
  have tests : (Params.derate p).failingPart count =
      (failsAt 0 (decide A)).or ((failsAt 1 (decide B)).or ((failsAt 2 (decide D)).or
        ((failsAt 3 (decide E)).or (curveFails 4 none p.curve)))) := by
    simp [Params.failingPart, hA, hB, hD, hE, or_assoc]
  rw [tests]
  simp only [failsAt_or, decide_eq_true_eq]

/-- A curve that passes rises strictly from the temperature before it, with every power in range (R103). -/
theorem rising_of_curveFails_none {curve : List Point} {index : Nat} {before : Option Int}
    (h : curveFails index before curve = none) :
    curve.Pairwise (fun a b => a.temperature < b.temperature) ∧ (∀ x ∈ curve, x.power ≤ 60000) ∧
      ∀ t ∈ before, ∀ x ∈ curve, t < x.temperature := by
  induction curve generalizing index before with
  | nil => simp
  | cons p rest ih =>
    rw [curveFails_cons] at h
    split at h
    · cases h
    case isFalse passes =>
      obtain ⟨falls, power⟩ := not_or.mp passes
      obtain ⟨rising, powers, above⟩ := ih h
      have above : ∀ x ∈ rest, p.temperature < x.temperature := above _ rfl
      have least : ∀ t ∈ before, t < p.temperature := fun t ht => not_le.mp fun hle => falls ⟨t, ht, hle⟩
      refine ⟨List.pairwise_cons.mpr ⟨above, rising⟩, ?_, fun t ht => ?_⟩
      · exact List.forall_mem_cons.mpr ⟨not_lt.mp power, powers⟩
      · exact List.forall_mem_cons.mpr ⟨least t ht, fun x hx => (least t ht).trans (above x hx)⟩

/-- What a validation that accepts makes of the parts (R73). -/
theorem validate_held {c : ConfigRecord} {guard : Nat} {kind : CheckKind} {parts : List (List Byte)} {w : Work}
    (h : validate c guard kind parts = .held w) :
    (readParams kind parts).failingPart parts.length = none ∧ c.needOf w.params.ceiling ≤ 400 ∧
      c.needOf w.params.ceiling ≤ c.capacity - c.reserve ∧
      w = { params := ((readParams kind parts).clamp guard).1
            ceilingClamped := ((readParams kind parts).clamp guard).2.1
            dwellClamped := ((readParams kind parts).clamp guard).2.2, need := c.needOf w.params.ceiling } := by
  rw [validate_eq] at h
  cases ht : (readParams kind parts).failingPart parts.length with
  | some index => rw [ht] at h; cases h
  | none =>
    rw [ht] at h
    dsimp only [ConfigRecord.claims] at h
    split at h
    · cases h
    · split at h
      · cases h
      · cases h
        exact ⟨rfl, not_lt.mp ‹_›, not_lt.mp ‹_›, rfl⟩

/-! ### The ranges of a validated check (R103, R104) -/

/-- A ramp after its clamps (R103, R104). -/
abbrev Ramp.fits (r : Ramp) : Prop := r.start ≤ r.ceiling ∧ 1 ≤ r.rise ∧ 1 ≤ r.dwell ∧ r.dwell ≤ 1000

/-- Part 2 of both trip kinds in range (R103). -/
abbrev TripTail.fits (t : TripTail) : Prop :=
  (1 ≤ t.collapseCount ∧ t.collapseCount ≤ 16) ∧ (1 ≤ t.offTime ∧ t.offTime ≤ 100) ∧
  (1 ≤ t.recoverWait ∧ t.recoverWait ≤ 600)

/-- The ranges of R103 of a check of `count` parts, after the clamps of R104. -/
abbrev Params.fits (count : Nat) : Params → Prop
  | .tripRamp p => p.ramp.fits ∧ p.windowLow ≤ p.windowHigh ∧ p.windowHigh ≤ p.ramp.ceiling ∧ p.tail.fits
  | .tripTime p =>
    p.preload ≤ p.overload ∧ p.timeLow ≤ p.timeHigh ∧ p.timeHigh ≤ 65534 ∧ 1 ≤ p.preDwell ∧
    (1 ≤ p.timeOut ∧ p.timeOut ≤ 60000) ∧ p.tail.fits
  | .derate p =>
    p.ramp.fits ∧ p.tLow ≤ p.tHigh ∧ 1 ≤ p.soakMaximum ∧ (1 ≤ p.foldCount ∧ p.foldCount ≤ 16) ∧
    (1000 ≤ p.blockSets ∧ p.blockSets ≤ 60000) ∧ p.curve.length = p.points ∧ p.points + 4 = count ∧
    p.curve.Pairwise (fun a b => a.temperature < b.temperature) ∧ ∀ x ∈ p.curve, x.power ≤ 60000

theorem Ramp.clamp_fits {r : Ramp} (guard : Nat) (dwell : r.dwell ≤ 1000) : (r.clamp guard).fits := by
  simp only [Ramp.fits, Ramp.clamp]
  omega

theorem TripTail.fits_of_not_refused {t : TripTail} (h : ¬ t.refused = true) : t.fits := by
  rw [t.refused_iff] at h
  simp only [TripTail.fits]
  omega

/-- The check is of the kind of its slot, and its ceiling is the guard's where that is the lower. -/
theorem clamp_kind_and_ceiling (kind : CheckKind) (parts : List (List Byte)) (guard : Nat) :
    ((readParams kind parts).clamp guard).1.kind = kind ∧ ((readParams kind parts).clamp guard).1.ceiling ≤ guard ∧
      (((readParams kind parts).clamp guard).2.1 = true →
        ((readParams kind parts).clamp guard).1.ceiling = guard) := by
  cases kind
  all_goals
    refine ⟨rfl, min_le_right _ _, fun clamped => min_eq_right ?_⟩
    exact (of_decide_eq_true clamped).le

theorem tripRamp_clamp_fits {count : Nat} (guard : Nat) {p : RampParams}
    (h : (Params.tripRamp p).failingPart count = none) : ((Params.tripRamp p).clamp guard).1.fits count := by
  simp only [Params.failingPart, failsAt_eq] at h
  split at h
  · cases h
  case isFalse dwell =>
    split at h
    · cases h
    case isFalse window =>
      split at h
      · cases h
      case isFalse tail =>
        simp only [Bool.or_eq_true, beq_iff_eq, decide_eq_true_eq, not_or, not_lt] at dwell window
        refine ⟨p.ramp.clamp_fits guard dwell, ?_, ?_, TripTail.fits_of_not_refused tail⟩
        · exact min_le_min_right _ window.1.1.2
        · exact min_le_right _ _

theorem tripTime_clamp_fits {count : Nat} (guard : Nat) {p : TimeParams}
    (h : (Params.tripTime p).failingPart count = none) : ((Params.tripTime p).clamp guard).1.fits count := by
  simp only [Params.failingPart, failsAt_eq] at h
  split at h
  · cases h
  case isFalse window =>
    split at h
    · cases h
    case isFalse times =>
      split at h
      · cases h
      case isFalse tail =>
        simp only [Bool.or_eq_true, beq_iff_eq, decide_eq_true_eq, not_or, not_lt, not_le] at window times
        refine ⟨min_le_right _ _, window.1.2, window.2, le_max_right _ _, ⟨?_, times.2⟩,
          TripTail.fits_of_not_refused tail⟩
        exact Nat.one_le_iff_ne_zero.mpr times.1.2

theorem derate_clamp_fits {count : Nat} (guard : Nat) {p : DerateParams} (points : p.curve.length = count - 4)
    (h : (Params.derate p).failingPart count = none) : ((Params.derate p).clamp guard).1.fits count := by
  rw [derate_failingPart count p .rfl .rfl .rfl .rfl] at h
  split at h
  · cases h
  case isFalse limits =>
    split at h
    · cases h
    case isFalse dwell =>
      split at h
      · cases h
      case isFalse folds =>
        split at h
        · cases h
        case isFalse ceiling =>
          obtain ⟨rising, powers, _⟩ := rising_of_curveFails_none h
          exact ⟨p.ramp.clamp_fits guard (by omega), by dsimp only; omega, by dsimp only; omega, by dsimp only; omega,
            by dsimp only; omega, by dsimp only; omega, by dsimp only; omega, rising, powers⟩

theorem readParams_clamp_fits {kind : CheckKind} {parts : List (List Byte)} (guard : Nat)
    (h : (readParams kind parts).failingPart parts.length = none) :
    ((readParams kind parts).clamp guard).1.fits parts.length := by
  cases kind with
  | tripRamp => exact tripRamp_clamp_fits guard h
  | tripTime => exact tripTime_clamp_fits guard h
  | derate => exact derate_clamp_fits guard (by simp [curvePoints]) h

/-- Which point of a curve is refused, with no temperature before its first (R103). -/
theorem curveBad_none_iff (curve : List Point) (j : Nat) :
    curveBad none curve j ↔ ∃ q ∈ curve[j]?, 60000 < q.power ∨
      0 < j ∧ ∃ before ∈ curve[j - 1]?, q.temperature ≤ before.temperature := by
  simp [curveBad]

/-- Settles O31: the claim tests stand behind the tests of R103 in their order, and a check that passes them is the one
that the clamps leave. -/
theorem validatedWorkInRange : Obligations.ValidatedWorkInRange := by
  refine ⟨fun c guard parts => ?_, fun c guard kind parts w valid => ?_⟩
  · dsimp only
    refine ⟨?_, ?_, ?_⟩
    · rw [validate_of_tests rfl decide_eq_true_iff
        (B := field16 (partAt parts 1) 4 = 0 ∨ _ ∨ _ ∨ _) (by simp [or_assoc]; rfl) (TripTail.refused_iff _)]
      simp only [ConfigRecord.claims, Bool.decide_or]
      rfl
    · rw [validate_of_tests rfl
        (A := field16 (partAt parts 0) 0 = 0 ∨ _ ∨ _) (by simp [or_assoc]; rfl)
        (B := field16 (partAt parts 0) 0 ≤ _ ∨ _ ∨ _) (by simp [or_assoc]; rfl) (TripTail.refused_iff _)]
      simp only [ConfigRecord.claims]
      rfl
    · have tests : (readParams .derate parts).failingPart parts.length = _ :=
        derate_failingPart _ _ .rfl .rfl .rfl .rfl
      refine ⟨fun limits => validate_refused (tests.trans (if_pos limits)), fun limits => ?_⟩
      replace tests := tests.trans (if_neg limits)
      refine ⟨fun dwell => validate_refused (tests.trans (if_pos dwell)), fun dwell => ?_⟩
      replace tests := tests.trans (if_neg dwell)
      refine ⟨fun folds => validate_refused (tests.trans (if_pos folds)), fun folds => ?_⟩
      replace tests := tests.trans (if_neg folds)
      refine ⟨fun ceiling => validate_refused (tests.trans (if_pos ceiling)), fun ceiling => ?_⟩
      replace tests := tests.trans (if_neg ceiling)
      refine ⟨fun j bad first => validate_refused (tests.trans ?_), fun none => ?_⟩
      · exact curveFails_some _ _ _ _ ((curveBad_none_iff _ j).mpr bad) fun i hi =>
          (curveBad_none_iff _ i).not.mpr (first i hi)
      · rw [validate_claims (tests.trans (curveFails_none _ _ _ fun j => (curveBad_none_iff _ j).not.mpr (none j)))]
        simp only [ConfigRecord.claims, Bool.decide_or]
        rfl
  · obtain ⟨passes, small, fits, held⟩ := validate_held valid
    obtain ⟨ofKind, below, clamped⟩ := clamp_kind_and_ceiling kind parts guard
    have ranges := readParams_clamp_fits guard passes
    obtain ⟨params, ceilingClamped, dwellClamped, need⟩ := w
    obtain ⟨rfl, rfl, rfl, hneed⟩ := Work.mk.inj held
    refine ⟨ofKind, below, hneed, hneed.trans_le small, hneed.trans_le fits, clamped, ?_⟩
    exact ranges

end Sys2Proof.Machine
end

section
/-!
PROOF. What the engine's, the slot table's and the port's operations can do to the own claim: they withdraw a need, state
the need of the engine's check, or report to the headroom unit what stands at the port (R45 to R47, R51, R54 to R56).
Nothing else of the claim moves with them, nor does the load that the claim covers. One lemma for each operation, in the
order of Machine/.
-/

-- Elaborated one after the other: side by side these proofs ask for more threads than the check has memory for.
set_option Elab.async false

namespace Sys2Proof.Machine

/-! ### The relations -/

/-- The fields of the headroom unit that the form of the own claim speaks of, with every other at its reset value (R43). -/
def Headroom.claimPart (u : Headroom) : Headroom :=
  { Headroom.reset with
    claim := u.claim, held := u.held, need := u.need, own := u.own, note := u.note, target := u.target
    contestTimer := u.contestTimer, backoffTimer := u.backoffTimer, refreshTimer := u.refreshTimer
    staleTimer := u.staleTimer }

/-- What slot `x` has of a validation or of an assembly, slot `y` has as well. -/
structure Slot.within (x y : Slot) : Prop where
  work : ∀ w ∈ x.work, w ∈ y.work
  assembling : x.isAssembling = true → y.isAssembling = true

/-- A slot or the engine's check has a need of this amount (R73, R125). -/
def State.hasNeed (s : State) (amount : Nat) : Prop :=
  (∃ n, ∃ w ∈ (s.slotTable.slot n).work, w.need = amount) ∨ ∃ c ∈ s.engine.check, c.need = amount

/-- The own claim stands in `t` as in `s`, with no need in slots or engine that `s` does not have, no further assembly,
and the same start-up record and limits. -/
structure State.claimStands (s t : State) : Prop where
  startup : t.startup = s.startup
  effective : t.guardUnit.effective = s.guardUnit.effective
  claim : t.headroom.claimPart = s.headroom.claimPart
  slots : ∀ n, (t.slotTable.slot n).within (s.slotTable.slot n)
  check : ∀ c ∈ t.engine.check, s.hasNeed c.need

/-- The load that a claim covers stands: the applied setpoint is the same, and a contactor confirmed open stays so where
that setpoint is not zero (R54). -/
structure State.loadStands (s t : State) : Prop where
  applied : t.port.applied = s.port.applied
  opened : s.port.confirmedOpen = true → t.port.confirmedOpen = true ∨ t.port.applied = 0

/-- `t` comes of `o` by needs withdrawn and stated and by reports to the headroom unit, with claim and load standing
between them. -/
inductive State.claims (o : State) : State → Prop
  | refl : o.claims o
  | other {s t : State} (h : o.claims s) (claim : s.claimStands t) (load : s.loadStands t) : o.claims t
  | withdrawal {s : State} (h : o.claims s) : o.claims s.withdrawNeed
  | statement {s : State} (h : o.claims s) {amount : Nat} (priority : Nat) (stated : s.hasNeed amount) :
      o.claims (s.stateNeed amount priority)
  | report {s : State} (h : o.claims s) : o.claims s.portReport

/-- The claim stands while a command begins, whatever it does to the port, and then moves as `claims` says. -/
def State.reaches (s t : State) : Prop := ∃ u, s.claimStands u ∧ u.claims t

variable {o s t u : State}

theorem Slot.within.refl (x : Slot) : x.within x := ⟨fun _ => id, id⟩

theorem Slot.within.trans {x y z : Slot} (a : x.within y) (b : y.within z) : x.within z :=
  ⟨fun w hw => b.work w (a.work w hw), b.assembling ∘ a.assembling⟩

theorem Slot.within_vacant (y : Slot) : Slot.vacant.within y := ⟨nofun, nofun⟩

theorem State.claimStands.needs (h : s.claimStands t) {amount : Nat} (ha : t.hasNeed amount) : s.hasNeed amount := by
  obtain ⟨n, w, hw, rfl⟩ | ⟨c, hc, rfl⟩ := ha
  · exact .inl ⟨n, w, (h.slots n).work w hw, rfl⟩
  · exact h.check c hc

/-- The claim stands where no operation names headroom unit, slots or check. -/
theorem State.claimStands.of_same (claim : t.headroom.claimPart = s.headroom.claimPart := by simp)
    (startup : t.startup = s.startup := by simp) (effective : t.guardUnit.effective = s.guardUnit.effective := by simp)
    (slots : t.slotTable = s.slotTable := by simp) (check : t.engine.check = s.engine.check := by simp) :
    s.claimStands t where
  startup := startup
  effective := effective
  claim := claim
  slots n := by rw [slots]; exact .refl _
  check c hc := .inr ⟨c, check ▸ hc, rfl⟩

theorem State.claimStands.refl (s : State) : s.claimStands s := .of_same

theorem State.claimStands.trans (a : s.claimStands t) (b : t.claimStands u) : s.claimStands u where
  startup := b.startup.trans a.startup
  effective := b.effective.trans a.effective
  claim := b.claim.trans a.claim
  slots n := (b.slots n).trans (a.slots n)
  check c hc := a.needs (b.check c hc)

theorem State.loadStands.of_same (applied : t.port.applied = s.port.applied := by simp)
    (opened : t.port.confirmedOpen = s.port.confirmedOpen := by simp) : s.loadStands t :=
  ⟨applied, fun h => .inl (opened.trans h)⟩

/-! ### The check that the engine's operations leave -/

@[simp] theorem State.settle_check (s : State) (d : Determined) : (s.settle d).engine.check = s.engine.check := rfl

theorem State.planEnd_check (s : State) (d : Determined) : (s.planEnd d).engine.check = s.engine.check := by
  unfold State.planEnd
  split <;> rfl

theorem State.rampDwellEnd_check (s : State) (p : Params) (r : Ramp) :
    (s.rampDwellEnd p r).engine.check = s.engine.check := by
  unfold State.rampDwellEnd
  dsimp only
  split
  · rfl
  · exact State.planEnd_check _ _

theorem State.dwellSet_check (s : State) (p : Params) : (s.dwellSet p).engine.check = s.engine.check := by
  have counted (length : Nat) {atEnd : State → State} (h : ∀ u : State, (atEnd u).engine.check = u.engine.check) :
      (s.countDwell length atEnd).engine.check = s.engine.check := by
    obtain ⟨_, he⟩ | ⟨_, _, he⟩ | ⟨_, _, he⟩ := s.countDwell_cases length atEnd
    · rw [he]
    · rw [he]; rfl
    · rw [he]; exact h _
  unfold State.dwellSet
  split
  case h_1 | h_2 => exact counted _ fun u => u.rampDwellEnd_check _ _
  case h_3 => exact counted _ fun u => rfl
  case h_4 => split <;> rfl
  case h_5 => rfl

theorem State.runBroken_check (s : State) (p : Params) : (s.runBroken p).engine.check = s.engine.check := by
  unfold State.runBroken
  dsimp only
  split
  · rfl
  · exact State.dwellSet_check _ _

theorem State.collapseSet_check (s : State) (p : Params) (tail : TripTail) (before : Nat) (x : SampleSet) :
    (s.collapseSet p tail before x).engine.check = s.engine.check := by
  unfold State.collapseSet
  dsimp only
  split
  · split
    · rfl
    · exact State.dwellSet_check _ _
  · exact State.runBroken_check _ _

theorem State.raisePower_check (s : State) (x : SampleSet) : (s.raisePower x).engine.check = s.engine.check := by
  unfold State.raisePower
  split <;> rfl

theorem State.foldSet_check (s : State) (p : DerateParams) (x : SampleSet) :
    (s.foldSet p x).engine.check = s.engine.check := by
  unfold State.foldSet
  dsimp only
  split
  · split
    · exact State.raisePower_check _ _
    · exact (State.dwellSet_check _ _).trans (State.raisePower_check _ _)
  · exact (State.runBroken_check _ _).trans (State.raisePower_check _ _)

@[simp] theorem State.loadingSet_check (s : State) (c : Check) (before : Nat) (x : SampleSet) :
    (s.loadingSet c before x).engine.check = s.engine.check := by
  unfold State.loadingSet
  dsimp only
  split
  · exact State.collapseSet_check _ _ _ _ _
  · exact State.collapseSet_check _ _ _ _ _
  · exact State.foldSet_check _ _ _

namespace State.claims

/-! ### One block replaced -/

theorem trans (h : o.claims s) (h' : s.claims t) : o.claims t := by
  induction h' with
  | refl => exact h
  | other _ claim load ih => exact ih.other claim load
  | withdrawal _ ih => exact ih.withdrawal
  | statement _ priority stated ih => exact ih.statement priority stated
  | report _ ih => exact ih.report

/-- An operation that leaves claim, slots, check and load, as its frame lemma says. -/
theorem unmoved (h : o.claims s) (claim : t.headroom.claimPart = s.headroom.claimPart := by simp)
    (startup : t.startup = s.startup := by simp) (effective : t.guardUnit.effective = s.guardUnit.effective := by simp)
    (slots : t.slotTable = s.slotTable := by simp) (check : t.engine.check = s.engine.check := by simp)
    (applied : t.port.applied = s.port.applied := by simp)
    (opened : t.port.confirmedOpen = s.port.confirmedOpen := by simp) : o.claims t :=
  h.other (.of_same claim startup effective slots check) (.of_same applied opened)

theorem setEngine (h : o.claims s) (e : Engine) (check : e.check = s.engine.check := by simp) :
    o.claims (s.setEngine e) := h.unmoved rfl rfl rfl rfl check rfl rfl

theorem setPort (h : o.claims s) (p : Port) (applied : p.applied = s.port.applied := by simp)
    (opened : p.confirmedOpen = s.port.confirmedOpen := by simp) : o.claims (s.setPort p) :=
  h.unmoved rfl rfl rfl rfl rfl applied opened

theorem setLine (h : o.claims s) (l : Line) : o.claims (s.setLine l) := h.unmoved

theorem setGuardUnit (h : o.claims s) (g : GuardUnit) (effective : g.effective = s.guardUnit.effective := by simp) :
    o.claims (s.setGuardUnit g) := h.unmoved rfl rfl effective rfl rfl rfl rfl

theorem setSlotTable (h : o.claims s) (x : SlotTable) (slots : ∀ n, (x.slot n).within (s.slotTable.slot n)) :
    o.claims (s.setSlotTable x) :=
  h.other ⟨rfl, rfl, rfl, slots, fun c hc => .inr ⟨c, hc, rfl⟩⟩ (.of_same rfl rfl)

theorem putSlot (h : o.claims s) (n : Fin 8) (x : Slot) (hx : x.within (s.slotTable.slot n)) :
    o.claims (s.putSlot n x) := by
  refine h.setSlotTable _ fun m => ?_
  by_cases hm : n = m
  · subst hm
    rw [SlotTable.slot_put_self]
    exact hx
  · rw [SlotTable.slot_put_ne _ hm]
    exact .refl _

theorem vacate (h : o.claims s) (n : Fin 8) : o.claims (s.vacate n) :=
  (h.putSlot n .vacant (Slot.within_vacant _)).setSlotTable { s.slotTable.put n .vacant with
    queue := dequeueSlot n s.slotTable.queue } fun _ => .refl _

/-- One function over every slot, each left within what it was. -/
theorem mapSlots (h : o.claims s) (f : Slot → Slot) (hf : ∀ x : Slot, (f x).within x) (queue : List (Fin 8)) :
    o.claims (s.setSlotTable { s.slotTable with slots := s.slotTable.slots.map f, queue := queue }) := by
  refine h.setSlotTable _ fun n => ?_
  have mapped : ({ s.slotTable with slots := s.slotTable.slots.map f, queue := queue } : SlotTable).slot n =
      f (s.slotTable.slot n) := by
    simp only [SlotTable.slot, Fin.getElem_fin, Vector.getElem_map]
  rw [mapped]
  exact hf _

/-! ### Offers -/

theorem offerReplies (h : o.claims s) (block : Block) (group : List Frame) : o.claims (s.offerReplies block group) :=
  h.unmoved

theorem replyStatus (h : o.claims s) (block : Block) (target : Address) : o.claims (s.replyStatus block target) :=
  h.unmoved

theorem replySlot (h : o.claims s) (target : Address) (n : Fin 8) : o.claims (s.replySlot target n) := h.unmoved

theorem refuse (h : o.claims s) (block : Block) (f : Frame) (reason : Reason) (detail : Nat) :
    o.claims (s.refuse block f reason detail) := h.unmoved

theorem answerSlot (h : o.claims s) (f : Frame) (n : Fin 8) : o.claims (s.answerSlot f n) := by
  unfold State.answerSlot
  split
  · exact h
  · exact h.replySlot _ _

theorem offerClaim (h : o.claims s) (kind : ClaimKind) (held asked : Nat) : o.claims (s.offerClaim kind held asked) :=
  h.unmoved (by simp [Headroom.claimPart])

theorem releaseLocks (h : o.claims s) (hits : Nat → Bool) : o.claims (s.releaseLocks hits) := by
  refine h.mapSlots (Slot.release hits) (fun x => ?_) s.slotTable.queue
  unfold Slot.release
  split
  · split <;> exact ⟨fun _ => id, id⟩
  · exact .refl _

/-! ### The engine: the grant, and the start of a slot -/

theorem granted (h : o.claims s) (atOnce : Bool) : o.claims (s.granted atOnce) := by
  unfold State.granted
  split
  case h_1 c _ _ =>
    have claimed := h.setEngine { s.engine.leaveClaiming s.time with
      claimAmount := c.need, carried := s.engine.carried || (atOnce && c.params.isTrip) }
    dsimp only
    split
    · exact claimed.unmoved (check := rfl)
    · exact claimed.unmoved (check := rfl)
    · split
      · exact claimed.unmoved (check := rfl)
      · exact (claimed.setEngine _).withdrawal
  case h_2 => exact h

theorem enterClaiming (h : o.claims s) {c : Check} (hc : s.engine.check = some c) : o.claims (s.enterClaiming c) := by
  have entered := h.setEngine { s.engine with phase := .claiming, claimingSince := s.time, carry := false }
  have stated := entered.statement (amount := c.need) c.priority (.inr ⟨c, hc, rfl⟩)
  unfold State.enterClaiming
  dsimp only
  split
  · exact stated.granted _
  · exact stated

theorem restShown (h : o.claims s) {c : Check} (hc : s.engine.check = some c) : o.claims (s.restShown c) := by
  have shown := h.setEngine { s.engine with rest := none, restCount := 0 }
  unfold State.restShown
  dsimp only
  split
  · exact shown.setEngine _
  all_goals exact shown.enterClaiming hc

theorem dropCarry (h : o.claims s) : o.claims s.dropCarry := by
  unfold State.dropCarry
  split
  · exact (h.setEngine _).withdrawal
  · exact h

theorem settleCarry (h : o.claims s) (w : Work) : o.claims (s.settleCarry w) := by
  unfold State.settleCarry
  split
  · split
    · exact h
    · exact (h.setEngine _).withdrawal
  · exact h

theorem enterAbort (h : o.claims s) (cause : Option Cause) (noResult : Bool) :
    o.claims (s.enterAbort cause noResult) := h.unmoved (check := s.enterAbort_check cause noResult)

theorem closeWasRefused (h : o.claims s) : o.claims s.closeWasRefused :=
  (h.enterAbort s.guardUnit.latch false).setEngine _

/-- With the applied setpoint zero the contactor is closed under no load. -/
theorem quietContactor (h : o.claims s) (unloaded : s.port.applied = 0) : o.claims s.quietContactor :=
  h.other (.of_same (check := s.quietContactor_check)) ⟨by simp, fun _ => .inr (by simpa using unloaded)⟩

theorem enterQuiet (h : o.claims s) : o.claims s.enterQuiet := by
  unfold State.enterQuiet
  split
  case isTrue => exact h.unmoved
  case isFalse hn =>
    have unloaded : s.port.applied = 0 := by
      by_contra loaded
      simp [loaded] at hn
    exact (h.setEngine { s.engine with phase := .quiet }).quietContactor unloaded

/-- The check handed over has the need of the slot it comes from (R125). -/
theorem handOver (h : o.claims s) {n : Fin 8} (head : SlotHead) {w : Work} (hw : w ∈ (s.slotTable.slot n).work) :
    o.claims (s.handOver n head w) := by
  have settled := h.settleCarry w
  have taken : (s.settleCarry w).claimStands ((s.settleCarry w).setEngine { Engine.reset with
      phase := .quiet, carry := (s.settleCarry w).engine.carry, startStamp := (s.settleCarry w).time
      check := some { slot := n, priority := head.priority, params := w.params, need := w.need } }) :=
    { startup := rfl, effective := rfl, claim := rfl, slots := fun _ => .refl _
      check := by
        rintro c ⟨⟩
        exact .inl ⟨n, w, by simpa using hw, rfl⟩ }
  exact ((settled.other taken (.of_same rfl rfl)).setPort _).enterQuiet

theorem examineStart (h : o.claims s) : o.claims s.examineStart := by
  unfold State.examineStart
  split
  · exact h
  case h_2 n head w hs =>
    have held := (State.startable_held hs).2.2
    have active : o.claims (s.putSlot n (.active head w)) := h.putSlot n _ (by rw [held]; exact ⟨fun _ => id, nofun⟩)
    refine (active.setSlotTable { s.slotTable.put n (.active head w) with
      queue := dequeueSlot n s.slotTable.queue } fun _ => .refl _).handOver head ?_
    have put : (s.slotTable.put n (.active head w)).slot n = .active head w := SlotTable.slot_put_self _ _ _
    show w ∈ ((s.slotTable.put n (.active head w)).slot n).work
    rw [put]
    rfl

/-! ### The engine: the end of a check -/

theorem completeReset (h : o.claims s) : o.claims s.completeReset := h.unmoved

theorem reportIdle (h : o.claims s) : o.claims s.reportIdle := by
  unfold State.reportIdle
  dsimp only
  split
  · exact h.completeReset.examineStart
  · exact h.completeReset.dropCarry

theorem finishCheck (h : o.claims s) (carry : Bool) : o.claims (s.finishCheck carry) := by
  have ended : s.claimStands (s.setEngine { Engine.reset with carry := carry }) :=
    { startup := rfl, effective := rfl, claim := rfl, slots := fun _ => .refl _, check := nofun }
  exact ((h.other ended (.of_same rfl rfl)).setPort _).reportIdle

theorem handBack (h : o.claims s) (r : ResultRecord) : o.claims (s.handBack r) := by
  unfold State.handBack State.slotDone
  split
  · exact h
  · split
    case h_1 active => exact (h.putSlot _ _ (by rw [active]; exact ⟨fun _ => id, nofun⟩)).offerReplies _ _
    case h_2 => exact h

theorem release (h : o.claims s) : o.claims s.release := by
  have left := h.setEngine (s.engine.leaveClaiming s.time)
  unfold State.release
  dsimp only
  refine State.claims.finishCheck (State.claims.handBack ?_ _) _
  split
  · exact left
  · exact left.withdrawal

theorem notRun (h : o.claims s) (cause : Cause) : o.claims (s.notRun cause) := (h.setEngine _).release

theorem requestOpen (h : o.claims s) : o.claims s.requestOpen := h.unmoved

theorem vacateActive (h : o.claims s) : o.claims s.vacateActive := by
  unfold State.vacateActive
  split
  · exact h
  · split
    · exact h.putSlot _ _ (Slot.within_vacant _)
    · exact h

theorem finishAbort (h : o.claims s) (mismatched : Bool) : o.claims (s.finishAbort mismatched) := by
  have opened : o.claims (if s.engine.abortOpens mismatched then s.requestOpen else s) := by
    split
    · exact h.requestOpen
    · exact h
  unfold State.finishAbort
  generalize (if s.engine.abortOpens mismatched then s.requestOpen else s) = u at opened
  refine State.claims.finishCheck ?_ _
  split
  · exact opened.withdrawal.vacateActive
  · exact opened.withdrawal.handBack _

theorem beginAbort (h : o.claims s) (cause : Option Cause) (noResult : Bool) :
    o.claims (s.beginAbort cause noResult) := by
  unfold State.beginAbort
  dsimp only
  split
  · exact (h.enterAbort _ _).finishAbort _
  · exact h.enterAbort _ _

theorem secondCause (h : o.claims s) (cause : Cause) : o.claims (s.secondCause cause) := by
  unfold State.secondCause
  dsimp only
  split
  · exact h.setEngine _
  · split
    · exact h.setEngine _
    · split
      · split
        · exact (h.setEngine _).finishAbort _
        · exact h.setEngine _
      · exact h

theorem orderAbort (h : o.claims s) (cause : Cause) : o.claims (s.orderAbort cause) := by
  unfold State.orderAbort
  split
  case h_12 => exact h.secondCause _
  case h_1 => split; exacts [h.dropCarry, h]
  case h_9 | h_10 => split; exacts [h, h.beginAbort _ _]
  case h_11 => exact h
  all_goals exact h.beginAbort _ _

theorem resetEngine (h : o.claims s) : o.claims s.resetEngine := by
  unfold State.resetEngine
  split
  case h_1 => exact h.dropCarry.reportIdle
  case h_2 => exact h.setEngine _
  all_goals exact h.beginAbort _ _

/-! ### The engine: shed events and sample sets -/

theorem freeze (h : o.claims s) : o.claims s.freeze := h.unmoved (check := rfl)

theorem engineShed (h : o.claims s) : o.claims s.engineShed := by
  unfold State.engineShed
  split
  case h_1 | h_2 | h_3 =>
    split
    · exact h.freeze
    · exact h.beginAbort _ _
  case h_4 => exact h.setEngine _
  all_goals exact h

theorem shedEvent (h : o.claims s) (order : Word) : o.claims (s.shedEvent order) :=
  (h.unmoved (t := s.setHeadroom (s.headroom.shedEvent order)) (by simp [Headroom.claimPart])).engineShed

theorem ownShed (h : o.claims s) (e : Entry) (order : Word) : o.claims (s.ownShed e order) := by
  unfold State.ownShed
  split
  · exact h.engineShed
  · exact h.shedEvent _

theorem countRest (h : o.claims s) {c : Check} (hc : s.engine.check = some c) (x : SampleSet) :
    o.claims (s.countRest c x) := by
  unfold State.countRest
  generalize (if x.atRest s.config.nominalVoltage then s.engine.restCount + 1 else 0) = n
  dsimp only
  split
  · exact h.restShown hc
  · exact h.setEngine _

theorem quietSet (h : o.claims s) {c : Check} (hc : s.engine.check = some c) (x : SampleSet) :
    o.claims (s.quietSet c x) := by
  unfold State.quietSet
  split
  · exact h
  · split
    · have begun := h.setEngine { s.engine with
        quiet := .rest, startWait := none, rest := some (later s.time Config.restUnits) }
      exact begun.countRest hc x
    · exact h
  · exact h.countRest hc x

theorem soakSet (h : o.claims s) {c : Check} (hc : s.engine.check = some c) (p : DerateParams) (x : SampleSet) :
    o.claims (s.soakSet c p x) := by
  unfold State.soakSet
  dsimp only
  split
  · exact h.requestOpen.notRun _
  · split
    · exact State.claims.enterClaiming (h.setEngine _) hc
    · exact h.setEngine _

theorem engineSet (h : o.claims s) (x : SampleSet) : o.claims (s.engineSet x) := by
  unfold State.engineSet
  dsimp only
  split
  · exact h
  case h_2 c hc =>
    have taken := h.setEngine (s.engine.takeIn x)
    split
    case h_1 => exact taken.quietSet (by simpa using hc) x
    case h_2 | h_3 => exact taken.soakSet (by simpa using hc) _ x
    case h_4 | h_5 | h_6 | h_7 => exact taken.unmoved
    case h_8 => exact taken.unmoved
    case h_9 => split; exacts [taken.release, taken]
    case h_10 => exact taken

/-! ### The engine: answers to setpoints -/

theorem newestAcknowledged (h : o.claims s) (c : Check) : o.claims (s.newestAcknowledged c) := by
  have taken := h.setEngine { s.engine with awaiting := false }
  unfold State.newestAcknowledged
  dsimp only
  split
  case h_1 | h_2 => exact taken.setEngine _
  case h_3 => exact taken.unmoved
  case h_4 => split; exacts [taken.unmoved (check := by simp [State.enterRecover]), taken.release]
  case h_5 => exact taken

theorem setpointAcknowledged (h : o.claims s) (c : Check) : o.claims (s.setpointAcknowledged c) := by
  unfold State.setpointAcknowledged
  split
  · exact h.newestAcknowledged c
  · split
    · exact h.unmoved
    · exact h

/-! ### The guard unit, and what the port offers -/

theorem setHold (h : o.claims s) : o.claims s.setHold := h.unmoved

theorem latchFault (h : o.claims s) (cause : Cause) : o.claims (s.latchFault cause) := by
  unfold State.latchFault
  split
  · exact (h.setGuardUnit _).setHold.orderAbort _
  · exact (h.setGuardUnit _).orderAbort _

theorem latchFaults (h : o.claims s) (causes : List Cause) : o.claims (causes.foldl State.latchFault s) := by
  induction causes generalizing s with
  | nil => exact h
  | cons cause rest ih => exact ih (h.latchFault cause)

theorem guardSet (h : o.claims s) (x : SampleSet) : o.claims (s.guardSet x) := by
  unfold State.guardSet
  split
  · exact h
  · split
    · exact (h.setGuardUnit _).latchFaults _
    · exact h

theorem clearLatch (h : o.claims s) : o.claims s.clearLatch :=
  State.claims.latchFaults (State.claims.examineStart (h.unmoved)) _

theorem headroomSet (h : o.claims s) (x : SampleSet) : o.claims (s.headroomSet x) :=
  h.unmoved (by simp [Headroom.claimPart])

theorem offerSet (h : o.claims s) (x : SampleSet) (order : SetOrder) : o.claims (s.offerSet x order) := by
  unfold State.offerSet
  cases order
  · exact ((h.guardSet x).engineSet x).headroomSet x
  · exact ((h.engineSet x).guardSet x).headroomSet x

theorem answerDiffers (h : o.claims s) (sp : Setpoint) : o.claims (s.answerDiffers sp) := by
  unfold State.answerDiffers
  dsimp only
  split
  · exact (h.latchFault _).finishAbort _
  · exact h.latchFault _

theorem markSuspect (h : o.claims s) : o.claims s.markSuspect := h.unmoved (by simp [Headroom.claimPart])

end State.claims

end Sys2Proof.Machine
end

section
/-!
PROOF. What each command does to the own claim: it may set the claim first, in one of the ways that State.begins lists,
and the rest of the command moves it as State.claims says. From that, what every step keeps of the claim's form and when
a hold may come down are read off.
-/

namespace Sys2Proof.Machine

/-! ### Claims at the commands -/

/-- What a command sets of the own claim, of the needs beside it and of the start-up record, before the rest of it. -/
inductive State.begins (s : State) : Instr → State → Prop
  | same (c : Instr) : s.begins c s
  | reset (straps : Address) : s.begins (.powerReset straps) (s.strapped straps)
  | degraded (c : Instr) (fault : StationFault) (reading : s.readingConfig = true) : s.begins c (s.degrade fault)
  | configured (c : Instr) (record : List Byte) (reading : s.readingConfig = true) : s.begins c (s.takeConfig record)
  | joining (c : Instr) (looped : s.station = .selfLoop) : s.begins c s.enterJoining
  | failed (c : Instr) (fault : StationFault) (looped : s.station = .selfLoop) : s.begins c (s.goOffLine fault)
  | joined (joining : s.station = .joining) : s.begins .joinTimerExpiry s.joined
  | quieted (builds : s.station.builds = true) : s.begins .sendCollision s.quieted
  | apart (idle : s.station.builds = false) : s.begins .sendCollision s.apart
  | opened (n : Fin 8) (x : Slot) (arrival : Half) (builds : s.station.builds = true) (fresh : x.work = none) :
      s.begins .openSlot (s.setSlotTable { s.slotTable.put n x with arrival := arrival })
  | validated (n : Fin 8) (head : SlotHead) (work : Work) (parts : List (List Byte))
      (assembling : (s.slotTable.slot n).isAssembling = true)
      (valid : validate s.config s.effectiveCurrent head.kind parts = .held work) :
      s.begins .part (s.putSlot n (.held head work))
  | limited (c : Instr) (l : Option Limits) (may : s.mayLimit l) : s.begins c (s.withEffective l)
  | asked (order instant : Word) (queued : s.headroom.claim = .askQueued) :
      s.begins .frameSent (s.setHeadroom { s.headroom with
        claim := .contest, own := some order, contestTimer := some instant })
  | repeated (refresh stale : Word) (holding : s.headroom.claim = .holding) :
      s.begins .frameSent (s.setHeadroom { s.headroom with refreshTimer := some refresh, staleTimer := some stale })
  | noted (note : Noted) (contest : s.headroom.claim = .contest) :
      s.begins .contestTimerExpiry (s.setHeadroom { s.headroom with contestTimer := none, note := some note })
  | granted (need : Need) (stale : Timer) (contest : s.headroom.claim = .contest) (asks : s.headroom.need = some need) :
      s.begins .contestDecision (s.setHeadroom { s.headroom with
        claim := .holding, held := need.amount, own := none, note := none, contestTimer := none, staleTimer := stale })
  | yielded (instant : Word) (contest : s.headroom.claim = .contest) :
      s.begins .contestDecision (s.setHeadroom { s.headroom with
        claim := .backoff, own := none, note := none, contestTimer := none, backoffTimer := some instant })
  | askedAgain (backoff : s.headroom.claim = .backoff) :
      s.begins .backoffTimerExpiry (s.setHeadroom { s.headroom with claim := .askQueued, backoffTimer := none })
  | refreshed (holding : s.headroom.claim = .holding) :
      s.begins .refreshTimerExpiry (s.setHeadroom { s.headroom with refreshTimer := none })
  | staled (holding : s.headroom.claim = .holding) :
      s.begins .holdStaleTimerExpiry (s.setHeadroom { s.headroom with staleTimer := none })

/-- Command `c` takes `s` to `t`: once the frame it acts on is out of the way, it sets the claim, and goes on. -/
def State.goes (s : State) (c : Instr) (t : State) : Prop :=
  ∃ r u, s.claimStands r ∧ r.begins c u ∧ u.reaches t

variable {o s t u : State} {c : Instr}

theorem State.claims.reaches (h : s.claims t) : s.reaches t := ⟨s, .refl s, h⟩

theorem State.claimStands.reaches (h : s.claimStands t) : s.reaches t := ⟨t, h, .refl⟩

theorem State.claimStands.before (h : s.claimStands u) (h' : u.reaches t) : s.reaches t := by
  obtain ⟨v, hv, ht⟩ := h'
  exact ⟨v, h.trans hv, ht⟩

theorem State.reaches.goes (h : s.reaches t) : s.goes c t := ⟨s, s, .refl s, .same c, h⟩

theorem State.claims.goes (h : s.claims t) : s.goes c t := h.reaches.goes

theorem State.claimStands.goes (h : s.claimStands t) : s.goes c t := h.reaches.goes

theorem State.goes.refl (s : State) : s.goes c s := (State.claimStands.refl s).goes

theorem State.begins.goes (h : s.begins c u) (h' : u.claims t) : s.goes c t := ⟨s, u, .refl s, h, h'.reaches⟩

theorem State.claimStands.then (h : s.claimStands u) (h' : u.goes c t) : s.goes c t := by
  obtain ⟨r, v, hr, hv, ht⟩ := h'
  exact ⟨r, v, h.trans hr, hv, ht⟩

/-- A command that has set the claim may set other fields of the headroom unit beside it. -/
theorem State.begins.stands (h : s.begins c u) {v : State} (hv : u.claimStands v) (h' : v.claims t) : s.goes c t :=
  ⟨s, u, .refl s, h, v, hv, h'⟩

theorem State.claimStands.setLine (s : State) (l : Line) : s.claimStands (s.setLine l) := .of_same

theorem State.claimStands.setPort (s : State) (p : Port) : s.claimStands (s.setPort p) := .of_same

/-! ### Answers to setpoints -/

/-- A drop acknowledged in QUIET may close the contactor; nothing of the claim has moved by then (R126, R139). -/
theorem State.dropAcknowledged_reaches (s : State) : s.reaches s.dropAcknowledged := by
  have going : s.claimStands s.quietContactor := .of_same (check := s.quietContactor_check)
  unfold State.dropAcknowledged
  dsimp only
  split
  case h_1 =>
    split
    · split
      · exact going.before (State.claims.refl.finishAbort _).reaches
      · exact going.reaches
    · exact (State.claimStands.refl s).reaches
  case h_2 => exact (State.claims.refl.finishAbort _).reaches
  case h_3 => exact (State.claimStands.refl s).reaches

theorem State.engineAcknowledged_reaches (s : State) (sp : Setpoint) : s.reaches (s.engineAcknowledged sp) := by
  unfold State.engineAcknowledged
  split
  · exact s.dropAcknowledged_reaches
  · split
    · exact (State.claimStands.refl s).reaches
    · exact (State.claims.refl.setpointAcknowledged _).reaches

theorem State.answerMatches_reaches (s : State) (sp : Setpoint) : s.reaches (s.answerMatches sp) := by
  obtain ⟨u, hu, ht⟩ := (s.setPort { s.port with applied := sp.value }).engineAcknowledged_reaches sp
  exact ⟨u, (State.claimStands.setPort s _).trans hu, ht.report⟩

/-- The off-time over, the contactor is requested closed, or the check is aborted (R136, R138). -/
theorem State.offTimeOver_reaches (s : State) (c : Check) : s.reaches (s.offTimeOver c) := by
  unfold State.offTimeOver
  dsimp only
  split
  · split
    · exact (State.claims.refl.closeWasRefused.finishAbort _).reaches
    · exact State.claims.refl.closeWasRefused.reaches
  · exact State.claimStands.reaches .of_same

/-! ### The part's own frames, and silencing -/

theorem State.silence_goes (s : State) : s.goes .sendCollision s.silence := by
  cases hb : s.station.builds
  · rw [s.silence_apart hb]
    exact (State.begins.apart hb).goes .refl
  · have whole : s.silence = (s.quieted.orderAbort .stationSilenced).tryBar := by
      unfold State.silence
      rw [if_pos hb]; rfl
    have offLine : (s.quieted.orderAbort .stationSilenced).station = .offLine := by simp; rfl
    have reported : (s.quieted.orderAbort .stationSilenced).tryBar =
        (s.quieted.orderAbort .stationSilenced).portReport := by
      simp [State.portReport, offLine]
    rw [whole, reported]
    exact (State.begins.quieted hb).goes (State.claims.refl.orderAbort _).report

theorem State.claimCompleted_goes (s : State) (kind : BitVec 5) (order : Word) (newest : Bool) :
    s.goes .frameSent (s.claimCompleted kind order newest) := by
  unfold State.claimCompleted
  dsimp only
  split
  · exact .refl s
  · split
    · split
      · exact (State.claims.refl.offerClaim _ _ _).goes
      · exact .refl s
    · split
      case isTrue h =>
        simp only [Bool.and_eq_true, beq_iff_eq] at h
        let instant := later s.time (s.config.contestWindow * Config.unitsPerMs)
        refine (State.begins.asked order instant h.2).stands ?_ .refl
        exact .of_same rfl
      case isFalse =>
        split
        case isTrue h =>
          simp only [Bool.and_eq_true, beq_iff_eq] at h
          exact (State.begins.repeated _ _ h.2).goes .refl
        case isFalse => exact .refl s

theorem State.goes.setLine (h : s.goes c t) (l : Line) : s.goes c (t.setLine l) := by
  obtain ⟨r, u, hr, hu, v, hv, ht⟩ := h
  exact ⟨r, u, hr, hu, v, hv, ht.setLine l⟩

theorem State.reportCompleted_goes (s : State) (e : Entry) (order : Word) :
    s.goes .frameSent (s.reportCompleted e order) := by
  unfold State.reportCompleted
  dsimp only
  split
  · exact (s.claimCompleted_goes _ _ _).setLine _
  · split
    · exact (State.claims.refl.ownShed _ _).goes
    · exact (State.claims.refl.releaseLocks _).goes

theorem State.reportFailed_claims (h : o.claims s) (e : Entry) : o.claims (s.reportFailed e) := by
  unfold State.reportFailed
  split
  · exact h.releaseLocks _
  · exact h

/-! ### Requests -/

theorem State.takeOpen_goes (hc : s.station.connected = true) (h : Heard) : s.goes .openSlot (s.takeOpen h) := by
  have refused (r : Reason) : s.goes .openSlot (s.refuse .slotTable h.frame r detailRequest) :=
    (State.claims.refl.refuse _ _ _ _).goes
  unfold State.takeOpen
  dsimp only
  split
  · exact refused _
  · split
    · exact refused _
    · split
      case h_1 n _ _ _ _ open' _ =>
        have builds : s.station.builds = true := by
          cases hs : s.station <;> simp_all [State.openFails, StationState.connected, StationState.builds]
        exact (State.begins.opened n _ _ builds rfl).goes .refl
      all_goals exact refused _

theorem State.validateSlot_goes (f : Frame) {n : Fin 8} (assembling : (s.slotTable.slot n).isAssembling = true)
    (head : SlotHead) (parts : List (List Byte)) : s.goes .part (s.validateSlot f n head parts) := by
  unfold State.validateSlot
  split
  · exact ((State.claims.refl.vacate _).refuse _ _ _ _).goes
  case h_2 work valid =>
    refine (State.begins.validated n head work parts assembling valid).goes ?_
    exact ((State.claims.refl.setSlotTable { s.slotTable.put n (.held head work) with
      queue := _ } fun _ => .refl _).replySlot _ _).examineStart

theorem State.takePart_goes (s : State) (f : Frame) : s.goes .part (s.takePart f) := by
  have refused (r : Reason) : s.goes .part (s.refuse .slotTable f r detailRequest) :=
    (State.claims.refl.refuse _ _ _ _).goes
  unfold State.takePart
  split
  · exact refused _
  · split
    · exact refused _
    case h_2 n _ =>
      split
      case h_2 head expected parts deadline hn =>
        have assembling : (s.slotTable.slot n).isAssembling = true := by rw [hn]; rfl
        split
        · unfold State.takeOwnPart
          dsimp only
          split
          · split
            · exact (State.claims.refl.putSlot n _ ⟨fun _ h => (by cases h), fun _ => assembling⟩).goes
            · exact State.validateSlot_goes f assembling head _
          · exact ((State.claims.refl.vacate _).refuse _ _ _ _).goes
        · exact refused _
      all_goals exact refused _

theorem State.takeCancel_claims (s : State) (f : Frame) : s.claims (s.takeCancel f) := by
  have start : s.claims s := .refl
  unfold State.takeCancel
  split
  · exact start.refuse _ _ _ _
  · split
    · unfold State.cancelSlot
      split
      case h_1 | h_2 => exact start.refuse _ _ _ _
      case h_3 => split; exacts [(start.vacate _).answerSlot _ _, start.refuse _ _ _ _]
      case h_4 => exact (start.vacate _).answerSlot _ _
      case h_5 => exact (start.orderAbort _).answerSlot _ _
    · split
      · have vacated := start.mapSlots (fun x => if x.isHeld then .vacant else x) (fun x => by
          split
          · exact Slot.within_vacant _
          · exact .refl _) []
        unfold State.cancelAll
        dsimp only
        split
        · exact vacated.orderAbort _
        · exact vacated
      · exact start.refuse _ _ _ _

theorem State.takeClear_claims (s : State) (f : Frame) : s.claims (s.takeClear f) := by
  have start : s.claims s := .refl
  unfold State.takeClear
  split
  · exact start.refuse _ _ _ _
  · split
    · exact start.refuse _ _ _ _
    · split
      case h_6 => exact (start.vacate _).replySlot _ _
      all_goals exact start.refuse _ _ _ _

theorem State.takeFetch_claims (s : State) (f : Frame) : s.claims (s.takeFetch f) := by
  have start : s.claims s := .refl
  unfold State.takeFetch
  split
  · exact start.refuse _ _ _ _
  · split
    · exact start.refuse _ _ _ _
    · split
      case h_5 => exact start.refuse _ _ _ _
      case h_6 n _ head w r done =>
        unfold State.fetchResult
        dsimp only
        split
        · refine (start.offerReplies _ _).putSlot _ _ ?_
          simp only [State.offerReplies_frame, done]
          exact ⟨fun _ => id, nofun⟩
        · exact start.offerReplies _ _
      all_goals exact start.replySlot _ _

theorem State.takeStatus_claims (s : State) (f : Frame) : s.claims (s.takeStatus f) := by
  unfold State.takeStatus
  split
  · exact State.claims.refl.refuse _ _ _ _
  · exact State.claims.refl.replyStatus _ _

theorem State.takeClearFault_claims (s : State) (f : Frame) : s.claims (s.takeClearFault f) := by
  have start : s.claims s := .refl
  unfold State.takeClearFault
  split
  · exact start.refuse _ _ _ _
  · split
    · exact start.refuse _ _ _ _
    · split
      · exact start.refuse _ _ _ _
      · exact start.clearLatch.replyStatus _ _

theorem State.takeTighten_goes (s : State) (f : Frame) : s.goes c (s.takeTighten f) := by
  have refused (r : Reason) : s.goes c (s.refuse .guardUnit f r detailRequest) :=
    (State.claims.refl.refuse _ _ _ _).goes
  unfold State.takeTighten
  split
  · exact refused _
  · split
    · exact refused _
    · exact refused _
    case h_3 l set _ =>
      dsimp only
      split
      · exact refused _
      · exact (State.begins.limited c _ (.inr (.inl ⟨l, f.payload, set, rfl⟩))).goes
          (State.claims.refl.offerReplies .guardUnit _)

theorem State.takeBayReset_goes (s : State) (f : Frame) : s.goes c (s.takeBayReset f) := by
  unfold State.takeBayReset
  split
  · exact (State.claims.refl.refuse _ _ _ _).goes
  · have empty (n : Fin 8) : s.slotTable.vacateAll.slot n = .vacant := by
      simp [SlotTable.vacateAll, SlotTable.slot]
    refine ⟨s, s.withEffective (s.guardUnit.effective.map fun _ => s.config.limits), .refl s,
      .limited c _ (.inr (.inr rfl)), _, ?_, State.claims.refl.resetEngine⟩
    exact { startup := rfl, effective := rfl, claim := rfl
            slots := fun n => by
              show (s.slotTable.vacateAll.slot n).within _
              rw [empty]
              exact Slot.within_vacant _
            check := fun c hc => .inr ⟨c, hc, rfl⟩ }

theorem State.takeClaim_stands (s : State) (h : Heard) (apply : Nat × Nat × Nat → List Peer → List Peer) :
    s.claimStands (s.takeClaim h apply) := by
  unfold State.takeClaim
  split
  · split
    · exact .of_same rfl
    · exact .of_same (by simp [Headroom.claimPart])
  · exact .refl s

/-- A command of the silo moves the claim as what it makes of its frame does (R32). -/
theorem handedOn_goes {cls kind : Nat} {take : Heard → State → State} (hc : takesFrame c = some (cls, kind, take))
    (ht : exec c s = .next t) (hk : ∀ h (u : State), u.station.connected = true → u.goes c (take h u)) :
    s.goes c t := by
  obtain rfl | ⟨h, u, hh, rfl⟩ := exec_takesFrame hc ht
  · exact .refl _
  · obtain ⟨rest, ⟨connected, _⟩, rfl⟩ := State.handOn_taking hh
    exact (State.claimStands.setLine s _).then (hk h (s.taking rest) connected)

/-! ### Every command -/

theorem execContestDecision_goes (ht : execContestDecision s = .next t) : s.goes .contestDecision t := by
  cases ht
  split
  case h_1 need contest _ _ asks =>
    split
    · split
      · let stale := s.headroom.askCompleted.map fun t =>
          later t (Config.stalePeriods * s.config.refreshPeriod * Config.unitsPer100ms)
        have begun := State.begins.granted need stale contest asks
        refine begun.stands ?_ ((State.claims.refl.offerClaim _ _ _).granted false)
        exact .of_same rfl
      · let wait := backoffMs s.config s.address s.headroom.yields * Config.unitsPerMs
        refine (State.begins.yielded (later s.time wait) contest).stands ?_ (State.claims.refl.offerClaim _ _ _)
        exact .of_same rfl
    · exact .refl s
  case h_2 => exact .refl s

theorem execBackoffTimerExpiry_goes (ht : execBackoffTimerExpiry s = .next t) : s.goes .backoffTimerExpiry t := by
  cases ht
  split
  case h_1 backoff _ =>
    split
    · exact (State.begins.askedAgain backoff).goes (State.claims.refl.offerClaim _ _ _)
    · exact .refl s
  case h_2 => exact .refl s

theorem execSampleSetArrival_goes {r : ReportedSet} {order : SetOrder} (ht : execSampleSetArrival r order s = .next t) :
    s.goes c t := by
  cases ht
  split
  · have taken : s.claimStands (s.takeSet r.taken) := .setPort s _
    dsimp only
    split
    · exact (taken.before (State.claims.refl.report.offerSet _ order).reaches).goes
    · exact (taken.before (State.claims.refl.offerSet _ order).reaches).goes
  · exact .refl s

theorem execSetpointAcknowledgement_goes {v : Nat} (ht : execSetpointAcknowledgement v s = .next t) : s.goes c t := by
  cases ht
  split
  · exact (State.claims.refl.latchFault _).goes
  · dsimp only
    split
    · exact ((State.claimStands.setPort s _).before (State.answerMatches_reaches _ _)).goes
    · exact ((State.claimStands.setPort s _).before (State.claims.refl.answerDiffers _).reaches).goes

theorem execPowerReset_goes {straps : Address} (ht : execPowerReset straps s = .next t) :
    s.goes (.powerReset straps) t := by
  refine (State.begins.reset straps).goes ?_
  cases ht
  split
  · exact State.claims.refl.latchFault _
  · exact .refl

/-- Every command, by what it sets of the claim and how it goes on. -/
theorem exec_goes (ht : exec c s = .next t) : s.goes c t := by
  have start : s.claims s := .refl
  have stands : s.goes c s := .refl s
  cases c with
  | powerReset straps => exact execPowerReset_goes ht
  | stationTimeTick => cases ht; exact State.claimStands.goes .of_same
  | configReadComplete record =>
    obtain rfl | ⟨hr, rfl | rfl | rfl⟩ := execConfigReadComplete_cases ht
    · exact stands
    · exact (State.begins.degraded _ _ hr).goes .refl
    · exact (State.begins.degraded _ _ hr).goes .refl
    · exact (State.begins.configured _ _ hr).goes .refl
  | configReadNotAcknowledged =>
    obtain rfl | ⟨hr, rfl⟩ := execConfigReadNotAcknowledged_cases ht
    · exact stands
    · exact (State.begins.degraded _ _ hr).goes .refl
  | configReadTimeout =>
    obtain rfl | ⟨hr, rfl⟩ := execConfigReadTimeout_cases ht
    · exact stands
    · exact (State.begins.degraded _ _ hr).goes .refl
  | loopedFrameReceived bits =>
    obtain rfl | ⟨hl, rfl | rfl⟩ := execLoopedFrameReceived_cases ht
    · exact stands
    · exact (State.begins.joining _ hl).goes .refl
    · exact (State.begins.failed _ _ hl).goes .refl
  | selfLoopTimeout =>
    obtain rfl | ⟨hl, rfl⟩ := execSelfLoopTimeout_cases ht
    · exact stands
    · exact (State.begins.failed _ _ hl).goes .refl
  | joinTimerExpiry =>
    obtain rfl | ⟨hj, rfl⟩ := execJoinTimerExpiry_cases ht
    · exact stands
    · exact (State.begins.joined hj).goes State.claims.refl.examineStart
  | frameSent =>
    obtain ⟨_, rfl⟩ | ⟨_, e, _, rfl⟩ := execFrameSent_cases ht
    · exact stands
    · exact (State.claimStands.setLine s _).then (State.reportCompleted_goes _ e _)
  | sendCollision =>
    cases ht
    split
    · exact stands
    · dsimp only
      split
      · exact (State.claimStands.setLine s _).then (State.silence_goes _)
      · exact (State.reportFailed_claims (start.setLine _) _).goes
  | arbitrationLost => cases ht; split; exacts [stands, (State.reportFailed_claims (start.setLine _) _).goes]
  | transmitStart => cases ht; split; exacts [by split; exacts [(start.setLine _).goes, stands], stands]
  | frameReceived stamp bits =>
    obtain ⟨rfl, _⟩ | ⟨_, f, _, _, rfl⟩ := execFrameReceived_cases ht
    · exact stands
    · unfold State.hearFrame State.siloFrame
      dsimp only
      split
      · split
        · exact ((start.setLine _).setLine _).goes
        · exact ((start.setLine _).setLine _).markSuspect.goes
      · exact ((start.setLine _).setLine _).goes
      · exact (start.setLine _).goes
  | receivedInError bits =>
    cases ht; split; exacts [stands, by split; exacts [(start.setLine _).markSuspect.goes, stands]]
  | abortRunSeen => cases ht; split; exacts [stands, (start.setLine _).goes]
  | lineIdle => cases ht; split; exacts [(start.setLine _).goes, stands]
  | shed =>
    refine handedOn_goes rfl ht fun h u _ => ?_
    split
    · exact (State.claims.refl.shedEvent _).goes
    · exact .refl u
  | ask | hold | drop => exact handedOn_goes rfl ht fun h u _ => (u.takeClaim_stands h _).goes
  | openSlot => exact handedOn_goes rfl ht fun h u hc => State.takeOpen_goes hc h
  | part => exact handedOn_goes rfl ht fun h u _ => u.takePart_goes h.frame
  | cancel => exact handedOn_goes rfl ht fun h u _ => (u.takeCancel_claims h.frame).goes
  | clear => exact handedOn_goes rfl ht fun h u _ => (u.takeClear_claims h.frame).goes
  | fetch => exact handedOn_goes rfl ht fun h u _ => (u.takeFetch_claims h.frame).goes
  | status => exact handedOn_goes rfl ht fun h u _ => (u.takeStatus_claims h.frame).goes
  | tighten => exact handedOn_goes rfl ht fun h u _ => u.takeTighten_goes h.frame
  | clearFault => exact handedOn_goes rfl ht fun h u _ => (u.takeClearFault_claims h.frame).goes
  | bayReset => exact handedOn_goes rfl ht fun h u _ => u.takeBayReset_goes h.frame
  | assemblyDeadlineExpiry n =>
    cases ht
    split
    case h_1 => split; exacts [((start.vacate _).offerReplies _ _).goes, stands]
    all_goals exact stands
  | contestTimerExpiry =>
    cases ht
    split
    case isTrue h =>
      simp only [Bool.and_eq_true, beq_iff_eq] at h
      exact ⟨s, _, .refl s, .noted s.line.newest h.1, State.claimStands.reaches (.of_same rfl)⟩
    case isFalse => exact stands
  | contestDecision => exact execContestDecision_goes ht
  | backoffTimerExpiry => exact execBackoffTimerExpiry_goes ht
  | refreshTimerExpiry =>
    cases ht
    split
    case isTrue h =>
      simp only [Bool.and_eq_true, beq_iff_eq] at h
      exact (State.begins.refreshed h.1).goes (State.claims.refl.offerClaim _ _ _)
    case isFalse => exact stands
  | holdStaleTimerExpiry =>
    cases ht
    split
    case isTrue h =>
      simp only [Bool.and_eq_true, beq_iff_eq] at h
      exact (State.begins.staled h.1).goes (State.claims.refl.orderAbort _)
    case isFalse => exact stands
  | peerEntryExpiry address =>
    cases ht
    split
    · exact stands
    · split
      · exact State.claimStands.goes (.of_same rfl)
      · exact stands
  | reListenTimerExpiry => cases ht; split; exacts [State.claimStands.goes (.of_same rfl), stands]
  | sampleReadBegin => cases ht; split <;> exact (State.claimStands.setPort s _).goes
  | sampleSetArrival reported order => exact execSampleSetArrival_goes ht
  | sampleWatchdogExpiry => cases ht; split; exacts [((start.setPort _).latchFault _).goes, stands]
  | writeBegin =>
    cases ht; split; exacts [stands, by split; exacts [(State.claimStands.setPort s _).goes, stands]]
  | writeEnd => cases ht; split; exacts [(State.claimStands.setPort s _).goes, stands]
  | setpointAcknowledgement v => exact execSetpointAcknowledgement_goes ht
  | acknowledgementTimerExpiry =>
    cases ht; split; exacts [stands, by split; exacts [((start.setPort _).latchFault _).goes, stands]]
  | emergencyStopChange level =>
    cases ht
    split
    · exact stands
    · dsimp only; split; exacts [((start.setPort _).latchFault _).goes, (start.setPort _).goes]
  | startWaitTimerExpiry | restTimerExpiry =>
    cases ht; split; exacts [((start.setEngine _).requestOpen.notRun _).goes, stands]
  | soakMaximumTimerExpiry => cases ht; split; exacts [(start.notRun _).goes, stands]
  | shedHoldTimerExpiry =>
    cases ht; split; exacts [(start.setEngine _ (by unfold Engine.resume; dsimp only; split <;> rfl)).goes, stands]
  | timeOutTimerExpiry =>
    cases ht
    split
    · have stopped := start.setEngine { s.engine with trip := { s.engine.trip with timeOut := none } }
      dsimp only
      split
      · exact (stopped.unmoved (check := State.planEnd_check _ _)).goes
      · exact stopped.goes
    · exact stands
  | offTimeTimerExpiry =>
    cases ht
    split
    · exact stands
    · split
      · exact (State.claimStands.before .of_same (State.offTimeOver_reaches _ _)).goes
      · exact stands
  | recoverWaitTimerExpiry =>
    cases ht
    split
    · exact (((start.requestOpen.enterAbort _ _).setEngine _).latchFault _).goes
    · exact stands

end Sys2Proof.Machine
end

section
/-!
PROOF. The form of the own claim (R43): read off by the claim's state, kept by the operations that withdraw, state and
lower, and so by every command. Beside it the needs that slots and engine bring to the claim (R73).
-/

namespace Sys2Proof.Machine

/-! ### The form by the claim's state (R43) -/

/-- No timer of the own claim runs but those of a hold. -/
structure Headroom.asksNothing (u : Headroom) : Prop where
  contest : u.contestTimer = none
  backoff : u.backoffTimer = none

/-- No need, no lowering and no timer. -/
structure Headroom.bare (u : Headroom) : Prop extends u.asksNothing where
  need : u.need = none
  target : u.target = none
  refresh : u.refreshTimer = none
  stale : u.staleTimer = none

/-- A need above the hold and within 400 FU, no lowering, and no timer of a hold. -/
structure Headroom.asking (u : Headroom) : Prop where
  more : ∃ n ∈ u.need, u.held < n.amount ∧ n.amount ≤ Config.claimTop
  target : u.target = none
  refresh : u.refreshTimer = none
  stale : u.staleTimer = none

/-- A hold within 400 FU, on its way to the need that uses it, or to zero where none does. -/
structure Headroom.holds (u : Headroom) : Prop extends u.asksNothing where
  least : 1 ≤ u.held
  most : u.held ≤ Config.claimTop
  unused : u.need = none → ∀ amount ∈ u.target, amount = 0
  used : ∀ n ∈ u.need, (1 ≤ n.amount ∧ n.amount ≤ u.held) ∧ ∀ amount ∈ u.target, amount = n.amount

section

variable {u : Headroom}

theorem Headroom.asksMore_iff : u.asksMore = true ↔ ∃ n ∈ u.need, u.held < n.amount ∧ n.amount ≤ Config.claimTop := by
  unfold Headroom.asksMore
  split <;> simp_all

theorem Headroom.claimForm_of_rests (h : u.claim = .barred ∨ u.claim = .idle) :
    u.claimForm = true ↔ u.held = 0 ∧ u.bare := by
  have fields : u.bare ↔ u.need = none ∧ u.target = none ∧ u.contestTimer = none ∧ u.backoffTimer = none ∧
      u.refreshTimer = none ∧ u.staleTimer = none :=
    ⟨fun b => ⟨b.need, b.target, b.contest, b.backoff, b.refresh, b.stale⟩,
      fun ⟨need, target, contest, backoff, refresh, stale⟩ => ⟨⟨contest, backoff⟩, need, target, refresh, stale⟩⟩
  rw [fields]
  obtain h | h := h <;> simp [Headroom.claimForm, h, Headroom.quietBut, and_assoc]

theorem Headroom.asking_iff :
    u.asking ↔ u.asksMore = true ∧ u.target = none ∧ u.refreshTimer = none ∧ u.staleTimer = none := by
  rw [Headroom.asksMore_iff]
  exact ⟨fun a => ⟨a.more, a.target, a.refresh, a.stale⟩, fun ⟨a, b, c, d⟩ => ⟨a, b, c, d⟩⟩

theorem Headroom.claimForm_of_askQueued (h : u.claim = .askQueued) :
    u.claimForm = true ↔ u.asking ∧ u.contestTimer = none ∧ u.backoffTimer = none := by
  rw [Headroom.asking_iff]
  simp [Headroom.claimForm, h, Headroom.quietBut]
  grind

theorem Headroom.claimForm_of_contest (h : u.claim = .contest) :
    u.claimForm = true ↔ u.asking ∧ u.own.isSome = true ∧ (u.contestTimer.isSome = true ∨ u.note.isSome = true) ∧
      u.backoffTimer = none := by
  rw [Headroom.asking_iff]
  simp [Headroom.claimForm, h, Headroom.quietBut]
  grind

theorem Headroom.claimForm_of_backoff (h : u.claim = .backoff) :
    u.claimForm = true ↔ u.asking ∧ u.backoffTimer.isSome = true ∧ u.contestTimer = none := by
  rw [Headroom.asking_iff]
  simp [Headroom.claimForm, h, Headroom.quietBut]
  grind

theorem Headroom.claimForm_of_holding (h : u.claim = .holding) : u.claimForm = true ↔ u.holds := by
  have fields : u.holds ↔ 1 ≤ u.held ∧ u.held ≤ Config.claimTop ∧ u.usesHold = true ∧ u.contestTimer = none ∧
      u.backoffTimer = none := by
    have uses : u.usesHold = true ↔ (u.need = none → ∀ amount ∈ u.target, amount = 0) ∧
        ∀ n ∈ u.need, (1 ≤ n.amount ∧ n.amount ≤ u.held) ∧ ∀ amount ∈ u.target, amount = n.amount := by
      unfold Headroom.usesHold
      cases hn : u.need <;> cases ht : u.target <;> simp
    rw [uses]
    exact ⟨fun b => ⟨b.least, b.most, ⟨b.unused, b.used⟩, b.contest, b.backoff⟩,
      fun ⟨least, most, ⟨unused, used⟩, contest, backoff⟩ => ⟨⟨contest, backoff⟩, least, most, unused, used⟩⟩
  rw [fields]
  simp [Headroom.claimForm, h, Headroom.quietBut, and_assoc]

@[simp] theorem Headroom.claimPart_claimForm (u : Headroom) : u.claimPart.claimForm = u.claimForm := rfl

end

/-! ### What lowers, states and withdraws keeps the form -/

@[simp] theorem State.offerClaim_claimPart (s : State) (kind : ClaimKind) (held asked : Nat) :
    (s.offerClaim kind held asked).headroom.claimPart = s.headroom.claimPart := by
  simp [Headroom.claimPart]

@[simp] theorem State.offerClaim_claimForm (s : State) (kind : ClaimKind) (held asked : Nat) :
    (s.offerClaim kind held asked).headroom.claimForm = s.headroom.claimForm := by
  rw [← Headroom.claimPart_claimForm, State.offerClaim_claimPart, Headroom.claimPart_claimForm]

variable {s t u : State} {c : Instr}

theorem State.tryLower_claimForm (h : s.headroom.claimForm = true) : s.tryLower.headroom.claimForm = true := by
  unfold State.tryLower
  split
  case h_1 amount holding target =>
    have holds := (Headroom.claimForm_of_holding holding).mp h
    split
    case isTrue free =>
      have zero : amount = 0 := holds.unused (by simpa using free) _ target
      split
      · refine (Headroom.claimForm_of_rests (.inr ?_)).mpr ⟨?_, ⟨?_, ?_⟩, ?_, ?_, ?_, ?_⟩
        all_goals simp [Headroom.lowered, zero, holds.contest, holds.backoff, Option.isNone_iff_eq_none.mp free]
      · exact h
    case isFalse needed =>
      obtain ⟨n, asks⟩ := Option.ne_none_iff_exists'.mp (mt Option.isNone_iff_eq_none.mpr needed)
      obtain ⟨within, rfl⟩ := (holds.used n asks).imp id (fun carried => carried amount target)
      split
      · refine (Headroom.claimForm_of_holding (by simpa using holding)).mpr
          ⟨⟨by simpa using holds.contest, by simpa using holds.backoff⟩, within.1, within.2.trans holds.most, ?_, ?_⟩
        · simp
        · simp [asks, within.1]
      · exact h
  case h_2 => exact h

/-- A hold that no need uses, above zero, comes down from wherever its claim stood. -/
theorem State.lowerToZero_claimForm (timers : s.headroom.asksNothing) (need : s.headroom.need = none)
    (least : 1 ≤ s.headroom.held) (most : s.headroom.held ≤ Config.claimTop) :
    s.lowerToZero.headroom.claimForm = true :=
  State.tryLower_claimForm ((Headroom.claimForm_of_holding rfl).mpr
    { timers with least := least, most := most, unused := fun _ => by simp
                  used := by show ∀ n ∈ s.headroom.need, _; simp [need] })

/-- A claim whose need is withdrawn: at rest where it held nothing, and lowered otherwise (R46, R51). -/
theorem State.ended_claimForm {held : Nat} (hold : s.headroom.held = held) (idle : s.headroom.claim = .idle)
    (bare : s.headroom.bare) (most : held ≤ Config.claimTop) :
    (if held == 0 then s else s.lowerToZero).headroom.claimForm = true := by
  subst hold
  split
  case isTrue zero => exact (Headroom.claimForm_of_rests (.inr idle)).mpr ⟨by simpa using zero, bare⟩
  case isFalse loaded =>
    have least := Nat.one_le_iff_ne_zero.mpr (by simpa using loaded)
    exact State.lowerToZero_claimForm bare.toasksNothing bare.need least most

theorem Headroom.asking.most {u : Headroom} (h : u.asking) : u.held ≤ Config.claimTop := by
  obtain ⟨n, _, above, within⟩ := h.more
  exact above.le.trans within

theorem State.withdrawNeed_claimForm (h : s.headroom.claimForm = true) : s.withdrawNeed.headroom.claimForm = true := by
  unfold State.withdrawNeed
  split
  · exact h
  · dsimp only
    split
    case h_1 asks =>
      obtain ⟨asking, contest, backoff⟩ := (Headroom.claimForm_of_askQueued asks).mp h
      refine State.ended_claimForm ?_ ?_ ?_ asking.most
      exacts [rfl, rfl, ⟨⟨contest, backoff⟩, rfl, asking.target, asking.refresh, asking.stale⟩]
    case h_2 asks =>
      obtain ⟨asking, _, _, backoff⟩ := (Headroom.claimForm_of_contest asks).mp h
      refine State.ended_claimForm ?_ ?_ ⟨⟨?_, ?_⟩, ?_, ?_, ?_, ?_⟩ asking.most
      all_goals simp [backoff, asking.target, asking.refresh, asking.stale]
    case h_3 asks =>
      obtain ⟨asking, _, contest⟩ := (Headroom.claimForm_of_backoff asks).mp h
      refine State.ended_claimForm ?_ ?_ ?_ asking.most
      exacts [rfl, rfl, ⟨⟨contest, rfl⟩, rfl, asking.target, asking.refresh, asking.stale⟩]
    case h_4 holding =>
      have holds := (Headroom.claimForm_of_holding holding).mp h
      exact State.lowerToZero_claimForm (s := s.setHeadroom _) ⟨holds.contest, holds.backoff⟩ rfl holds.least holds.most
    case h_5 rests =>
      obtain ⟨held, bare⟩ := (Headroom.claimForm_of_rests (.inr rests)).mp h
      exact (Headroom.claimForm_of_rests (u := { s.headroom with need := none }) (.inr rests)).mpr
        ⟨held, { bare with need := rfl }⟩
    case h_6 rests =>
      obtain ⟨held, bare⟩ := (Headroom.claimForm_of_rests (.inl rests)).mp h
      exact (Headroom.claimForm_of_rests (u := { s.headroom with need := none }) (.inl rests)).mpr
        ⟨held, { bare with need := rfl }⟩

theorem State.stateNeed_claimForm (h : s.headroom.claimForm = true) {amount : Nat} (fits : needFits amount)
    (priority : Nat) : (s.stateNeed amount priority).headroom.claimForm = true := by
  unfold State.stateNeed
  dsimp only
  split
  case h_1 idle =>
    obtain ⟨held, bare⟩ := (Headroom.claimForm_of_rests (.inr idle)).mp h
    rw [State.offerClaim_claimForm]
    refine (Headroom.claimForm_of_askQueued rfl).mpr ⟨⟨⟨_, rfl, ?_, fits.2⟩, bare.target, bare.refresh, bare.stale⟩,
      bare.contest, bare.backoff⟩
    exact held.trans_lt fits.1
  case h_2 holding =>
    have holds := (Headroom.claimForm_of_holding holding).mp h
    split
    case isTrue within =>
      refine State.tryLower_claimForm ((Headroom.claimForm_of_holding ?claim).mpr
        ⟨⟨?contest, ?backoff⟩, ?least, ?most, nofun, ?used⟩)
      case claim => exact holding
      case contest => exact holds.contest
      case backoff => exact holds.backoff
      case least => exact holds.least
      case most => exact holds.most
      case used =>
        rintro _ ⟨⟩
        refine ⟨⟨fits.1, within⟩, fun target ht => ?_⟩
        dsimp only [State.setHeadroom] at ht
        split at ht
        · exact (Option.some.inj ht).symm
        · cases ht
    case isFalse above =>
      rw [State.offerClaim_claimForm]
      exact (Headroom.claimForm_of_askQueued rfl).mpr
        ⟨⟨⟨_, rfl, not_le.mp above, fits.2⟩, rfl, rfl, rfl⟩, holds.contest, holds.backoff⟩
  all_goals exact h

theorem State.portReport_claimForm (h : s.headroom.claimForm = true) : s.portReport.headroom.claimForm = true := by
  unfold State.portReport State.tryBar
  split
  · split
    case isTrue off =>
      have holds := (Headroom.claimForm_of_holding (by simp_all)).mp h
      exact (Headroom.claimForm_of_rests (.inl rfl)).mpr
        ⟨rfl, ⟨⟨holds.contest, holds.backoff⟩, rfl, rfl, rfl, rfl⟩⟩
    case isFalse => exact h
  · exact State.tryLower_claimForm h

/-! ### A claim that is BARRED stays so (R43) -/

theorem State.withdrawNeed_of_barred (h : s.headroom.claimForm = true) (barred : s.headroom.claim = .barred) :
    s.withdrawNeed = s := by
  obtain ⟨_, bare⟩ := (Headroom.claimForm_of_rests (.inl barred)).mp h
  simp [State.withdrawNeed, bare.need]

theorem State.stateNeed_of_barred (barred : s.headroom.claim = .barred) (amount priority : Nat) :
    s.stateNeed amount priority = s := by
  simp [State.stateNeed, barred]

theorem State.portReport_of_barred (barred : s.headroom.claim = .barred) : s.portReport = s := by
  simp [State.portReport, State.tryBar, State.tryLower, barred]

/-! ### What a command keeps of the form -/

theorem State.needForm.needFits (h : s.needForm) {amount : Nat} (has : s.hasNeed amount) : needFits amount := by
  obtain ⟨_, _, _, _, _, slots, check⟩ := h
  obtain ⟨n, w, hw, rfl⟩ | ⟨c, hc, rfl⟩ := has
  · exact slots n w hw
  · exact check c hc

theorem State.claimStands.claimForm (h : s.claimStands t) (hs : s.claimForm) : t.claimForm := by
  obtain ⟨form, barred, needs⟩ := hs
  obtain ⟨record, limits, loading, stands, assembly, slots, check⟩ := id needs
  have station : t.station = s.station := congrArg StartUp.station h.startup
  have claim : t.headroom.claim = s.headroom.claim := by
    show t.headroom.claimPart.claim = s.headroom.claimPart.claim
    rw [h.claim]
  refine ⟨?_, ?_, ?_, ?_, ?_, ?_, ?_, ?_, ?_⟩
  · rw [← Headroom.claimPart_claimForm, h.claim]
    exact form
  · rw [station, claim]; exact barred
  · rw [h.startup]; exact record
  · rw [h.startup, h.effective]; exact limits
  · rw [station, h.effective]; exact loading
  · rw [station, h.startup, h.effective]; exact stands
  · rw [station]
    exact fun apart n => Bool.eq_false_iff.mpr fun ha =>
      Bool.eq_false_iff.mp (assembly apart n) ((h.slots n).assembling ha)
  · exact fun n w hw => slots n w ((h.slots n).work w hw)
  · exact fun c hc => needs.needFits (h.check c hc)

theorem State.claims.claimForm (h : s.claims t) (hs : s.claimForm) : t.claimForm := by
  induction h with
  | refl => exact hs
  | other _ claim _ ih => exact claim.claimForm ih
  | @withdrawal u _ ih =>
    obtain ⟨form, barred, needs⟩ := ih
    refine ⟨State.withdrawNeed_claimForm form, fun onLine offLine => ?_, by simpa [State.needForm] using needs⟩
    have claim := barred (by simpa using onLine) (by simpa using offLine)
    rw [State.withdrawNeed_of_barred form claim, claim]
  | @statement u _ amount priority stated ih =>
    obtain ⟨form, barred, needs⟩ := ih
    refine ⟨State.stateNeed_claimForm form (needs.needFits stated) priority, fun onLine offLine => ?_,
      by simpa [State.needForm] using needs⟩
    have claim := barred (by simpa using onLine) (by simpa using offLine)
    rw [State.stateNeed_of_barred claim, claim]
  | @report u _ ih =>
    obtain ⟨form, barred, needs⟩ := ih
    refine ⟨State.portReport_claimForm form, fun onLine offLine => ?_, by simpa [State.needForm] using needs⟩
    have claim := barred (by simpa using onLine) (by simpa using offLine)
    rw [State.portReport_of_barred claim, claim]

/-! ### The need of a validated check (R54, R73) -/

theorem ConfigRecord.needOf_pos {c : ConfigRecord} (record : c.inRange) {current : Nat} (flows : 1 ≤ current) :
    1 ≤ c.needOf current := by
  obtain ⟨_, _, ⟨efficiency, _⟩, ⟨voltage, _⟩, _⟩ := record
  have divisor : 0 < c.efficiency * 1000 := by omega
  have power : 1 ≤ current * c.nominalVoltage := Nat.mul_pos flows (by omega)
  exact Nat.div_pos (by omega) divisor

theorem Params.clamp_ceiling (guard : Nat) (p : Params) : (p.clamp guard).1.ceiling = min p.ceiling guard := by
  cases p <;> rfl

/-- A check that passes its tests has a ceiling above zero. -/
theorem Params.one_le_ceiling {count : Nat} {p : Params} (h : p.failingPart count = none) : 1 ≤ p.ceiling := by
  refine Nat.one_le_iff_ne_zero.mpr fun zero => ?_
  cases p with
  | tripRamp p => simp [Params.failingPart, failsAt_eq, show p.ramp.ceiling = 0 from zero] at h
  | tripTime p => simp [Params.failingPart, failsAt_eq, show p.overload = 0 from zero] at h
  | derate p => simp [Params.failingPart, failsAt_eq, show p.ramp.ceiling = 0 from zero] at h

theorem needFits_of_validate {c : ConfigRecord} {guard : Nat} {kind : CheckKind} {parts : List (List Byte)} {w : Work}
    (record : c.inRange) (limited : 1 ≤ guard) (h : validate c guard kind parts = .held w) : needFits w.need := by
  obtain ⟨passes, most, _, held⟩ := validate_held h
  have need : w.need = c.needOf w.params.ceiling := congrArg Work.need held
  have params : w.params = _ := congrArg Work.params held
  refine ⟨?_, need.trans_le most⟩
  rw [need, params, Params.clamp_ceiling]
  exact ConfigRecord.needOf_pos record (le_min (Params.one_le_ceiling passes) limited)

/-! ### What each command sets keeps the form -/

theorem State.claimForm.setHeadroom (hs : s.claimForm) {u : Headroom} (claims : s.headroom.claim ≠ .barred)
    (form : u.claimForm = true) : (s.setHeadroom u).claimForm := by
  obtain ⟨_, barred, needs⟩ := hs
  exact ⟨form, fun onLine offLine => absurd (barred onLine offLine) claims, needs⟩

theorem Limits.tighten_current {e configured : Limits} (payload : List Byte) (he : 100 ≤ e.current)
    (hc : 100 ≤ configured.current) : 100 ≤ (e.tighten configured payload).current := by
  unfold Limits.tighten
  split
  · exact le_min (le_max_right _ _) hc
  · exact he
  · exact he

/-- After the straps are read the part is LOADING or in OFF_LINE, and as after power reset in all else (R3, R4). -/
theorem State.strapped_claimForm (s : State) (straps : Address) : (s.strapped straps).claimForm := by
  obtain ⟨form, _, record, limits, _, stands, assembly, slots, check⟩ := reset_claimForm
  unfold State.strapped State.takeStraps
  split
  · exact ⟨form, fun _ _ => rfl, record, limits, fun _ => rfl, stands, assembly, slots, check⟩
  · exact ⟨form, fun _ _ => rfl, record, limits, nofun, (by rintro (h | h) <;> cases h), assembly, slots, check⟩

theorem State.claimForm.config (hs : s.claimForm) {l : Limits} (hl : s.guardUnit.effective = some l) :
    s.config.inRange ∧ 100 ≤ l.current := by
  obtain ⟨_, _, record, limits, _⟩ := hs
  obtain ⟨current, stands⟩ := limits l hl
  obtain ⟨c, hc⟩ := Option.isSome_iff_exists.mp stands
  refine ⟨?_, current⟩
  rw [State.config, hc]
  exact record c hc

section

variable (hs : s.claimForm)
include hs

theorem State.claimForm.degrade (loading : s.station = .loading) (fault : StationFault) :
    (s.degrade fault).claimForm := by
  obtain ⟨form, barred, _, limits, unset, _, assembly, slots, check⟩ := hs
  have unlimited : ∀ l, s.guardUnit.effective ≠ some l := by simp [unset loading]
  have apart := assembly (by rw [loading]; rfl)
  exact ⟨form, fun _ _ => barred (by simp [loading]) (by simp [loading]), nofun,
    fun l hl => absurd hl (unlimited l), nofun, (by rintro (h | h) <;> cases h), fun _ => apart, slots, check⟩

theorem State.claimForm.takeConfig (loading : s.station = .loading) (bytes : List Byte) :
    (s.takeConfig bytes).claimForm := by
  obtain ⟨form, barred, _, _, _, _, assembly, slots, check⟩ := hs
  have apart := assembly (by rw [loading]; rfl)
  have record : (clampRecord bytes).1.inRange := clampRecord_inRange bytes
  refine ⟨form, fun _ _ => barred (by simp [loading]) (by simp [loading]), ?_, ?_, nofun, fun _ => ⟨rfl, rfl⟩,
    fun _ => apart, slots, check⟩
  · rintro _ ⟨⟩; exact record
  · rintro _ ⟨⟩
    obtain ⟨_, _, _, _, _, _, _, _, ⟨current, _⟩, _⟩ := record
    exact ⟨current, rfl⟩

theorem State.claimForm.enterJoining (looped : s.station = .selfLoop) : s.enterJoining.claimForm := by
  obtain ⟨form, barred, record, limits, _, stands, assembly, slots, check⟩ := hs
  exact ⟨form, fun _ _ => barred (by simp [looped]) (by simp [looped]), record, limits, nofun,
    fun _ => stands (.inl looped), nofun, slots, check⟩

theorem State.claimForm.goOffLine (apart : s.station.builds = false) (fault : StationFault) :
    (s.goOffLine fault).claimForm := by
  obtain ⟨form, _, record, limits, _, _, assembly, slots, check⟩ := hs
  exact ⟨form, fun _ offLine => absurd rfl offLine, record, limits, nofun, (by rintro (h | h) <;> cases h),
    fun _ => assembly apart, slots, check⟩

theorem State.claimForm.joined (joining : s.station = .joining) : s.joined.claimForm := by
  obtain ⟨form, barred, record, limits, _, stands, _, slots, check⟩ := hs
  have barred := barred (by simp [joining]) (by simp [joining])
  obtain ⟨held, bare⟩ := (Headroom.claimForm_of_rests (.inl barred)).mp form
  refine ⟨(Headroom.claimForm_of_rests (.inr rfl)).mpr ⟨held, ?_⟩, fun onLine => absurd rfl onLine, record, limits,
    nofun, fun _ => stands (.inr (by rw [joining]; rfl)), nofun, slots, check⟩
  exact ⟨⟨bare.contest, bare.backoff⟩, bare.need, bare.target, bare.refresh, bare.stale⟩

end

/-- Silencing leaves the hold of a claim that is HOLDING, and nothing else (R56). -/
theorem Headroom.silenced_claimForm {u : Headroom} (h : u.claimForm = true) : u.silenced.claimForm = true := by
  by_cases holding : u.claim = .holding
  · have holds := (Headroom.claimForm_of_holding holding).mp h
    refine (Headroom.claimForm_of_holding ?_).mpr ⟨⟨rfl, rfl⟩, ?_, ?_, ?_, ?_⟩
    all_goals simp [Headroom.silenced, holding, holds.least, holds.most]
  · refine (Headroom.claimForm_of_rests (.inl ?_)).mpr ⟨?_, ⟨rfl, rfl⟩, rfl, rfl, rfl, rfl⟩
    all_goals simp [Headroom.silenced, holding]

theorem State.claimForm.apart (hs : s.claimForm) (idle : s.station.builds = false) : s.apart.claimForm := by
  obtain ⟨form, _, needs⟩ := hs.goOffLine idle .dupAddress
  exact ⟨Headroom.silenced_claimForm form, fun _ offLine => absurd rfl offLine, needs⟩

theorem SlotTable.vacateIdle_slot_eq (x : SlotTable) (n : Fin 8) :
    x.vacateIdle.slot n = if (x.slot n).isActive then x.slot n else .vacant := by
  simp only [SlotTable.vacateIdle, SlotTable.slot, Fin.getElem_fin, Vector.getElem_map]
  rfl

/-- Of the slots only those that are ACTIVE outlast a silencing, and none of them is being assembled (R13). -/
theorem SlotTable.vacateIdle_slot_within (x : SlotTable) (n : Fin 8) :
    (x.vacateIdle.slot n).isAssembling = false ∧ ∀ w ∈ (x.vacateIdle.slot n).work, w ∈ (x.slot n).work := by
  rw [SlotTable.vacateIdle_slot_eq]
  split
  case isTrue active => exact ⟨by cases h : x.slot n <;> simp_all [Slot.isActive, Slot.isAssembling], fun _ => id⟩
  case isFalse => exact ⟨rfl, nofun⟩

theorem State.quieted_headroom (s : State) : s.quieted.headroom = s.headroom.silenced := by
  simp [State.quieted]
  rfl

theorem State.claimForm.quieted (hs : s.claimForm) : s.quieted.claimForm := by
  obtain ⟨form, _, record, limits, _, _, _, slots, check⟩ := hs
  have startup : s.quieted.startup = s.apart.startup := by simp [State.quieted]
  have effective : s.quieted.guardUnit.effective = s.guardUnit.effective := by
    simp [State.quieted, GuardUnit.clearRuns]; rfl
  have station : s.quieted.station = .offLine := by simp [State.quieted]; rfl
  have table : s.quieted.slotTable = s.slotTable.vacateIdle := by rfl
  have engine : s.quieted.engine = s.engine := by simp [State.quieted]; rfl
  refine ⟨?_, fun _ offLine => absurd station offLine, ?_, ?_, ?_, ?_, ?_, ?_, ?_⟩
  · rw [State.quieted_headroom]; exact Headroom.silenced_claimForm form
  · rw [startup]; exact record
  · rw [startup, effective]; exact limits
  · rw [station]; nofun
  · rw [station]; rintro (h | h) <;> cases h
  · rw [table]; exact fun _ n => (s.slotTable.vacateIdle_slot_within n).1
  · rw [table]; exact fun n w hw => slots n w ((s.slotTable.vacateIdle_slot_within n).2 w hw)
  · rw [engine]; exact check

/-- Slots may be filled where the part builds, with needs that fit (R73). -/
theorem State.claimForm.putSlot (hs : s.claimForm) (builds : s.station.builds = true) (n : Fin 8) {x : Slot}
    (fits : ∀ w ∈ x.work, needFits w.need) : (s.putSlot n x).claimForm := by
  obtain ⟨form, barred, record, limits, loading, stands, _, slots, check⟩ := hs
  refine ⟨form, barred, record, limits, loading, stands, fun apart => ?_, fun m w hw => ?_, check⟩
  · exact absurd (builds.symm.trans apart) (by decide)
  · by_cases same : n = m
    · subst same
      rw [State.putSlot, State.setSlotTable, SlotTable.slot_put_self] at hw
      exact fits w hw
    · rw [State.putSlot, State.setSlotTable, SlotTable.slot_put_ne _ same] at hw
      exact slots m w hw

theorem State.claimForm.validated (hs : s.claimForm) {n : Fin 8} (head : SlotHead) {work : Work}
    {parts : List (List Byte)} (assembling : (s.slotTable.slot n).isAssembling = true)
    (valid : validate s.config s.effectiveCurrent head.kind parts = .held work) :
    (s.putSlot n (.held head work)).claimForm := by
  obtain ⟨_, _, _, _, _, stands, assembly, _, _⟩ := id hs
  have builds : s.station.builds = true := by
    by_contra apart
    rw [assembly (by simpa using apart) n] at assembling
    cases assembling
  obtain ⟨l, hl⟩ := Option.isSome_iff_exists.mp (stands (.inr builds)).2
  obtain ⟨record, current⟩ := hs.config hl
  have limited : 1 ≤ s.effectiveCurrent := by
    simp only [State.effectiveCurrent, hl, Option.map_some, Option.getD_some]
    omega
  refine hs.putSlot builds n ?_
  rintro _ ⟨⟩
  exact needFits_of_validate record limited valid

/-- TIGHTEN and BAY_RESET keep the limits above their range's lower end (R180, R185). -/
theorem State.claimForm.withEffective (hs : s.claimForm) {l : Option Limits} (may : s.mayLimit l) :
    (s.withEffective l).claimForm := by
  have configured {e : Limits} (he : s.guardUnit.effective = some e) : 100 ≤ s.config.limits.current := by
    obtain ⟨⟨_, _, _, _, _, _, _, _, ⟨current, _⟩, _⟩, _⟩ := hs.config he
    exact current
  obtain ⟨form, barred, record, limits, loading, stands, assembly, slots, check⟩ := id hs
  obtain rfl | ⟨e, payload, he, rfl⟩ | rfl := may
  · exact hs
  · refine ⟨form, barred, record, ?_, fun h => ?_, fun h => ⟨(stands h).1, rfl⟩, assembly, slots, check⟩
    · rintro _ ⟨⟩
      obtain ⟨current, isSome⟩ := limits e he
      exact ⟨Limits.tighten_current payload current (configured he), isSome⟩
    · exact absurd (loading h) (by simp [he])
  · refine ⟨form, barred, record, ?_, fun h => ?_, fun h => ⟨(stands h).1, ?_⟩, assembly, slots, check⟩
    · rintro _ hl
      obtain ⟨e, he, rfl⟩ := Option.map_eq_some_iff.mp hl
      exact ⟨configured he, (limits e he).2⟩
    · show s.guardUnit.effective.map _ = none
      rw [loading h]; rfl
    · show (s.guardUnit.effective.map _).isSome = true
      rw [Option.isSome_map]; exact (stands h).2

/-- The timers of a hold are free (R43). -/
theorem State.claimForm.holdTimers (hs : s.claimForm) (holding : s.headroom.claim = .holding) (refresh stale : Timer) :
    (s.setHeadroom { s.headroom with refreshTimer := refresh, staleTimer := stale }).claimForm := by
  have holds := (Headroom.claimForm_of_holding holding).mp hs.1
  refine hs.setHeadroom (by simp [holding]) ((Headroom.claimForm_of_holding ?_).mpr ⟨⟨?_, ?_⟩, ?_, ?_, ?_, ?_⟩)
  exacts [holding, holds.contest, holds.backoff, holds.least, holds.most, holds.unused, holds.used]

theorem State.begins.claimForm (h : s.begins c u) (hs : s.claimForm) : u.claimForm := by
  have form : s.headroom.claimForm = true := hs.1
  cases h with
  | same => exact hs
  | reset straps => exact s.strapped_claimForm straps
  | degraded _ fault reading => exact hs.degrade (State.readingConfig_station reading) fault
  | configured _ bytes reading => exact hs.takeConfig (State.readingConfig_station reading) bytes
  | joining _ looped => exact hs.enterJoining looped
  | failed _ fault looped => exact hs.goOffLine (by rw [looped]; rfl) fault
  | joined joining => exact hs.joined joining
  | quieted builds => exact hs.quieted
  | apart idle => exact hs.apart idle
  | opened n x arrival builds fresh => exact hs.putSlot builds n (by rw [fresh]; nofun)
  | validated n head work parts assembling valid => exact hs.validated head assembling valid
  | limited _ l may => exact hs.withEffective may
  | asked order instant queued =>
    obtain ⟨asking, contest, backoff⟩ := (Headroom.claimForm_of_askQueued queued).mp form
    refine hs.setHeadroom (by simp [queued]) ((Headroom.claimForm_of_contest rfl).mpr ⟨?_, rfl, .inl rfl, backoff⟩)
    exact ⟨asking.more, asking.target, asking.refresh, asking.stale⟩
  | repeated refresh stale holding => exact hs.holdTimers holding _ _
  | noted note contest =>
    obtain ⟨asking, own, _, backoff⟩ := (Headroom.claimForm_of_contest contest).mp form
    refine hs.setHeadroom (by simp [contest]) ((Headroom.claimForm_of_contest ?_).mpr ⟨?_, own, .inr rfl, backoff⟩)
    exacts [contest, ⟨asking.more, asking.target, asking.refresh, asking.stale⟩]
  | granted need stale contest asks =>
    obtain ⟨asking, own, _, backoff⟩ := (Headroom.claimForm_of_contest contest).mp form
    obtain ⟨n, hn, above, within⟩ := asking.more
    obtain rfl : need = n := Option.some.inj (asks.symm.trans hn)
    refine hs.setHeadroom (by simp [contest]) ((Headroom.claimForm_of_holding rfl).mpr
      ⟨⟨rfl, backoff⟩, Nat.one_le_of_lt above, within, ?_, ?_⟩)
    · exact fun none => absurd (asks.symm.trans none) nofun
    · intro n hn
      obtain rfl : need = n := Option.some.inj (asks.symm.trans hn)
      exact ⟨⟨Nat.one_le_of_lt above, le_rfl⟩, fun amount lower => absurd (asking.target.symm.trans lower) nofun⟩
  | yielded instant contest =>
    obtain ⟨asking, _⟩ := (Headroom.claimForm_of_contest contest).mp form
    refine hs.setHeadroom (by simp [contest]) ((Headroom.claimForm_of_backoff rfl).mpr ⟨?_, rfl, rfl⟩)
    exact ⟨asking.more, asking.target, asking.refresh, asking.stale⟩
  | askedAgain backoff =>
    obtain ⟨asking, _, contest⟩ := (Headroom.claimForm_of_backoff backoff).mp form
    refine hs.setHeadroom (by simp [backoff]) ((Headroom.claimForm_of_askQueued rfl).mpr ⟨?_, contest, rfl⟩)
    exact ⟨asking.more, asking.target, asking.refresh, asking.stale⟩
  | refreshed holding => exact hs.holdTimers holding none s.headroom.staleTimer
  | staled holding => exact hs.holdTimers holding s.headroom.refreshTimer none

theorem exec_claimForm (hs : s.claimForm) (ht : exec c s = .next t) : t.claimForm := by
  obtain ⟨r, u, stood, began, v, stood', moved⟩ := exec_goes ht
  exact moved.claimForm (stood'.claimForm (began.claimForm (stood.claimForm hs)))

/-- Settles O48: every command sets the claim in form, and what follows in it only withdraws, states and reports. -/
theorem claimFormKept : Obligations.ClaimFormKept := fun _ _ hs ht =>
  step_keeps_form (P := State.claimForm) (fun _ _ h => h) (fun _ _ _ => exec_claimForm) hs ht

end Sys2Proof.Machine
end

section
/-!
PROOF. A CLAIM handed on: what it does to the entry of its source and to no other, and the view made SUSPECT by one of
another length (R36 to R41, R89).
-/

namespace Sys2Proof.Machine

/-! ### The entry of an address (R36) -/

variable {a : Address} {e : Peer}

theorem peerAt_cons (p : Peer) (rest : List Peer) :
    peerAt a (p :: rest) = if p.address = a then some p else peerAt a rest := by
  simp [peerAt, List.find?_cons]
  split <;> simp_all

theorem peerAt_putPeer_self (e : Peer) (peers : List Peer) : peerAt e.address (putPeer e peers) = some e := by
  induction peers with
  | nil => simp [putPeer, peerAt]
  | cons p rest ih =>
    unfold putPeer
    split
    · rw [peerAt_cons, if_pos rfl]
    · split
      · rw [peerAt_cons, if_pos rfl]
      case isFalse other =>
        rw [peerAt_cons, if_neg (fun same => other (by simp [same])), ih]

theorem peerAt_putPeer_ne (h : a ≠ e.address) (peers : List Peer) : peerAt a (putPeer e peers) = peerAt a peers := by
  induction peers with
  | nil => simp [putPeer, peerAt, h.symm]
  | cons p rest ih =>
    unfold putPeer
    split
    · rw [peerAt_cons, if_neg h.symm]
    · split
      case isTrue same =>
        rw [peerAt_cons, if_neg h.symm, peerAt_cons, if_neg (by rw [← eq_of_beq same]; exact h.symm)]
      case isFalse => rw [peerAt_cons, peerAt_cons, ih]

theorem peerAt_removePeer_self (a : Address) (peers : List Peer) : peerAt a (removePeer a peers) = none := by
  simp [peerAt, removePeer, List.find?_filter]

theorem peerAt_removePeer_ne {b : Address} (h : a ≠ b) (peers : List Peer) :
    peerAt a (removePeer b peers) = peerAt a peers := by
  simp only [peerAt, removePeer, List.find?_filter]
  congr 1
  funext p
  by_cases same : p.address = a
  · simp [same, h]
  · simp [same]

/-! ### What a CLAIM does to the view (R37 to R39) -/

/-- The entry of the source after a HOLD or a DROP, whether one is put in its place or taken out (R39). -/
theorem peerAt_applyHold_self (h : Heard) (held period : Nat) (peers : List Peer) :
    peerAt h.frame.source (applyHold h held period peers) =
      if held = 0 then none else some (peerOf h .holding held period) := by
  unfold applyHold
  by_cases zero : held = 0
  · simp [zero, peerAt_removePeer_self]
  · rw [if_neg (by simpa using zero), if_neg zero]
    exact peerAt_putPeer_self (peerOf h .holding held period) peers

theorem peerAt_applyHold_ne {h : Heard} (other : a ≠ h.frame.source) (held period : Nat) (peers : List Peer) :
    peerAt a (applyHold h held period peers) = peerAt a peers := by
  unfold applyHold
  split
  · exact peerAt_removePeer_ne other _
  · exact peerAt_putPeer_ne other _

/-- The entry of the source after an ASK, which asks above its hold or is taken as a HOLD (R37, R38). -/
theorem peerAt_applyAsk_self (h : Heard) (held asked period : Nat) (peers : List Peer) :
    peerAt h.frame.source (applyAsk h held asked period peers) =
      if held < asked then some (peerOf h (.asking asked) held period)
      else if held = 0 then none else some (peerOf h .holding held period) := by
  unfold applyAsk
  by_cases more : held < asked
  · rw [if_neg (not_le.mpr more), if_pos more]
    exact peerAt_putPeer_self (peerOf h (.asking asked) held period) peers
  · rw [if_pos (not_lt.mp more), if_neg more, peerAt_applyHold_self]

theorem peerAt_applyAsk_ne {h : Heard} (other : a ≠ h.frame.source) (held asked period : Nat) (peers : List Peer) :
    peerAt a (applyAsk h held asked period peers) = peerAt a peers := by
  unfold applyAsk
  split
  · exact peerAt_applyHold_ne other _ _ _
  · exact peerAt_putPeer_ne other _

theorem takenPeriod_eq (period : Nat) : takenPeriod period = if period = 0 ∨ 50 < period then 50 else period := by
  simp only [takenPeriod, Bool.or_eq_true, beq_iff_eq, decide_eq_true_eq]
  rfl

/-! ### The CLAIM handed on -/

variable {s : State} {h : Heard} {rest : List Heard}

/-- A CLAIM of its length is applied to the view, with its amounts and its period corrected (R37). -/
theorem State.takeClaim_of_length (builds : s.station.builds = true) (length : h.frame.payload.length = 5)
    (apply : Nat × Nat × Nat → List Peer → List Peer) :
    s.takeClaim h apply =
      s.setHeadroom { s.headroom with peers := apply (claimFields h.frame) s.headroom.peers } := by
  simp [State.takeClaim, builds, length]

/-- In DEGRADED a CLAIM is discarded (R12). -/
theorem State.takeClaim_of_apart (apart : s.station.builds = false)
    (apply : Nat × Nat × Nat → List Peer → List Peer) : s.takeClaim h apply = s := by
  simp [State.takeClaim, apart]

/-- A CLAIM of another length is discarded, and the view becomes SUSPECT (R41, R89). -/
theorem State.takeClaim_of_misfit (builds : s.station.builds = true) (length : h.frame.payload.length ≠ 5)
    (apply : Nat × Nat × Nat → List Peer → List Peer) : s.takeClaim h apply = s.markSuspect := by
  simp [State.takeClaim, builds, length]

/-- Each of the three CLAIM kinds hands its frame to the view (R32). -/
theorem takesFrame_claim {kind : Nat} {c : Instr}
    (hc : (kind, c) ∈ [(0, Instr.ask), (1, Instr.hold), (2, Instr.drop)]) :
    ∃ apply : Heard → Nat × Nat × Nat → List Peer → List Peer,
      takesFrame c = some (1, kind, fun h u => u.takeClaim h (apply h)) := by
  simp only [List.mem_cons, Prod.mk.injEq, List.not_mem_nil, or_false] at hc
  obtain ⟨rfl, rfl⟩ | ⟨rfl, rfl⟩ | ⟨rfl, rfl⟩ := hc <;> exact ⟨_, rfl⟩

theorem foldl_period_greatest (peers : List Peer) (m : Nat) :
    let greatest := peers.foldl (fun m p => max m p.period) m
    m ≤ greatest ∧ (∀ p ∈ peers, p.period ≤ greatest) ∧ (greatest = m ∨ ∃ p ∈ peers, p.period = greatest) := by
  induction peers generalizing m with
  | nil => simp
  | cons p rest ih =>
    obtain ⟨least, above, reached⟩ := ih (max m p.period)
    refine ⟨(le_max_left _ _).trans least, List.forall_mem_cons.mpr ⟨(le_max_right _ _).trans least, above⟩, ?_⟩
    obtain atMax | ⟨q, hq, period⟩ := reached
    · obtain first | own := max_choice m p.period
      · exact .inl (atMax.trans first)
      · exact .inr ⟨p, List.mem_cons_self, own.symm.trans atMax.symm⟩
    · exact .inr ⟨q, List.mem_cons_of_mem _ hq, period⟩

/-- The longest refresh period known: the own where the view is empty, and the greatest in it otherwise (R41). -/
theorem Headroom.longestPeriod_greatest (u : Headroom) (own : Nat) :
    (u.peers = [] → u.longestPeriod own = own) ∧
    (u.peers ≠ [] →
      (∃ p ∈ u.peers, p.period = u.longestPeriod own) ∧ ∀ p ∈ u.peers, p.period ≤ u.longestPeriod own) := by
  refine ⟨fun none => by simp [Headroom.longestPeriod, none], fun some => ?_⟩
  have greatest : u.longestPeriod own = u.peers.foldl (fun m p => max m p.period) 0 := by
    simp [Headroom.longestPeriod, some]
  rw [greatest]
  obtain ⟨_, above, zero | ⟨p, hp, period⟩⟩ := foldl_period_greatest u.peers 0
  · obtain ⟨p, hp⟩ := List.exists_mem_of_ne_nil _ some
    exact ⟨⟨p, hp, le_antisymm (above p hp) (zero.trans_le (Nat.zero_le _))⟩, above⟩
  · exact ⟨⟨p, hp, period⟩, above⟩

/-- Settles O23: an ASK puts one entry in its place, and a misfit CLAIM leaves the view SUSPECT. -/
theorem askSetsEntry : Obligations.AskSetsEntry := by
  intro s h rest
  refine ⟨fun hh builds length => ?_, fun kind c hc hh => ?_⟩
  · refine ⟨_, (exec_of_handing rfl hh).trans (congrArg _ (State.takeClaim_of_length (by simpa using builds) length _)),
      ?_, fun a other => ?_⟩
    · rw [peerAt_applyAsk_self]
      simp only [claimFields, takenPeriod_eq]
      rfl
    · exact peerAt_applyAsk_ne other _ _ _ _
  · obtain ⟨apply, takes⟩ := takesFrame_claim hc
    rw [exec_of_handing takes hh]
    refine ⟨fun apart => ?_, fun builds misfit => ⟨s.headroom.longestPeriod s.config.refreshPeriod, ?_, ?_⟩⟩
    · rw [State.takeClaim_of_apart (by simpa using apart)]
    · rw [State.takeClaim_of_misfit (by simpa using builds) misfit]
      simp [State.markSuspect, builds]
      rfl
    · exact s.headroom.longestPeriod_greatest _

/-- Settles O24: a HOLD and a DROP do the same to the view. -/
theorem holdAndDropSetEntry : Obligations.HoldAndDropSetEntry := by
  intro s h rest kind c hc hh builds length
  have takes : takesFrame c = some (1, kind, fun h u => u.takeClaim h fun f => applyHold h f.1 f.2.2) := by
    simp only [List.mem_cons, Prod.mk.injEq, List.not_mem_nil, or_false] at hc
    obtain ⟨rfl, rfl⟩ | ⟨rfl, rfl⟩ := hc <;> rfl
  refine ⟨_, (exec_of_handing takes hh).trans (congrArg _ (State.takeClaim_of_length (by simpa using builds) length _)),
    ?_, fun a other => ?_⟩
  · rw [peerAt_applyHold_self]
    simp only [claimFields, takenPeriod_eq]
    rfl
  · exact peerAt_applyHold_ne other _ _ _

end Sys2Proof.Machine
end

section
/-!
PROOF. The timers of the headroom unit and the decision of a contest (R40, R41, R48 to R53): what each does at its instant,
read off its command.
-/

namespace Sys2Proof.Machine

variable {s : State}

theorem due_of_reached {now instant : Word} {timer : Timer} (runs : timer = some instant)
    (h : reached now instant = true) : due now timer = true := by
  rw [runs]
  exact h

/-! ### The decision of a contest (R48) -/

/-- The frames up to a note are handed on once the frame that it names has left the silo. -/
theorem Line.handedOn_iff (l : Line) (noted : Noted) :
    l.handedOn noted = true ↔ ¬ ∃ order, noted = .upTo order ∧ ∃ h ∈ l.silo, h.order = order := by
  cases noted with
  | siloEmpty => simp [Line.handedOn]
  | upTo order =>
    simp only [Line.handedOn, Bool.not_eq_true', List.any_eq_false, beq_iff_eq, Noted.upTo.injEq, exists_eq_left',
      not_exists, not_and]

theorem State.contestFits_iff (s : State) (own : Word) (amount : Nat) :
    s.contestFits own amount = true ↔ contestSum own s.headroom.peers + amount ≤ s.config.capacity - s.config.reserve ∧
      s.headroom.suspect = false ∧ s.headroom.denial = false := by
  simp only [State.contestFits, Bool.and_eq_true, decide_eq_true_eq, Bool.not_eq_true', and_assoc]
  rfl

/-- In a contest whose timer has expired the decision waits for the noted frames, and then grants or yields. -/
theorem execContestDecision_of_noted {noted : Noted} {own : Word} {need : Need} (claim : s.headroom.claim = .contest)
    (note : s.headroom.note = some noted) (order : s.headroom.own = some own) (asks : s.headroom.need = some need) :
    exec .contestDecision s = .next (if s.line.handedOn noted then
      if s.contestFits own need.amount then s.grantContest need.amount else s.yieldContest else s) := by
  show execContestDecision s = _
  simp only [execContestDecision, claim, note, order, asks]

/-- Settles O44: the expiry notes the silo, and the decision sums the view. -/
theorem contestRule : Obligations.ContestRule := by
  intro s claim
  refine ⟨fun i runs now => ?_, fun noted note own order need asks => ?_⟩
  · show Host.Outcome.next _ = _
    rw [if_pos (by simp [claim, due_of_reached runs now])]
    rfl
  · intro waits sum fits wait decided
    have handed : s.line.handedOn noted = true ↔ ¬ waits := s.line.handedOn_iff noted
    have total : contestSum own s.headroom.peers = sum := contestSum_eq own s.headroom.peers
    have fitting : s.contestFits own need.amount = true ↔ fits := by
      have summed := s.contestFits_iff own need.amount
      rwa [total] at summed
    rw [execContestDecision_of_noted claim note order asks]
    refine ⟨fun before => ?_, fun past fit => ?_, fun past short => ?_⟩
    · rw [if_neg (mt handed.mp (not_not.mpr before))]
    · rw [if_pos (handed.mpr past), if_pos (fitting.mpr fit)]
      rfl
    · rw [if_pos (handed.mpr past), if_neg (mt fitting.mp short)]
      rfl

/-! ### The other timers (R40, R41, R51 to R53) -/

/-- An abort order of the hold-stale timer, in a phase that heeds it: ABORTING, and a drop written (R53, R138). -/
theorem State.orderAbort_holdStale (s : State) (heeds : s.engine.phase.abortable = true ∨ s.engine.phase = .settle) :
    s.orderAbort .holdStale = { s with engine := (s.orderAbort .holdStale).engine, port := s.port.writeDrop } ∧
      (s.orderAbort .holdStale).engine.phase = .aborting ∧
      (s.orderAbort .holdStale).engine.cause = some .holdStale ∧
      (s.orderAbort .holdStale).engine.verdict = s.engine.verdict := by
  obtain abortable | settle := heeds
  · obtain ⟨whole, phase, cause, _, _, verdict⟩ := s.orderAbort_abortable .holdStale abortable (by decide)
    exact ⟨whole, phase, cause, verdict⟩
  · have entered : s.orderAbort .holdStale = s.enterAbort (some .holdStale) false := by
      unfold State.orderAbort
      rw [settle]
      rfl
    rw [entered]
    exact ⟨rfl, rfl, rfl, (s.engine.leaveClaiming_parts s.time).1⟩

/-- RECOVER heeds no order to cancel and none of the hold-stale timer (R144). -/
theorem State.orderAbort_of_recover (s : State) (recovers : s.engine.phase = .recover) {cause : Cause}
    (hc : cause = .cancelled ∨ cause = .holdStale) : s.orderAbort cause = s := by
  unfold State.orderAbort
  rw [recovers]
  obtain rfl | rfl := hc <;> rfl

/-- An idle engine has nothing to abort; the hold-stale timer and a silencing end its carry (R138, R143). -/
theorem State.orderAbort_of_idle (s : State) (idle : s.engine.phase = .idle) {cause : Cause}
    (hc : cause = .holdStale ∨ cause = .stationSilenced) : s.orderAbort cause = s.dropCarry := by
  unfold State.orderAbort
  rw [idle]
  obtain rfl | rfl := hc <;> rfl

/-- Settles O46: each timer's command by its one branch, and the abort order of the hold-stale timer by the phase. -/
theorem headroomTimers : Obligations.HeadroomTimers := by
  intro s
  refine ⟨fun backoff need asks i runs now => ?_, fun holding i runs now => ?_, fun holding i runs now => ?_,
    fun builds a e entry now => ?_, fun i runs now => ?_⟩
  · show execBackoffTimerExpiry s = _
    have stated : s.headroom.need = some need := asks
    simp only [execBackoffTimerExpiry, backoff, stated, due_of_reached runs now, if_true]
    rfl
  · show Host.Outcome.next _ = _
    rw [if_pos (by simp [holding, due_of_reached runs now])]
    rfl
  · intro stale
    have ends : exec .holdStaleTimerExpiry s = .next (stale.orderAbort .holdStale) := by
      show Host.Outcome.next _ = _
      rw [if_pos (by simp [holding, due_of_reached runs now])]
      rfl
    rw [ends]
    refine ⟨fun heeds => ?_, fun recovers => ?_, fun idle => ?_⟩
    · obtain ⟨whole, phase, cause, verdict⟩ := stale.orderAbort_holdStale heeds
      exact ⟨_, congrArg _ whole, phase, cause, verdict⟩
    · rw [stale.orderAbort_of_recover recovers (.inr rfl)]
    · rw [stale.orderAbort_of_idle idle (.inl rfl)]
      rfl
  · show execPeerEntryExpiry a s = _
    have known : peerAt a s.headroom.peers = some e := entry
    simp only [execPeerEntryExpiry, known, builds, now, Bool.true_and, if_true]
    rfl
  · show Host.Outcome.next _ = _
    rw [if_pos (due_of_reached runs now)]
    rfl

end Sys2Proof.Machine
end

section
/-!
PROOF. The sag detector by its sets: one that goes on with a run, one that begins an episode and one that ends it (R57).
-/

namespace Sys2Proof.Machine

variable {s : State} {x : SampleSet}

/-- The part with a sag run of `n` sets. -/
def State.withSagRun (s : State) (n : Nat) : State := s.setHeadroom { s.headroom with sagRun := n }

/-- The detector stands still outside ON_LINE. -/
theorem State.headroomSet_of_apart (apart : s.station ≠ .onLine) : s.headroomSet x = s := by
  simp [State.headroomSet, apart]

/-- In ON_LINE a set whose voltage begins no episode changes the detector alone. -/
theorem State.headroomSet_of_sag {u : Headroom} (onLine : s.station = .onLine)
    (sag : s.headroom.sag s.config x.feeder = (u, false)) : s.headroomSet x = s.setHeadroom u := by
  simp [State.headroomSet, onLine, sag]

/-- A set below the threshold lengthens the run. -/
theorem State.headroomSet_of_below (onLine : s.station = .onLine) (quiet : s.headroom.sagEpisode = false)
    (below : x.feeder < s.config.sagThreshold) (short : s.headroom.sagRun + 1 < s.config.sagCount) :
    s.headroomSet x = s.withSagRun (s.headroom.sagRun + 1) :=
  State.headroomSet_of_sag onLine (by simp [Headroom.sag, quiet, below, short])

/-- A set at or above the threshold ends the run. -/
theorem State.headroomSet_of_above (onLine : s.station = .onLine) (quiet : s.headroom.sagEpisode = false)
    (above : s.config.sagThreshold ≤ x.feeder) :
    s.headroomSet x = s.withSagRun 0 :=
  State.headroomSet_of_sag onLine (by simp [Headroom.sag, quiet, above])

/-- The set that completes the run begins an episode, and offers the SHED with its voltage (R57, R58). -/
theorem State.headroomSet_of_last (onLine : s.station = .onLine) (quiet : s.headroom.sagEpisode = false)
    (below : x.feeder < s.config.sagThreshold) (last : s.headroom.sagRun + 1 = s.config.sagCount) :
    s.headroomSet x = { s with
      headroom := { s.headroom with sagRun := s.config.sagCount, sagEpisode := true }
      line := s.line.offerShed (s.shedFrame x.feeder) } := by
  have begins : s.headroom.sag s.config x.feeder =
      ({ s.headroom with sagRun := s.config.sagCount, sagEpisode := true }, true) := by
    simp [Headroom.sag, quiet, below, last]
  simp only [State.headroomSet, onLine, beq_self_eq_true, if_true, begins]
  rfl

/-- In an episode a set at or above the clear voltage ends it, and every other leaves the detector. -/
theorem State.headroomSet_of_episode (onLine : s.station = .onLine) (episode : s.headroom.sagEpisode = true) :
    s.headroomSet x =
      if s.config.sagClear ≤ x.feeder then { s with headroom := { s.headroom with sagEpisode := false, sagRun := 0 } }
      else s := by
  split
  case isTrue clear => exact State.headroomSet_of_sag onLine (by simp [Headroom.sag, episode, clear])
  case isFalse sagging => exact State.headroomSet_of_sag onLine (by simp [Headroom.sag, episode, sagging])

/-- Sets below the threshold lengthen the run one by one. -/
theorem State.headroomSets_of_below {sets : List SampleSet} (onLine : s.station = .onLine)
    (quiet : s.headroom.sagEpisode = false) (below : ∀ y ∈ sets, y.feeder < s.config.sagThreshold)
    (short : s.headroom.sagRun + sets.length < s.config.sagCount) :
    s.headroomSets sets = s.withSagRun (s.headroom.sagRun + sets.length) := by
  induction sets generalizing s with
  | nil => rfl
  | cons y rest ih =>
    obtain ⟨first, others⟩ := List.forall_mem_cons.mp below
    rw [List.length_cons, Nat.add_comm rest.length, ← Nat.add_assoc] at short ⊢
    calc s.headroomSets (y :: rest) = (s.withSagRun (s.headroom.sagRun + 1)).headroomSets rest :=
          congrArg (State.headroomSets · rest) (State.headroomSet_of_below onLine quiet first (by omega))
      _ = s.withSagRun (s.headroom.sagRun + 1 + rest.length) :=
          ih (s := s.withSagRun (s.headroom.sagRun + 1)) onLine quiet others short

/-- Settles O47: the sets below the threshold lengthen the run, and the one that completes it begins the episode. -/
theorem sagRun : Obligations.SagRun := by
  intro s sets x c u
  refine ⟨fun onLine quiet zero below => ?_, State.headroomSet_of_episode, State.headroomSet_of_apart⟩
  have run (short : sets.length < c.sagCount) : s.headroomSets sets = s.withSagRun sets.length := by
    have lengthened := State.headroomSets_of_below (sets := sets) onLine quiet below
    rw [show s.headroom.sagRun = 0 from zero, Nat.zero_add] at lengthened
    exact lengthened short
  have unmoved : s.withSagRun 0 = s := by
    rw [← show s.headroom.sagRun = 0 from zero]
    rfl
  refine ⟨fun short => ⟨run short, fun above => ?_⟩, fun last sags => ?_⟩
  · rw [run short]
    exact (State.headroomSet_of_above (s := s.withSagRun sets.length) onLine quiet above).trans unmoved
  · have appended : s.headroomSets (sets ++ [x]) = (s.headroomSets sets).headroomSet x := List.foldl_append
    rw [appended, run (by omega)]
    exact State.headroomSet_of_last (s := s.withSagRun sets.length) onLine quiet sags last

end Sys2Proof.Machine
end

section
/-!
PROOF. When a hold comes down (R54 to R56): only to an amount that covers the applied setpoint, or with the contactor
confirmed open, whatever command is taken.
-/

namespace Sys2Proof.Machine

variable {s t u : State} {c : Instr}

/-- The hold covers the need of the applied setpoint, or the contactor is confirmed open (R54). -/
def State.covered (s : State) : Prop :=
  s.config.needOf s.port.applied ≤ s.headroom.held ∨ s.port.confirmedOpen = true

/-- The load and the limits stand, and so does the hold, or what it has become covers the load. -/
structure State.lowersDuly (s t : State) : Prop where
  config : t.config = s.config
  load : s.loadStands t
  held : t.headroom.held = s.headroom.held ∨ t.covered

theorem ConfigRecord.needOf_zero (c : ConfigRecord) : c.needOf 0 = 0 := by
  have small : 0 * c.nominalVoltage + c.efficiency * 1000 - 1 ≤ c.efficiency * 1000 - 1 := by omega
  unfold ConfigRecord.needOf ceilDiv
  rw [Nat.div_eq_zero_iff]
  omega

theorem State.covered_of_unloaded (h : s.port.applied = 0) : s.covered :=
  .inl (by rw [h, ConfigRecord.needOf_zero]; exact Nat.zero_le _)

theorem State.loadWithin_iff (s : State) (amount : Nat) :
    s.loadWithin amount = true ↔ s.config.needOf s.port.applied ≤ amount ∨ s.port.confirmedOpen = true := by
  simp [State.loadWithin]

theorem Headroom.lowered_held (u : Headroom) (amount : Nat) : (u.lowered amount).held = amount := by
  unfold Headroom.lowered
  split
  case isTrue zero => exact (eq_of_beq zero).symm
  case isFalse => rfl

namespace State.lowersDuly

theorem refl (s : State) : s.lowersDuly s := ⟨rfl, .of_same rfl rfl, .inl rfl⟩

theorem of_held (config : t.config = s.config := by simp) (port : t.port = s.port := by simp)
    (held : t.headroom.held = s.headroom.held ∨ t.covered) : s.lowersDuly t :=
  ⟨config, .of_same (by rw [port]) (by rw [port]), held⟩

theorem trans (a : s.lowersDuly t) (b : t.lowersDuly u) : s.lowersDuly u where
  config := b.config.trans a.config
  load :=
    { applied := b.load.applied.trans a.load.applied
      opened := fun h => (a.load.opened h).elim b.load.opened fun off => .inr (b.load.applied.trans off) }
  held := by
    obtain same | covered := b.held
    · obtain before | covered := a.held
      · exact .inl (same.trans before)
      · obtain within | opened := covered
        · exact .inr (.inl (by rw [b.config, b.load.applied, same]; exact within))
        · exact .inr ((b.load.opened opened).elim .inr covered_of_unloaded)
    · exact .inr covered

theorem tryLower (s : State) : s.lowersDuly s.tryLower := by
  refine of_held (held := ?_)
  unfold State.tryLower
  split
  case h_1 amount _ _ =>
    split
    · split
      case isTrue within =>
        have covers := (s.loadWithin_iff amount).mp within
        refine .inr ?_
        simpa [State.covered, Headroom.lowered_held] using covers
      case isFalse => exact .inl rfl
    · split
      case isTrue off => exact .inr (covered_of_unloaded (by simpa using off))
      case isFalse => exact .inl rfl
  case h_2 => exact .inl rfl

theorem lowerToZero (s : State) : s.lowersDuly s.lowerToZero := by
  refine trans (of_held (held := .inl ?_)) (tryLower _)
  rfl

theorem portReport (s : State) : s.lowersDuly s.portReport := by
  unfold State.portReport State.tryBar
  split
  · split
    case isTrue off =>
      refine of_held (held := .inr ?_)
      obtain off | opened : s.port.applied = 0 ∨ s.port.confirmedOpen = true := by simp_all
      · exact covered_of_unloaded off
      · exact .inr opened
    case isFalse => exact refl s
  · exact tryLower s

theorem withdrawNeed (s : State) : s.lowersDuly s.withdrawNeed := by
  have ended {v : State} (held : Nat) (h : s.lowersDuly v) :
      s.lowersDuly (if held == 0 then v else v.lowerToZero) := by
    split
    · exact h
    · exact h.trans (lowerToZero v)
  unfold State.withdrawNeed
  split
  · exact refl s
  · dsimp only
    split
    case h_1 => exact ended _ (of_held (held := .inl rfl))
    case h_2 => exact ended _ (of_held (held := .inl (by simp)))
    case h_3 => exact ended _ (of_held (held := .inl rfl))
    case h_4 =>
      refine trans (of_held (held := .inl ?_)) (lowerToZero _)
      rfl
    case h_5 | h_6 => exact of_held (held := .inl rfl)

theorem stateNeed (s : State) (amount priority : Nat) : s.lowersDuly (s.stateNeed amount priority) := by
  unfold State.stateNeed
  dsimp only
  split
  case h_1 => exact of_held (held := .inl (by simp))
  case h_2 =>
    split
    · refine trans (of_held (held := .inl ?_)) (tryLower _)
      rfl
    · exact of_held (held := .inl (by simp))
  all_goals exact refl s

end State.lowersDuly

theorem State.claimStands.held (h : s.claimStands t) : t.headroom.held = s.headroom.held := by
  show t.headroom.claimPart.held = s.headroom.claimPart.held
  rw [h.claim]

theorem State.claims.lowersDuly (h : s.claims t) : s.lowersDuly t := by
  induction h with
  | refl => exact .refl s
  | other _ claim load ih =>
    refine ih.trans ⟨?_, load, .inl claim.held⟩
    rw [State.config, claim.startup]
    rfl
  | withdrawal _ ih => exact ih.trans (.withdrawNeed _)
  | statement _ priority _ ih => exact ih.trans (.stateNeed _ _ _)
  | report _ ih => exact ih.trans (.portReport _)

/-- A claim that is HOLDING keeps its hold at the beginning of every command but a power reset. -/
theorem State.begins.held (h : s.begins c u) (holding : s.headroom.claim = .holding)
    (on : ∀ straps, c ≠ .powerReset straps) : u.headroom.held = s.headroom.held := by
  cases h with
  | reset straps => exact absurd rfl (on straps)
  | quieted => simp [State.quieted_headroom, Headroom.silenced, holding]
  | apart => simp [State.apart, Headroom.silenced, holding]
  | granted _ _ contest => rw [holding] at contest; cases contest
  | _ => rfl

/-- A hold that a command brings down covers the load after it, or the contactor is confirmed open. -/
theorem exec_covers (holding : s.headroom.claim = .holding) (ht : exec c s = .next t)
    (lowered : t.headroom.held < s.headroom.held) : t.covered := by
  by_cases on : ∀ straps, c ≠ .powerReset straps
  · obtain ⟨r, u, stood, began, v, stood', moved⟩ := exec_goes ht
    have still : r.headroom.claim = .holding := by
      show r.headroom.claimPart.claim = .holding
      rw [stood.claim]
      exact holding
    have before : v.headroom.held = s.headroom.held := by rw [stood'.held, began.held still on, stood.held]
    exact moved.lowersDuly.held.resolve_left (by omega)
  · obtain ⟨straps, rfl⟩ := not_forall_not.mp on
    have unloaded : (s.strapped straps).port.applied = 0 := by
      unfold State.strapped State.takeStraps
      split <;> rfl
    refine State.covered_of_unloaded ?_
    cases ht
    split
    · exact (State.claims.refl.latchFault .estop).lowersDuly.load.applied.trans unloaded
    · exact unloaded

end Sys2Proof.Machine
end

section
/-!
PROOF. What becomes of a need stated and withdrawn, of the need that a RELEASE keeps, and of a hold at the port's report
(R45 to R47, R51, R54 to R56, R137): whole next states, by the claim's state.
-/

namespace Sys2Proof.Machine

variable {s : State}

/-! ### Lowering (R54, R55) -/

theorem State.need_stands (asks : s.headroom.need.isSome = true) : ¬ s.headroom.need.isNone = true := by
  rw [← Option.not_isSome, asks]
  decide

/-- A hold that no need uses comes down where the load lets it (R54). -/
theorem State.tryLower_of_withdrawn {amount : Nat} (holding : s.headroom.claim = .holding)
    (target : s.headroom.target = some amount) (need : s.headroom.need = none) :
    s.tryLower =
      if s.config.needOf s.port.applied ≤ amount ∨ s.port.confirmedOpen = true then
        (s.offerClaim .drop amount amount).setHeadroom ((s.offerClaim .drop amount amount).headroom.lowered amount)
      else s := by
  simp only [State.tryLower, holding, target, need, Option.isNone_none, if_true, State.loadWithin_iff]

/-- A hold that a need uses comes down to it once the applied setpoint is zero (R55). -/
theorem State.tryLower_of_carried {amount : Nat} (holding : s.headroom.claim = .holding)
    (target : s.headroom.target = some amount) (need : s.headroom.need.isSome = true) :
    s.tryLower =
      if s.port.applied = 0 then
        (s.offerClaim .hold amount amount).setHeadroom
          { (s.offerClaim .hold amount amount).headroom with held := amount, target := none }
      else s := by
  simp [State.tryLower, holding, target, State.need_stands need]

theorem State.tryLower_of_untargeted (h : s.headroom.claim ≠ .holding ∨ s.headroom.target = none) :
    s.tryLower = s := by
  unfold State.tryLower
  split
  case h_1 amount holding target => 
    obtain other | none := h
    · exact absurd holding other
    · exact absurd (target.symm.trans none) nofun
  case h_2 => rfl

/-- A hold that no need uses is to come down to zero, and does so at once where the load is off (R54). -/
theorem State.lowerToZero_of_withdrawn (need : s.headroom.need = none) :
    s.lowerToZero =
      let w : State := { s with headroom := { s.headroom with claim := .holding, target := some 0 } }
      let x := w.offerClaim .drop 0 0
      if s.config.needOf s.port.applied = 0 ∨ s.port.confirmedOpen = true then
        { x with headroom := { x.headroom with
            held := 0, target := none, claim := .idle, refreshTimer := none, staleTimer := none, yields := 0 } }
      else w := by
  refine (State.tryLower_of_withdrawn (s := s.setHeadroom { s.headroom with claim := .holding, target := some 0 })
    rfl rfl need).trans ?_
  simp only [Nat.le_zero]
  rfl

/-! ### A need stated (R45, R55) -/

/-- The headroom unit with a need stated. -/
def Headroom.stated (u : Headroom) (amount priority : Nat) : Headroom :=
  { u with need := some { amount := amount, priority := priority }, priority := priority }

theorem State.stateNeed_of_idle (idle : s.headroom.claim = .idle) (amount priority : Nat) :
    s.stateNeed amount priority =
      (s.setHeadroom { s.headroom.stated amount priority with claim := .askQueued }).offerClaim .ask 0 amount := by
  unfold State.stateNeed
  dsimp only
  rw [idle]
  rfl

theorem State.stateNeed_of_holding (holding : s.headroom.claim = .holding) (amount priority : Nat) :
    s.stateNeed amount priority =
      if amount ≤ s.headroom.held then
        (s.setHeadroom { s.headroom.stated amount priority with
          target := if amount < s.headroom.held then some amount else none }).tryLower
      else
        (s.setHeadroom { s.headroom.stated amount priority with
          claim := .askQueued, target := none, refreshTimer := none, staleTimer := none }).offerClaim .ask
            s.headroom.held amount := by
  unfold State.stateNeed
  split
  case h_2 => rfl
  all_goals simp_all

theorem State.stateNeed_of_other
    (other : s.headroom.claim = .barred ∨ s.headroom.claim = .askQueued ∨ s.headroom.claim = .contest ∨
      s.headroom.claim = .backoff) (amount priority : Nat) : s.stateNeed amount priority = s := by
  unfold State.stateNeed
  obtain h | h | h | h := other <;> simp only [h]

/-! ### A need withdrawn (R46, R51, R54) -/

/-- The headroom unit with its need withdrawn while it was asking. -/
def Headroom.gone (u : Headroom) : Headroom := { u with need := none, yields := 0, claim := .idle }

/-- An asking claim ends: at rest where it held nothing, and lowered otherwise. -/
def State.endAsk (s : State) : State := if s.headroom.held = 0 then s else s.lowerToZero

theorem State.withdrawNeed_of_none (none : s.headroom.need = none) : s.withdrawNeed = s := by
  simp [State.withdrawNeed, none]

section

variable (asks : s.headroom.need.isSome = true)
include asks

theorem State.withdrawNeed_of_askQueued (claim : s.headroom.claim = .askQueued) :
    s.withdrawNeed = ((s.setLine s.line.withdrawClaim).setHeadroom { s.headroom.gone with
      current := if s.line.waiting.isSome then s.headroom.current else none }).endAsk := by
  unfold State.withdrawNeed
  rw [if_neg (State.need_stands asks)]
  dsimp only
  split
  case h_1 => simp only [beq_iff_eq]; rfl
  all_goals simp_all

theorem State.withdrawNeed_of_contest (claim : s.headroom.claim = .contest) :
    s.withdrawNeed = ((s.setHeadroom { s.headroom.gone with
      contestTimer := none, note := none, lateShed := none, own := none, denial := false
      askCompleted := none }).offerClaim .drop 0 0).endAsk := by
  unfold State.withdrawNeed
  rw [if_neg (State.need_stands asks)]
  dsimp only
  split
  case h_2 => simp only [beq_iff_eq, State.endAsk, State.offerClaim_frame]; rfl
  all_goals simp_all

theorem State.withdrawNeed_of_backoff (claim : s.headroom.claim = .backoff) :
    s.withdrawNeed = (s.setHeadroom { s.headroom.gone with backoffTimer := none }).endAsk := by
  unfold State.withdrawNeed
  rw [if_neg (State.need_stands asks)]
  dsimp only
  split
  case h_3 => simp only [beq_iff_eq]; rfl
  all_goals simp_all

theorem State.withdrawNeed_of_holding (claim : s.headroom.claim = .holding) :
    s.withdrawNeed = (s.setHeadroom { s.headroom with need := none }).lowerToZero := by
  unfold State.withdrawNeed
  rw [if_neg (State.need_stands asks)]
  dsimp only
  split
  case h_4 => rfl
  all_goals simp_all

end

/-- The newest CLAIM leaves the waiting place, where one waits (R46). -/
theorem Line.withdrawClaim_of_waiting {l : Line} {f : Frame} (h : l.waiting = some f) :
    l.withdrawClaim = { l with waiting := none } := by
  simp [Line.withdrawClaim, h]

/-- With no CLAIM waiting, one that has not begun leaves the queue, and the collision count where it was counted (R20,
R46). -/
theorem Line.withdrawClaim_of_queued {l : Line} (h : l.waiting = none) :
    l.withdrawClaim = { l with
      queue := l.queue.filter (fun e => !(e.isClaim && !e.sending))
      collisions :=
        if ∃ e ∈ l.queue, (e.isClaim && !e.sending) = true ∧ l.collided = some e.entryOrder then 0 else l.collisions
      collided :=
        if ∃ e ∈ l.queue, (e.isClaim && !e.sending) = true ∧ l.collided = some e.entryOrder then none
        else l.collided } := by
  simp only [Line.withdrawClaim, h, Option.isSome_none, Bool.false_eq_true, if_false, Line.dropEntries, Line.counts_iff]

/-! ### The headroom unit beside the engine -/

theorem State.offerClaim_setEngine (s : State) (e : Engine) (kind : ClaimKind) (held asked : Nat) :
    (s.setEngine e).offerClaim kind held asked = (s.offerClaim kind held asked).setEngine e := by
  unfold State.offerClaim
  rw [apply_ite (State.setEngine · e)]
  rfl

theorem State.tryLower_setEngine (s : State) (e : Engine) : (s.setEngine e).tryLower = s.tryLower.setEngine e := by
  unfold State.tryLower
  rw [State.setEngine_headroom]
  split
  case h_1 =>
    rw [apply_ite (State.setEngine · e), apply_ite (State.setEngine · e), apply_ite (State.setEngine · e)]
    simp only [State.offerClaim_setEngine]
    rfl
  case h_2 => rfl

theorem State.lowerToZero_setEngine (s : State) (e : Engine) :
    (s.setEngine e).lowerToZero = s.lowerToZero.setEngine e :=
  State.tryLower_setEngine (s.setHeadroom { s.headroom with claim := .holding, target := some 0 }) e

theorem State.withdrawNeed_setEngine (s : State) (e : Engine) :
    (s.setEngine e).withdrawNeed = s.withdrawNeed.setEngine e := by
  have ended {v w : State} (held : Nat) (h : w = v.setEngine e) :
      (if held == 0 then w else w.lowerToZero) = (if held == 0 then v else v.lowerToZero).setEngine e := by
    rw [h, State.lowerToZero_setEngine, apply_ite (State.setEngine · e)]
  unfold State.withdrawNeed
  rw [State.setEngine_headroom]
  split
  · rfl
  · dsimp only
    split
    case h_1 | h_3 => exact ended _ rfl
    case h_2 => exact ended _ (State.offerClaim_setEngine (s.setHeadroom _) e _ _ _)
    case h_4 => exact State.lowerToZero_setEngine (s.setHeadroom { s.headroom with need := none }) e
    case h_5 | h_6 => rfl

/-! ### What a check's end and its start keep of a need (R137) -/

theorem State.keepsNeed_iff {c : Check} (check : s.engine.check = some c) :
    s.keepsNeed = true ↔ (c.params.kind = .tripRamp ∨ c.params.kind = .tripTime) ∧ s.engine.claimAmount ≠ 0 ∧
      s.headroom.claim = .holding := by
  simp [State.keepsNeed, check, ← Params.isTrip_iff, and_assoc]

/-- A RELEASE reports the engine idle, with the need kept or withdrawn before. -/
theorem State.release_reports (s : State) :
    ∃ u : State, s.release = u.reportIdle ∧ u.engine = { Engine.reset with carry := s.keepsNeed } ∧
      u.headroom = if s.keepsNeed then s.headroom else s.withdrawNeed.headroom := by
  have left : (s.setEngine (s.engine.leaveClaiming s.time)).keepsNeed = s.keepsNeed := by
    unfold Engine.leaveClaiming
    split <;> rfl
  refine ⟨_, rfl, ?_, ?_⟩
  · rw [← left]
    rfl
  · rw [← left]
    simp only [State.setPort_headroom, State.setEngine_headroom, State.handBack_frame, State.withdrawNeed_setEngine]
    split <;> rfl

/-- A carry that stands is kept for a trip check whose need the hold covers, and withdrawn for every other. -/
theorem State.settleCarry_of_carry (carries : s.engine.carry = true) (w : Work) :
    s.settleCarry w =
      if (w.params.kind = .tripRamp ∨ w.params.kind = .tripTime) ∧ w.need ≤ s.headroom.held then s
      else (s.setEngine { s.engine with carry := false }).withdrawNeed := by
  unfold State.settleCarry
  rw [if_pos carries]
  simp only [Bool.and_eq_true, decide_eq_true_eq, Params.isTrip_iff]

/-- Without the guard unit's hold the look at the contactor leaves QUIET. -/
theorem State.quietContactor_free (free : s.port.hold = false) :
    s.quietContactor.engine.phase = s.engine.phase ∧ s.quietContactor.engine.carry = s.engine.carry := by
  cases standing : s.port.standing with
  | closed => rw [State.quietContactor_closed standing free]; exact ⟨rfl, rfl⟩
  | opened => rw [State.quietContactor_opened standing free]; exact ⟨rfl, rfl⟩

theorem State.enterQuiet_free (free : s.port.hold = false) :
    s.enterQuiet.engine.phase = .quiet ∧ s.enterQuiet.engine.carry = s.engine.carry := by
  by_cases unloaded : s.port.applied = 0 ∧ s.port.pending = none ∧ s.port.onPort = none
  · rw [State.enterQuiet_unloaded unloaded]
    exact State.quietContactor_free (s := s.setEngine { s.engine with phase := .quiet }) free
  · rw [State.enterQuiet_loaded unloaded]
    exact ⟨rfl, rfl⟩

/-- Without the guard unit's hold a check handed over stands in QUIET, with what the carry has become. -/
theorem State.handOver_free (free : s.port.hold = false) (n : Fin 8) (h : SlotHead) (w : Work) :
    (s.handOver n h w).engine.phase = .quiet ∧
    (s.handOver n h w).engine.carry = (s.settleCarry w).engine.carry ∧
    (s.handOver n h w).headroom = (s.settleCarry w).headroom := by
  unfold State.handOver
  dsimp only
  refine ⟨(State.enterQuiet_free ?_).1, (State.enterQuiet_free ?_).2, by simp⟩
  all_goals simpa using free

/-! ### The port's report (R54 to R56) -/

theorem State.portReport_of_offLine (offLine : s.station = .offLine) :
    s.portReport =
      if s.headroom.claim = .holding ∧ (s.port.applied = 0 ∨ s.port.confirmedOpen = true) then
        s.setHeadroom s.headroom.barred
      else s := by
  simp [State.portReport, State.tryBar, offLine]

theorem State.portReport_of_onLine (onLine : s.station ≠ .offLine) : s.portReport = s.tryLower := by
  simp [State.portReport, onLine]

/-- Settles O49: what every command keeps of a hold, and each operation of the claim by its state. -/
theorem lowerOnlyWhenLoadIsOff : Obligations.LowerOnlyWhenLoadIsOff := by
  refine ⟨fun c s t holding ht lowered => exec_covers holding ht lowered, fun s amount priority => ?_,
    fun s c holding within => ?_, fun s => ?_, fun s c check => ?_, fun s n h w carries => ?_, fun s => ?_⟩
  · refine ⟨fun idle => s.stateNeed_of_idle idle amount priority, fun holding above => ?_, fun holding equal => ?_,
      fun holding below => ?_, fun other => s.stateNeed_of_other other amount priority⟩
    · rw [s.stateNeed_of_holding holding, if_neg (not_le.mpr above)]
      rfl
    · rw [s.stateNeed_of_holding holding, if_pos equal.le, if_neg equal.not_lt]
      exact State.tryLower_of_untargeted (.inr rfl)
    · rw [s.stateNeed_of_holding holding, if_pos below.le, if_pos below]
      refine State.tryLower_of_carried ?_ ?_ ?_
      exacts [holding, rfl, rfl]
  · have atOnce : s.headroom.grantsAtOnce c.need = true := by simp [Headroom.grantsAtOnce, holding, within]
    exact if_pos atOnce
  · intro u gone down ended unsent counted
    have downs (v : State) (need : v.headroom.need = none) (config : v.config = s.config) (port : v.port = s.port) :
        v.lowerToZero = down v := by
      rw [State.lowerToZero_of_withdrawn need]
      dsimp only [down]
      rw [← config, ← port]
    have ends (v : State) (need : v.headroom.need = none) (config : v.config = s.config) (port : v.port = s.port)
        (held : v.headroom.held = u.held) : v.endAsk = ended v := by
      rw [State.endAsk, downs v need config port, held]
    refine ⟨State.withdrawNeed_of_none, fun asks => ⟨fun claim w waits => ?_, fun claim free => ?_, fun claim => ?_,
      fun claim => ?_, fun claim => ?_⟩⟩
    · rw [State.withdrawNeed_of_askQueued asks claim, Line.withdrawClaim_of_waiting waits, waits]
      refine ends _ ?_ ?_ ?_ ?_ <;> rfl
    · have none : (if s.line.waiting.isSome then s.headroom.current else none) = none := by simp [free]
      rw [State.withdrawNeed_of_askQueued asks claim, Line.withdrawClaim_of_queued free, none]
      refine ends _ ?_ ?_ ?_ ?_ <;> rfl
    · rw [State.withdrawNeed_of_contest asks claim]
      exact ends _ (by simp; rfl) (by simp) (by simp) (by simp; rfl)
    · rw [State.withdrawNeed_of_backoff asks claim]
      refine ends _ ?_ ?_ ?_ ?_ <;> rfl
    · rw [State.withdrawNeed_of_holding asks claim]
      refine downs _ ?_ ?_ ?_ <;> rfl
  · intro keeps
    have kept : s.keepsNeed = decide keeps := Bool.eq_iff_iff.mpr
      ((State.keepsNeed_iff check).trans decide_eq_true_iff.symm)
    obtain ⟨u, ends, engine, headroom⟩ := s.release_reports
    refine ⟨u, ends, engine.trans (by rw [kept]), headroom.trans ?_⟩
    simp only [kept, decide_eq_true_eq]
  · intro covered
    have settled := s.settleCarry_of_carry carries w
    refine ⟨fun free => ?_, fun none idle => ?_⟩
    · obtain ⟨phase, carry, headroom⟩ := s.handOver_free free n h w
      refine ⟨phase, carry.trans ?_, headroom.trans ?_⟩
      · rw [settled]
        by_cases keeps : covered
        · rw [if_pos keeps, carries, decide_eq_true keeps]
        · rw [if_neg keeps, State.withdrawNeed_setEngine, decide_eq_false keeps]
          rfl
      · rw [settled, apply_ite State.headroom, State.withdrawNeed_setEngine]
        rfl
    · have complete : s.completeReset = s := by simp [State.completeReset, idle]
      simp only [State.reportIdle, complete, none, Option.isSome_none, Bool.false_eq_true, if_false, State.dropCarry,
        carries, if_true]
      rfl
  · intro u off
    refine ⟨fun offLine => ⟨fun holding free => ?_, fun stands => ?_⟩, fun onLine => ⟨fun still => ?_, ?_⟩⟩
    · rw [State.portReport_of_offLine offLine, if_pos ⟨holding, free⟩]
      rfl
    · rw [State.portReport_of_offLine offLine, if_neg (fun ⟨holding, free⟩ => stands.elim (· holding) (· free))]
    · rw [State.portReport_of_onLine onLine, State.tryLower_of_untargeted still]
    · intro holding amount target within announced
      rw [State.portReport_of_onLine onLine]
      refine ⟨fun none covers zero => ?_, fun none covers some => ?_, fun asks unloaded => ?_, fun stands => ?_⟩
      · rw [State.tryLower_of_withdrawn holding target none, if_pos covers, Headroom.lowered, if_pos (beq_iff_eq.mpr zero)]
        rfl
      · rw [State.tryLower_of_withdrawn holding target none, if_pos covers, Headroom.lowered, if_neg (by simpa using some)]
        rfl
      · rw [State.tryLower_of_carried holding target asks, if_pos unloaded]
        rfl
      · obtain ⟨none, short⟩ | ⟨asks, loaded⟩ := stands
        · rw [State.tryLower_of_withdrawn holding target none, if_neg short]
        · rw [State.tryLower_of_carried holding target asks, if_neg loaded]

end Sys2Proof.Machine
end

section
/-!
PROOF. TIGHTEN (R95, R180): refused while no limits can be set, refused for a code that names no limit, and otherwise
the limit that its code names, brought into range.
-/

namespace Sys2Proof.Machine

variable {s : State} {f : Frame}

/-- While the part is DEGRADED or has no effective limits a TIGHTEN is refused (R180). -/
theorem State.takeTighten_notReady (passes : s.requestFails f = none)
    (h : s.station = .degraded ∨ s.guardUnit.effective = none) :
    s.takeTighten f = s.refusing .guardUnit f 2 255 := by
  rw [State.takeTighten, passes]
  dsimp only
  split
  case h_3 limits ready => exact (h.elim ready (by simp [limits])).elim
  all_goals exact State.refuse_eq_refusing _ _ _ _ _

/-- With limits in effect the limit code decides: 0 to 2 name a limit, and every other is refused (R95, R180). -/
theorem State.takeTighten_ready {l : Limits} (passes : s.requestFails f = none) (ready : s.station ≠ .degraded)
    (limits : s.guardUnit.effective = some l) :
    s.takeTighten f =
      if 2 < byteAt f.payload 0 then s.refusing .guardUnit f 6 255
      else
        (s.setGuardUnit
            { s.guardUnit with effective := some (l.tighten s.config.limits f.payload) }).offerReplies .guardUnit
          [s.tightenReply f.source (byteAt f.payload 0) (l.tighten s.config.limits f.payload)] := by
  rw [State.takeTighten, passes]
  dsimp only
  split
  case h_1 degraded => exact absurd degraded ready
  case h_2 unset _ => cases limits.symm.trans unset
  case h_3 found _ =>
    obtain rfl := Option.some.inj (limits.symm.trans found)
    rw [State.refuse_eq_refusing]
    rfl

/-- Settles O36: refused or taken by station state and limit code, each code naming its own limit. -/
theorem tightenSetsLimit : Obligations.TightenSetsLimit := by
  intro s h rest hh passes
  have taken := exec_of_handing (c := .tighten) rfl hh
  have fails := State.requestFails_of_passes passes rest
  refine ⟨fun notReady => ?_, fun l ready limits => ?_⟩
  · rw [taken, State.takeTighten_notReady fails notReady]
  · rw [taken, State.takeTighten_ready fails ready limits]
    have named {code : Nat} (low : code ≤ 2) (hc : byteAt h.frame.payload 0 = code) :
        ¬ 2 < byteAt h.frame.payload 0 := by omega
    refine ⟨fun code => ?_, fun code => ?_, fun code => ?_, fun above => by rw [if_pos above]⟩
    all_goals
      rw [if_neg (named (by decide) code), Limits.tighten, code]
      rfl

end Sys2Proof.Machine
end

section
/-!
PROOF. What RELEASE hands back when a check ends (R76, R97, R137), and the commands that end one: the start wait, the
rest timer, the soak maximum and the recover wait (R126 to R128, R136, R166), and a set in SOAK, CLAIMING or RECOVER
(R136, R167).
-/

namespace Sys2Proof.Machine

variable {s t : State} {c : Check} {head : SlotHead} {work : Work}

/-! ### RELEASE -/

/-- A check of `s` has ended in `t`: its slot is DONE with a verdict and a cause and reports the check's record, the
latch is as it was, and where no slot waits the engine idles and the contactor is requested as `standing` says. -/
def State.endedAs (s t : State) (c : Check) (head : SlotHead) (work : Work) (d : Determined) (cause : Cause)
    (standing : Standing) : Prop :=
  ∃ r, t.slotTable.slot c.slot = .done head work r none ∧ r.verdict = d.verdict ∧ r.cause = cause ∧
    r.measured = d.measured ∧ r.endStamp = s.time ∧ s.reports r ∧ t.guardUnit.latch = s.guardUnit.latch ∧
    (s.slotTable.queue = [] →
      t.engine.phase = .idle ∧ t.engine.check = none ∧ t.port.standing = standing)

/-- RELEASE ends the check with the verdict and the cause that the engine keeps, and asks nothing of the contactor
(R137). -/
theorem State.release_endedAs (check : s.engine.check = some c) (active : s.slotTable.slot c.slot = .active head work)
    {d : Determined} (verdict : s.engine.verdict = some d) :
    s.endedAs s.release c head work d (s.engine.cause.getD .none) s.port.standing := by
  refine ⟨_, State.release_done check active, ?_, ?_, ?_, rfl, s.reports_resultRecord, by simp, State.release_idle⟩
  · simp [Engine.resultRecord, verdict]
  · simp [Engine.resultRecord]
  · simp [Engine.resultRecord, verdict]

/-- A check ends NOT_RUN with its cause (R97, R126 to R128). -/
theorem State.notRun_endedAs (check : s.engine.check = some c) (active : s.slotTable.slot c.slot = .active head work)
    (cause : Cause) :
    s.endedAs (s.notRun cause) c head work { verdict := .notRun, measured := 0 } cause s.port.standing :=
  State.release_endedAs (s := s.setEngine { s.engine with
    verdict := some { verdict := .notRun, measured := 0 }, cause := some cause }) check active rfl

/-- A check ends NOT_RUN with the contactor requested open (R126, R127, R167). -/
theorem State.openNotRun_endedAs (check : s.engine.check = some c)
    (active : s.slotTable.slot c.slot = .active head work) (cause : Cause) :
    s.endedAs (s.requestOpen.notRun cause) c head work { verdict := .notRun, measured := 0 } cause .opened := by
  have ended := State.notRun_endedAs (s := s.requestOpen) check active cause
  obtain ⟨r, slot, verdict, first, measured, stamp, reports, latch, idle⟩ := ended
  exact ⟨r, slot, verdict, first, measured, stamp, reports, latch.trans (by simp), idle⟩

/-! ### The timers that end a check -/

theorem execStartWaitTimerExpiry_due (quiet : s.engine.phase = .quiet)
    (expired : due s.time s.engine.startWait = true) :
    exec .startWaitTimerExpiry s =
      .next ((s.setEngine { s.engine with startWait := none }).requestOpen.notRun .notAtRest) := by
  change execStartWaitTimerExpiry s = _
  simp [execStartWaitTimerExpiry, quiet, expired]

theorem execRestTimerExpiry_due (quiet : s.engine.phase = .quiet) (expired : due s.time s.engine.rest = true) :
    exec .restTimerExpiry s =
      .next ((s.setEngine { s.engine with rest := none }).requestOpen.notRun .notAtRest) := by
  change execRestTimerExpiry s = _
  simp [execRestTimerExpiry, quiet, expired]

theorem execSoakMaximumTimerExpiry_due (soaks : s.engine.phase = .soak ∨ s.engine.phase = .claiming)
    (expired : due s.time s.engine.derate.soakTimer = true) :
    exec .soakMaximumTimerExpiry s = .next (s.notRun .soakTimeout) := by
  change execSoakMaximumTimerExpiry s = _
  simp [execSoakMaximumTimerExpiry, soaks, expired]

/-! ### The recover wait (R136, R138) -/

/-- The engine aborting with RECOVER_FAILED, before the guard unit hears of it. -/
def State.recoverFailed (s : State) : State :=
  let u := s.requestOpen.enterAbort (some .recoverFailed) false
  u.setEngine { u.engine with selfCause := some .recoverFailed }

theorem execRecoverWaitTimerExpiry_due (recover : s.engine.phase = .recover)
    (expired : due s.time s.engine.recoverWait = true) :
    exec .recoverWaitTimerExpiry s = .next (s.recoverFailed.latchFault .recoverFailed) := by
  change execRecoverWaitTimerExpiry s = _
  simp [execRecoverWaitTimerExpiry, recover, expired, State.recoverFailed]

/-- The order for the cause that the engine took ahead of the guard unit is no second cause (R138, R141). -/
theorem State.orderAbort_selfCause {cause : Cause} (aborting : s.engine.phase = .aborting)
    (own : s.engine.selfCause = some cause) (loud : cause ≠ .stationSilenced) :
    s.orderAbort cause = s.setEngine { s.engine with selfCause := none } := by
  simp [State.orderAbort, aborting, State.secondCause, own, loud]

/-- Latching that cause leaves slots and setpoint path, and of the engine all but the note of the cause. -/
theorem State.latchFault_selfCause {cause : Cause} (aborting : s.engine.phase = .aborting)
    (own : s.engine.selfCause = some cause) (loud : cause ≠ .stationSilenced) :
    (s.latchFault cause).engine = { s.engine with selfCause := none } ∧
    (s.latchFault cause).slotTable = s.slotTable ∧ (s.latchFault cause).port.pending = s.port.pending ∧
    (s.latchFault cause).port.onPort = s.port.onPort ∧
    (s.port.standing = .opened → (s.latchFault cause).port.standing = .opened) := by
  unfold State.latchFault
  split
  · rw [State.orderAbort_selfCause (by simpa using aborting) (by simpa using own) loud]
    simp [State.setHold, State.openContactor]
  · rw [State.orderAbort_selfCause (by simpa using aborting) (by simpa using own) loud]
    simp

/-- Out of RECOVER the engine aborts with its verdict kept, a drop in the path and the contactor requested open. -/
theorem State.recoverFailed_parts (recover : s.engine.phase = .recover) :
    s.recoverFailed.engine.phase = .aborting ∧ s.recoverFailed.engine.cause = some .recoverFailed ∧
    s.recoverFailed.engine.selfCause = some .recoverFailed ∧ s.recoverFailed.engine.verdict = s.engine.verdict ∧
    s.recoverFailed.engine.furtherFault = s.engine.furtherFault ∧ s.recoverFailed.slotTable = s.slotTable ∧
    s.recoverFailed.port.dropInPath ∧ s.recoverFailed.port.standing = .opened ∧
    s.recoverFailed.guardUnit.latch = s.guardUnit.latch ∧
    s.recoverFailed.guardUnit.further = s.guardUnit.further := by
  have still : s.engine.leaveClaiming s.time = s.engine := by simp [Engine.leaveClaiming, recover]
  have aborted : s.recoverFailed.engine = { s.engine.endLoading.stopTimers with
      phase := .aborting, cause := some .recoverFailed, noResult := false, mustOpen := false, carry := false
      selfCause := some .recoverFailed } := by
    rw [← still]
    rfl
  refine ⟨rfl, rfl, rfl, by rw [aborted]; rfl, by rw [aborted]; rfl, rfl,
    Port.writeDrop_dropInPath s.requestOpen.port, ?_, ?_, ?_⟩
  · simp [State.recoverFailed, State.requestOpen, State.openContactor]
  · simp [State.recoverFailed]
  · simp [State.recoverFailed]

theorem State.latchedFrom_of_same {u : State} {cause : Cause} (h : t.latchedFrom u cause)
    (latch : u.guardUnit.latch = s.guardUnit.latch) (further : u.guardUnit.further = s.guardUnit.further) :
    t.latchedFrom s cause := by
  simpa only [State.latchedFrom, latch, further] using h

/-- The recovery has failed: latch, open contactor and an abort that keeps the verdict (R136, R138, R141). -/
theorem State.recoverFailed_latchFault (recover : s.engine.phase = .recover) :
    let t := s.recoverFailed.latchFault .recoverFailed
    t.latchedFrom s .recoverFailed ∧ t.port.standing = .opened ∧ t.port.dropInPath ∧ t.engine.phase = .aborting ∧
    t.engine.cause = some .recoverFailed ∧ t.engine.verdict = s.engine.verdict ∧
    t.engine.furtherFault = s.engine.furtherFault ∧ t.slotTable = s.slotTable := by
  intro t
  obtain ⟨phase, cause, own, verdict, second, slots, drop, opened, latch, further⟩ := State.recoverFailed_parts recover
  obtain ⟨engine, kept, pending, onPort, stays⟩ := State.latchFault_selfCause phase own (by decide)
  refine ⟨State.latchedFrom_of_same (State.latchFault_latchedFrom _ _) latch further, stays opened, ?_, ?_, ?_, ?_, ?_,
    kept.trans slots⟩
  · rw [Port.dropInPath, pending, onPort]
    exact drop
  all_goals rw [engine]
  exacts [phase, cause, verdict, second]

/-! ### The sets that end a check (R136, R167) -/

/-- Of what a set does to the engine's record the result shows the peak current and CLIPPED alone (R97, R125). -/
theorem State.endedAs_of_takeIn {x : SampleSet} {d : Determined} {cause : Cause} {standing : Standing}
    (h : (s.setEngine (s.engine.takeIn x)).endedAs t c head work d cause standing) :
    (s.setEngine (s.engine.sawSet x)).endedAs t c head work d cause standing := h

/-- Power-good lost in SOAK, or in the CLAIMING of a DERATE check (R167). -/
theorem State.engineSet_soakLost (check : s.engine.check = some c) {p : DerateParams} (derate : c.params = .derate p)
    (soaks : s.engine.phase = .soak ∨ s.engine.phase = .claiming) {x : SampleSet} (lost : x.powerGood = false)
    (closed : s.port.commandedClosed = true) :
    s.engineSet x = (s.setEngine (s.engine.takeIn x)).requestOpen.notRun .notAtRest := by
  unfold State.engineSet
  obtain phase | phase := soaks <;>
    simp [check, derate, Engine.takeIn, phase, State.soakSet, lost, closed]

/-- Power-good back within the recover wait, or not yet (R136). -/
theorem State.engineSet_recover (check : s.engine.check = some c) (recover : s.engine.phase = .recover)
    (x : SampleSet) :
    s.engineSet x = if s.engine.recoverWait.isSome && x.powerGood then (s.setEngine (s.engine.takeIn x)).release
      else s.setEngine (s.engine.takeIn x) := by
  unfold State.engineSet
  simp [check, Engine.takeIn, recover]

end Sys2Proof.Machine
end

section
/-!
PROOF. How rest is shown in QUIET (R126, R127): what one set does to the rest count, sets at rest one after another, and
the phase that follows the sixty-fourth (R129, R147, R152, R166).
-/

namespace Sys2Proof.Machine

variable {s u : State} {c : Check} {x : SampleSet}

/-! ### Granted at once, or waiting (R45, R129) -/

/-- The engine on its entry to CLAIMING, before it states its need. -/
def State.claimingEntered (s : State) : State :=
  s.setEngine { s.engine with phase := .claiming, claimingSince := s.time, carry := false }

/-- A check that the hold does not cover waits in CLAIMING. -/
theorem State.enterClaiming_waiting (asks : s.headroom.grantsAtOnce c.need = false) :
    s.enterClaiming c = s.claimingEntered.stateNeed c.need c.priority := by
  simp [State.enterClaiming, State.claimingEntered, asks]

/-- With an idle claim the need is asked for, and the engine waits in CLAIMING (R45, R129). -/
theorem State.enterClaiming_asking (idle : s.headroom.claim = .idle) :
    (s.enterClaiming c).engine.phase = .claiming ∧ (s.enterClaiming c).engine.claimingSince = s.time ∧
    (s.enterClaiming c).headroom.claim = .askQueued ∧
    (s.enterClaiming c).headroom.need = some { amount := c.need, priority := c.priority } := by
  have asks : s.headroom.grantsAtOnce c.need = false := by simp [Headroom.grantsAtOnce, idle]
  rw [State.enterClaiming_waiting asks, State.stateNeed_of_idle (s := s.claimingEntered) idle]
  simp [State.claimingEntered, Headroom.stated]

/-- A trip check that the hold covers loads at once, its claim carried over (R45, R129). -/
theorem State.enterClaiming_carried (check : s.engine.check = some c)
    (trip : c.params.kind = .tripRamp ∨ c.params.kind = .tripTime) (covered : s.headroom.grantsAtOnce c.need = true) :
    (s.enterClaiming c).engine.carried = true ∧ (s.enterClaiming c).engine.claimAmount = c.need ∧
    (s.enterClaiming c).engine.phase = (if c.params.kind = .tripRamp then .ramp else .preload) ∧
    (s.enterClaiming c).engine.rest = s.engine.rest ∧
    (s.enterClaiming c).engine.restCount = s.engine.restCount := by
  have granted : s.enterClaiming c = (s.claimingEntered.stateNeed c.need c.priority).granted true := by
    simp [State.enterClaiming, State.claimingEntered, covered]
  rw [granted, State.granted]
  cases params : c.params with
  | derate p => simp [params, Params.kind] at trip
  | tripRamp p =>
    simp [State.claimingEntered, check, params, Params.kind, Params.isTrip, State.beginRamp, State.writeSetpoint,
      Engine.leaveClaiming]
  | tripTime p =>
    simp [State.claimingEntered, check, params, Params.kind, Params.isTrip, State.beginPreload, State.writeSetpoint,
      Engine.leaveClaiming]

/-! ### One set at rest, or not (R127) -/

theorem SampleSet.atRest_iff (x : SampleSet) (nominal : Nat) : x.atRest nominal = true ↔
    x.current < 20 ∧ nominal - nominal / 10 ≤ x.voltage ∧ x.voltage ≤ nominal + nominal / 10 ∧
      x.powerGood = true ∧ x.alert = false := by
  simp only [SampleSet.atRest, Bool.and_eq_true, decide_eq_true_eq, Bool.not_eq_true', and_assoc]
  rfl

theorem State.countRest_broken (moving : ¬ x.atRest s.config.nominalVoltage = true) :
    s.countRest c x = s.setEngine { s.engine with restCount := 0 } := by
  simp [State.countRest, moving, Config.restSets]

theorem State.countRest_counted (still : x.atRest s.config.nominalVoltage = true) (few : s.engine.restCount < 63) :
    s.countRest c x = s.setEngine { s.engine with restCount := s.engine.restCount + 1 } := by
  have short : s.engine.restCount + 1 ≠ Config.restSets := by
    rw [show Config.restSets = 64 from rfl]
    omega
  simp [State.countRest, still, short]

/-- The sixty-fourth set in a row shows rest (R127). -/
theorem State.countRest_shown (still : x.atRest s.config.nominalVoltage = true) (last : s.engine.restCount = 63) :
    s.countRest c x = s.restShown c := by
  simp [State.countRest, still, last, Config.restSets]

/-- The part once the engine has taken in a set at its arrival stamp, before QUIET looks at it (R125). -/
def State.withTaken (u : State) (x : Word × SampleSet) : State :=
  (u.setTime x.1).setEngine (u.engine.takeIn x.2)

/-- In QUIET a set is taken in, and then counts for what QUIET waits for (R126, R127). -/
theorem State.engineSet_quiet (check : s.engine.check = some c) (quiet : s.engine.phase = .quiet)
    (x : Word × SampleSet) : (s.setTime x.1).engineSet x.2 = (s.withTaken x).quietSet c x.2 := by
  unfold State.engineSet
  simp [State.withTaken, check, Engine.takeIn, quiet]

theorem State.quietSet_rest (stage : s.engine.quiet = .rest) : s.quietSet c x = s.countRest c x := by
  simp [State.quietSet, stage]

theorem State.quietSet_dark (stage : s.engine.quiet = .powerGood) (dark : x.powerGood = false) :
    s.quietSet c x = s := by
  simp [State.quietSet, stage, dark]

/-- Power-good has come: the start wait is over and the rest timer runs (R126, R127). -/
def State.restBegun (s : State) : State :=
  s.setEngine { s.engine with quiet := .rest, startWait := none, rest := some (later s.time 20000) }

theorem State.quietSet_lit (stage : s.engine.quiet = .powerGood) (lit : x.powerGood = true) :
    s.quietSet c x = s.restBegun.countRest c x := by
  simp [State.quietSet, stage, lit, State.restBegun, Config.restUnits]

/-- The set that shows power-good is itself the first to count for rest (R126, R127). -/
theorem State.quietSet_first (stage : s.engine.quiet = .powerGood) (fresh : s.engine.restCount = 0)
    (lit : x.powerGood = true) :
    (s.quietSet c x).engine.phase = s.engine.phase ∧ (s.quietSet c x).engine.quiet = .rest ∧
    (s.quietSet c x).engine.startWait = none ∧ (s.quietSet c x).engine.rest = some (later s.time 20000) ∧
    (s.quietSet c x).engine.restCount = if x.atRest s.config.nominalVoltage = true then 1 else 0 := by
  rw [State.quietSet_lit stage lit]
  by_cases still : x.atRest s.config.nominalVoltage = true
  · rw [State.countRest_counted (s := s.restBegun) still (fresh.trans_lt (by decide)), if_pos still]
    exact ⟨rfl, rfl, rfl, rfl, congrArg (· + 1) fresh⟩
  · rw [State.countRest_broken (s := s.restBegun) still, if_neg still]
    exact ⟨rfl, rfl, rfl, rfl, rfl⟩

/-! ### Sets one after another -/

theorem State.engineSets_concat (s : State) (sets : List (Word × SampleSet)) (x : Word × SampleSet) :
    s.engineSets (sets ++ [x]) = ((s.engineSets sets).setTime x.1).engineSet x.2 := by
  simp [State.engineSets]

/-- `u` is `s` with `n` sets in a row found at rest: QUIET counts on, and claim and configuration stand as they did. -/
structure State.restingOn (s u : State) (c : Check) (n : Nat) : Prop where
  check : u.engine.check = some c
  phase : u.engine.phase = .quiet
  stage : u.engine.quiet = .rest
  count : u.engine.restCount = n
  timer : u.engine.rest = s.engine.rest
  headroom : u.headroom = s.headroom
  config : u.config = s.config

variable {n : Nat}

theorem State.restingOn.taken (h : s.restingOn u c n) (x : Word × SampleSet) : s.restingOn (u.withTaken x) c n :=
  ⟨h.check, h.phase, h.stage, h.count, h.timer, h.headroom, h.config⟩

/-- The rest count takes the next set. -/
theorem State.restingOn.takes (h : s.restingOn u c n) (x : Word × SampleSet) :
    (u.setTime x.1).engineSet x.2 = (u.withTaken x).countRest c x.2 :=
  (State.engineSet_quiet h.check h.phase x).trans (State.quietSet_rest (h.taken x).stage)

theorem State.restingOn.counted (h : s.restingOn u c n) {x : Word × SampleSet} (few : n < 63)
    (still : x.2.atRest s.config.nominalVoltage = true) :
    s.restingOn ((u.setTime x.1).engineSet x.2) c (n + 1) := by
  have taken := h.taken x
  rw [h.takes, State.countRest_counted (taken.config ▸ still) (taken.count.trans_lt few)]
  exact ⟨h.check, h.phase, h.stage, congrArg (· + 1) h.count, h.timer, h.headroom, h.config⟩

/-- A set that is not at rest begins the count again (R127). -/
theorem State.restingOn.broken (h : s.restingOn u c n) {x : Word × SampleSet}
    (moving : ¬ x.2.atRest s.config.nominalVoltage = true) :
    s.restingOn ((u.setTime x.1).engineSet x.2) c 0 := by
  rw [h.takes, State.countRest_broken ((h.taken x).config ▸ moving)]
  exact ⟨h.check, h.phase, h.stage, rfl, h.timer, h.headroom, h.config⟩

/-- Fewer than sixty-four sets at rest are counted one by one. -/
theorem State.restingOn.engineSets (h : s.restingOn s c 0) (sets : List (Word × SampleSet))
    (still : ∀ y ∈ sets, y.2.atRest s.config.nominalVoltage = true) (few : sets.length < 64) :
    s.restingOn (s.engineSets sets) c sets.length := by
  induction sets using List.reverseRecOn with
  | nil => exact h
  | append_singleton before x ih =>
    rw [List.length_append, List.length_singleton] at few ⊢
    have counted := ih (fun y hy => still y (List.mem_append_left _ hy)) (by omega)
    rw [State.engineSets_concat]
    exact counted.counted (by omega) (still x (by simp))

/-! ### Rest shown (R127) -/

/-- The state in which rest has been shown: the rest timer and the count are gone. -/
def State.rested (s : State) : State := s.setEngine { s.engine with rest := none, restCount := 0 }

/-- The sixty-fourth set at rest shows rest (R127). -/
theorem State.restingOn.shown (h : s.restingOn u c 63) {x : Word × SampleSet}
    (still : x.2.atRest s.config.nominalVoltage = true) :
    (u.setTime x.1).engineSet x.2 = (u.withTaken x).restShown c := by
  have taken := h.taken x
  rw [h.takes, State.countRest_shown (taken.config ▸ still) taken.count]

/-- A DERATE check enters SOAK, its soak maximum running from now (R127, R166). -/
theorem State.restShown_derate {p : DerateParams} (derate : c.params = .derate p) :
    s.restShown c = s.rested.setEngine { s.rested.engine with
      phase := .soak
      derate := { s.engine.derate with soakTimer := some (later s.time (p.soakMaximum * 10000)) } } := by
  rw [State.restShown, derate]
  rfl

/-- A trip check enters CLAIMING (R127). -/
theorem State.restShown_trip (trip : c.params.kind = .tripRamp ∨ c.params.kind = .tripTime) :
    s.restShown c = s.rested.enterClaiming c := by
  rw [State.restShown]
  cases params : c.params with
  | derate p => simp [params, Params.kind] at trip
  | tripRamp p => rfl
  | tripTime p => rfl

theorem Params.derate_or_trip (p : Params) : (∃ q, p = .derate q) ∨ p.kind = .tripRamp ∨ p.kind = .tripTime := by
  cases p with
  | derate q => exact .inl ⟨q, rfl⟩
  | tripRamp q => exact .inr (.inl rfl)
  | tripTime q => exact .inr (.inr rfl)

/-- With a hold that covers the need a trip check loads at once (R45, R129). -/
theorem State.restShown_carried (check : s.engine.check = some c)
    (trip : c.params.kind = .tripRamp ∨ c.params.kind = .tripTime) (holding : s.headroom.claim = .holding)
    (covered : c.need ≤ s.headroom.held) :
    (s.restShown c).engine.carried = true ∧ (s.restShown c).engine.claimAmount = c.need ∧
    (s.restShown c).engine.phase = if c.params.kind = .tripRamp then .ramp else .preload := by
  have grants : s.rested.headroom.grantsAtOnce c.need = true := by
    simp [State.rested, Headroom.grantsAtOnce, holding, covered]
  obtain ⟨carried, amount, phase, _⟩ := State.enterClaiming_carried (s := s.rested) check trip grants
  rw [State.restShown_trip trip]
  exact ⟨carried, amount, phase⟩

/-- Once rest is shown, neither the rest timer nor the count goes on, whatever the claim (R127). -/
theorem State.restShown_ended (check : s.engine.check = some c) :
    (s.restShown c).engine.rest = none ∧ (s.restShown c).engine.restCount = 0 := by
  obtain ⟨p, derate⟩ | trip := c.params.derate_or_trip
  · rw [State.restShown_derate derate]
    exact ⟨rfl, rfl⟩
  · rw [State.restShown_trip trip]
    cases grants : s.rested.headroom.grantsAtOnce c.need with
    | false =>
      rw [State.enterClaiming_waiting grants]
      simp [State.claimingEntered, State.rested]
    | true =>
      obtain ⟨_, _, _, rest, count⟩ := State.enterClaiming_carried (s := s.rested) check trip grants
      exact ⟨rest, count⟩

/-! ### The obligation -/

/-- Settles O56: each end of a check by its command or its set, and the rest count by induction over the sets. -/
theorem engineTimersEndCheck : Obligations.EngineTimersEndCheck := by
  refine ⟨fun s c head work check active => ⟨fun quiet => ⟨fun i runs now => ?_, fun i runs now => ?_⟩,
    fun soaks i runs now => ?_, fun recover i runs now => ?_, fun x => ⟨fun p derate soaks lost closed => ?_,
    fun d verdict recover waits lit => ?_, fun recover still => ?_⟩⟩, fun s c sets x check quiet => ?_⟩
  · obtain ⟨r, ended⟩ := State.openNotRun_endedAs (s := s.setEngine { s.engine with startWait := none }) check active
      .notAtRest
    exact ⟨_, r, execStartWaitTimerExpiry_due quiet (due_of_reached runs now), ended⟩
  · obtain ⟨r, ended⟩ := State.openNotRun_endedAs (s := s.setEngine { s.engine with rest := none }) check active
      .notAtRest
    exact ⟨_, r, execRestTimerExpiry_due quiet (due_of_reached runs now), ended⟩
  · obtain ⟨r, ended⟩ := State.notRun_endedAs check active .soakTimeout
    exact ⟨_, r, execSoakMaximumTimerExpiry_due soaks (due_of_reached runs now), ended⟩
  · exact ⟨_, execRecoverWaitTimerExpiry_due recover (due_of_reached runs now), State.recoverFailed_latchFault recover⟩
  · dsimp only
    rw [State.engineSet_soakLost check derate soaks lost closed]
    exact State.endedAs_of_takeIn (State.openNotRun_endedAs (s := s.setEngine (s.engine.takeIn x)) check active _)
  · dsimp only
    rw [State.engineSet_recover check recover, if_pos (by simp [waits, lit])]
    exact State.endedAs_of_takeIn (State.release_endedAs (s := s.setEngine (s.engine.takeIn x)) check active verdict)
  · rw [State.engineSet_recover check recover, if_neg (by obtain stopped | dark := still <;> simp [*])]
    exact ⟨recover, rfl, rfl⟩
  · intro nominal atRest after last
    have resting (y : SampleSet) : y.atRest s.config.nominalVoltage = true ↔ atRest y := y.atRest_iff _
    refine ⟨fun stage => ?_, fun stage fresh still => ?_⟩
    · have taken : s.engineSets [x] = (s.withTaken x).quietSet c x.2 := State.engineSet_quiet check quiet x
      rw [taken]
      refine ⟨fun dark => ?_, fun fresh lit => ?_⟩
      · rw [State.quietSet_dark (s := s.withTaken x) stage dark]
        exact ⟨quiet, stage, rfl⟩
      · obtain ⟨phase, rest, wait, timer, count⟩ := State.quietSet_first (s := s.withTaken x) (c := c) stage fresh lit
        exact ⟨phase.trans quiet, rest, wait, timer, fun still => count.trans (if_pos ((resting x.2).mpr still)),
          fun moving => count.trans (if_neg (mt (resting x.2).mp moving))⟩
    · have begins : s.restingOn s c 0 := ⟨check, quiet, stage, fresh, rfl, rfl, rfl⟩
      have counted := begins.engineSets sets fun y hy => (resting y.2).mpr (still y hy)
      have next : last = (after.setTime x.1).engineSet x.2 := State.engineSets_concat s sets x
      refine ⟨fun few => ⟨(counted few).phase, (counted few).count, (counted few).timer, fun moving => ?_⟩,
        fun length rests => ?_⟩
      · have broken := (counted few).broken (mt (resting x.2).mp moving)
        rw [next]
        exact ⟨broken.phase, broken.count⟩
      · have full : s.restingOn after c 63 := length ▸ counted (by omega)
        have shown : last = _ := next.trans (full.shown ((resting x.2).mpr rests))
        have checked : (after.withTaken x).engine.check = some c := full.check
        obtain ⟨rest, count⟩ := State.restShown_ended checked
        rw [shown]
        refine ⟨rest, count, fun p derate => ?_, fun trip => ⟨fun idle => ?_, fun holding covered => ?_⟩⟩
        · rw [State.restShown_derate derate]
          exact ⟨rfl, rfl⟩
        · rw [State.restShown_trip trip]
          exact State.enterClaiming_asking (s := (after.withTaken x).rested)
            ((congrArg Headroom.claim full.headroom).trans idle)
        · exact State.restShown_carried checked trip ((congrArg Headroom.claim full.headroom).trans holding)
            (covered.trans_eq (congrArg Headroom.held full.headroom).symm)

end Sys2Proof.Machine
end

section
/-!
PROOF. What the operations of the engine, of the slot table and of the guard unit can do to the setpoint path and to the
contactor: setpoints and drops written, verdicts determined, the contactor opened, a fault latched with the hold. A close
stands apart: one command closes the contactor once at most, and nothing loads the shelf after it. One lemma for each
operation, in the order of Machine/.
-/

-- Elaborated one after the other: side by side these proofs ask for more threads than the check has memory for.
set_option Elab.async false

namespace Sys2Proof.Machine

/-! ### The relations -/

/-- SETTLE and RECOVER, the phases whose form speaks of the setpoint path (R135, R136). -/
def Phase.unloads : Phase → Bool
  | .settle | .recover => true
  | .idle | .quiet | .soak | .claiming | .preload | .ramp | .step | .frozen | .release | .aborting => false

/-- The load is off and nothing is on its way to it (R113, R136). -/
structure State.unloaded (s : State) : Prop where
  applied : s.port.applied = 0
  pending : s.port.pending = none
  onPort : s.port.onPort = none

/-- Path, contactor, latch and station stand in `t` as in `s`, and the engine has entered neither SETTLE nor RECOVER. -/
structure State.portStands (s t : State) : Prop where
  pending : t.port.pending = s.port.pending
  onPort : t.port.onPort = s.port.onPort
  applied : t.port.applied = s.port.applied
  standing : t.port.standing = s.port.standing
  hold : t.port.hold = s.port.hold
  confirmed : t.port.confirmedOpen = s.port.confirmedOpen
  latch : t.guardUnit.latch = s.guardUnit.latch
  station : t.station = s.station
  phase : t.engine.phase = s.engine.phase ∨ t.engine.phase.unloads = false

/-- `t` comes of `o` by setpoints and drops written, verdicts determined, requests to open and faults latched, with
path and contactor standing between them; the contactor is not closed on the way. -/
inductive State.drives (o : State) : State → Prop
  | refl : o.drives o
  | other {s t : State} (h : o.drives s) (stands : s.portStands t) : o.drives t
  | setpoint {s : State} (h : o.drives s) (v : Nat) (phase : s.engine.phase.unloads = false) :
      o.drives (s.writeSetpoint v)
  | settled {s : State} (h : o.drives s) (d : Determined) : o.drives (s.settle d)
  | drop {s : State} (h : o.drives s) (phase : s.engine.phase.unloads = false) : o.drives s.writeDrop
  | opening {s : State} (h : o.drives s) : o.drives s.requestOpen
  | fault {s : State} (h : o.drives s) (cause : Cause) :
      o.drives (s.setGuardUnit { s.guardUnit with latch := some cause, further := 0 }).setHold

/-- No fault is latched and the load is off. -/
def State.safe (s : State) : Prop := s.guardUnit.latch = none ∧ s.unloaded

/-- A contactor closed safely in `s` is still safe in `t`, or open again. -/
def State.calms (s t : State) : Prop := s.safe → t.port.commandedClosed = true → t.safe

/-- `t` comes of `s` by `drives`, or by one close on the way that nothing loads after. The hold is then clear; that the
load is off is shown by the operation itself, or follows from what the command knows of its state. -/
inductive State.serves (knows : Prop) (s : State) : State → Prop
  | drives {t : State} (h : s.drives t) : s.serves knows t
  | closes {u t : State} (before : s.drives u) (free : u.port.hold = false) (unloaded : knows → u.unloaded)
      (after : u.closeContactor.drives t) (calm : u.closeContactor.calms t) : s.serves knows t

/-- The way from `s` to `t` may free the engine: it serves what starts then, and starts nothing while a fault is
latched. -/
def State.mayServe (knows : Prop) (s t : State) : Prop :=
  s.serves knows t ∧ (s.guardUnit.latch.isSome = true → s.drives t)

variable {o s t u : State} {knows : Prop}

theorem Port.commandedClosed_iff (p : Port) : p.commandedClosed = true ↔ p.standing = .closed ∧ p.hold = false := by
  simp [Port.commandedClosed]

theorem State.portStands.of_same (pending : t.port.pending = s.port.pending := by simp)
    (onPort : t.port.onPort = s.port.onPort := by simp) (applied : t.port.applied = s.port.applied := by simp)
    (standing : t.port.standing = s.port.standing := by simp) (hold : t.port.hold = s.port.hold := by simp)
    (confirmed : t.port.confirmedOpen = s.port.confirmedOpen := by simp)
    (latch : t.guardUnit.latch = s.guardUnit.latch := by simp) (station : t.station = s.station := by simp)
    (phase : t.engine.phase = s.engine.phase ∨ t.engine.phase.unloads = false := by simp) : s.portStands t :=
  ⟨pending, onPort, applied, standing, hold, confirmed, latch, station, phase⟩

theorem State.portStands.refl (s : State) : s.portStands s := .of_same

theorem State.portStands.closed (h : s.portStands t) : t.port.commandedClosed = s.port.commandedClosed := by
  rw [Port.commandedClosed, h.standing, h.hold, Port.commandedClosed]

theorem State.portStands.calms (h : s.portStands t) : s.calms t := fun ⟨latch, applied, pending, onPort⟩ _ =>
  ⟨h.latch.trans latch, h.applied.trans applied, h.pending.trans pending, h.onPort.trans onPort⟩

theorem State.calms.refl (s : State) : s.calms s := (State.portStands.refl s).calms

/-! ### What `drives` keeps -/

namespace State.drives

theorem trans (h : o.drives s) (h' : s.drives t) : o.drives t := by
  induction h' with
  | refl => exact h
  | other _ stands ih => exact ih.other stands
  | setpoint _ v phase ih => exact ih.setpoint v phase
  | settled _ d ih => exact ih.settled d
  | drop _ phase ih => exact ih.drop phase
  | opening _ ih => exact ih.opening
  | fault _ cause ih => exact ih.fault cause

/-- The contactor is commanded closed only if it was. -/
theorem closed (h : s.drives t) (closed : t.port.commandedClosed = true) : s.port.commandedClosed = true := by
  induction h with
  | refl => exact closed
  | other _ stands ih => exact ih (stands.closed ▸ closed)
  | setpoint _ _ _ ih | settled _ _ ih | drop _ _ ih =>
    rw [Port.commandedClosed_iff] at closed
    exact ih ((Port.commandedClosed_iff _).mpr (by simpa using closed))
  | opening _ ih => exact nomatch ((Port.commandedClosed_iff _).mp closed).1
  | fault _ _ ih => exact nomatch ((Port.commandedClosed_iff _).mp closed).1

/-- A fault latched stays latched, ON_PORT, applied setpoint and station stand. -/
theorem frame (h : s.drives t) : (s.guardUnit.latch.isSome = true → t.guardUnit.latch.isSome = true) ∧
    t.port.onPort = s.port.onPort ∧ t.port.applied = s.port.applied ∧ t.station = s.station := by
  induction h with
  | refl => simp
  | other _ stands ih =>
    obtain ⟨latch, onPort, applied, station⟩ := ih
    exact ⟨by rw [stands.latch]; exact latch, stands.onPort.trans onPort, stands.applied.trans applied,
      stands.station.trans station⟩
  | setpoint _ _ _ ih | settled _ _ ih | drop _ _ ih | opening _ ih => simpa using ih
  | fault _ _ ih => exact ⟨fun _ => by simp, by simpa using ih.2⟩

theorem station (h : s.drives t) : t.station = s.station :=
  have ⟨_, _, _, station⟩ := h.frame
  station

theorem latched (h : s.drives t) (hl : s.guardUnit.latch.isSome = true) : t.guardUnit.latch.isSome = true :=
  h.frame.1 hl

/-! ### One block replaced -/

/-- An operation that leaves path, contactor, latch, station and phase, as its frame lemma says. -/
theorem unmoved (h : o.drives s) (pending : t.port.pending = s.port.pending := by simp)
    (onPort : t.port.onPort = s.port.onPort := by simp) (applied : t.port.applied = s.port.applied := by simp)
    (standing : t.port.standing = s.port.standing := by simp) (hold : t.port.hold = s.port.hold := by simp)
    (confirmed : t.port.confirmedOpen = s.port.confirmedOpen := by simp)
    (latch : t.guardUnit.latch = s.guardUnit.latch := by simp) (station : t.station = s.station := by simp)
    (phase : t.engine.phase = s.engine.phase ∨ t.engine.phase.unloads = false := by simp) : o.drives t :=
  h.other (.of_same pending onPort applied standing hold confirmed latch station phase)

theorem setEngine (h : o.drives s) (e : Engine) (phase : e.phase = s.engine.phase := by simp) :
    o.drives (s.setEngine e) := h.unmoved rfl rfl rfl rfl rfl rfl rfl rfl (.inl phase)

theorem enters (h : o.drives s) (e : Engine) (phase : e.phase.unloads = false := by rfl) :
    o.drives (s.setEngine e) := h.unmoved rfl rfl rfl rfl rfl rfl rfl rfl (.inr phase)

theorem setCeiling (h : o.drives s) (ceiling : Nat) : o.drives (s.setPort { s.port with ceiling := ceiling }) :=
  h.unmoved

theorem setHeadroom (h : o.drives s) (u : Headroom) : o.drives (s.setHeadroom u) := h.unmoved
theorem setLine (h : o.drives s) (l : Line) : o.drives (s.setLine l) := h.unmoved
theorem setSlotTable (h : o.drives s) (x : SlotTable) : o.drives (s.setSlotTable x) := h.unmoved

theorem setGuardUnit (h : o.drives s) (g : GuardUnit) (latch : g.latch = s.guardUnit.latch := by simp) :
    o.drives (s.setGuardUnit g) := h.unmoved (latch := latch)

/-! ### Loading (R129 to R135, R147, R152) -/

theorem beginRamp (h : o.drives s) (r : Ramp) : o.drives (s.beginRamp r) :=
  State.drives.setpoint (h.enters _) _ rfl

theorem beginPreload (h : o.drives s) (p : TimeParams) : o.drives (s.beginPreload p) :=
  State.drives.setpoint (h.enters _) _ rfl

theorem withdrawNeed (h : o.drives s) : o.drives s.withdrawNeed := h.unmoved

theorem granted (h : o.drives s) (atOnce : Bool) : o.drives (s.granted atOnce) := by
  unfold State.granted
  split
  case h_1 c _ _ =>
    have claimed := h.setEngine { s.engine.leaveClaiming s.time with
      claimAmount := c.need, carried := s.engine.carried || (atOnce && c.params.isTrip) }
    dsimp only
    split
    · exact claimed.beginRamp _
    · exact claimed.beginPreload _
    · split
      · exact State.drives.beginRamp (claimed.setEngine _) _
      · exact State.drives.withdrawNeed (claimed.enters _)
  case h_2 => exact h

theorem enterClaiming (h : o.drives s) (c : Check) : o.drives (s.enterClaiming c) := by
  have entered := h.enters { s.engine with phase := .claiming, claimingSince := s.time, carry := false }
  have stated : o.drives ((s.setEngine { s.engine with
      phase := .claiming, claimingSince := s.time, carry := false }).stateNeed c.need c.priority) := entered.unmoved
  unfold State.enterClaiming
  dsimp only
  split
  · exact stated.granted _
  · exact stated

theorem restShown (h : o.drives s) (c : Check) : o.drives (s.restShown c) := by
  have shown := h.setEngine { s.engine with rest := none, restCount := 0 }
  unfold State.restShown
  dsimp only
  split
  · exact shown.enters _
  all_goals exact shown.enterClaiming _

theorem enterAbort (h : o.drives s) (cause : Option Cause) (noResult : Bool) :
    o.drives (s.enterAbort cause noResult) :=
  State.drives.drop (h.enters _) rfl

theorem closeWasRefused (h : o.drives s) : o.drives s.closeWasRefused :=
  (h.enterAbort s.guardUnit.latch false).setEngine _

theorem dropCarry (h : o.drives s) : o.drives s.dropCarry := by
  unfold State.dropCarry
  split
  · exact (h.setEngine { s.engine with carry := false }).withdrawNeed
  · exact h

theorem settleCarry (h : o.drives s) (w : Work) : o.drives (s.settleCarry w) := by
  unfold State.settleCarry
  split
  · split
    · exact h
    · exact (h.setEngine { s.engine with carry := false }).withdrawNeed
  · exact h

theorem completeReset (h : o.drives s) : o.drives s.completeReset := h.unmoved

theorem putSlot (h : o.drives s) (n : Fin 8) (x : Slot) : o.drives (s.putSlot n x) := h.setSlotTable _

theorem handBack (h : o.drives s) (r : ResultRecord) : o.drives (s.handBack r) := h.unmoved

theorem vacateActive (h : o.drives s) : o.drives s.vacateActive := h.unmoved

/-! ### Shed events (R133, R134) -/

theorem freeze (h : o.drives s) : o.drives s.freeze :=
  State.drives.setpoint (h.enters _) _ rfl

theorem engineShed (h : o.drives s) : o.drives s.engineShed := by
  by_cases loads : s.engine.phase.loads = true
  · by_cases again : s.engine.restarts < 2
    · rw [State.engineShed_freezes loads again]; exact h.freeze
    · rw [State.engineShed_aborts loads (Nat.not_lt.mp again)]; exact h.enterAbort _ _
  · by_cases frozen : s.engine.phase = .frozen
    · rw [State.engineShed_frozen frozen]; exact h.setEngine _
    · rw [State.engineShed_unheeded (Bool.eq_false_iff.mpr loads) frozen]; exact h

theorem shedEvent (h : o.drives s) (order : Word) : o.drives (s.shedEvent order) := (h.setHeadroom _).engineShed

theorem ownShed (h : o.drives s) (e : Entry) (order : Word) : o.drives (s.ownShed e order) := by
  unfold State.ownShed
  split
  · exact h.engineShed
  · exact h.shedEvent _

/-! ### Sample sets (R127, R130, R148 to R158, R171 to R174) -/

theorem countRest (h : o.drives s) (c : Check) (x : SampleSet) : o.drives (s.countRest c x) := by
  unfold State.countRest
  dsimp only
  generalize (if x.atRest s.config.nominalVoltage then s.engine.restCount + 1 else 0) = n
  split
  · exact h.restShown _
  · exact h.setEngine _

theorem quietSet (h : o.drives s) (c : Check) (x : SampleSet) : o.drives (s.quietSet c x) := by
  unfold State.quietSet
  split
  · exact h
  · split
    · exact State.drives.countRest (h.setEngine _) _ _
    · exact h
  · exact h.countRest _ _

theorem planEnd (h : o.drives s) (d : Determined) : o.drives (s.planEnd d) := by
  unfold State.planEnd
  split
  · exact h.settled _
  · exact h.setEngine _

theorem rampDwellEnd (h : o.drives s) (phase : s.engine.phase.unloads = false) (p : Params) (r : Ramp) :
    o.drives (s.rampDwellEnd p r) := by
  unfold State.rampDwellEnd
  dsimp only
  split
  · exact State.drives.setpoint (h.setEngine _) _ phase
  · exact State.drives.planEnd (h.setEngine _) _

theorem preloadDwellEnd (h : o.drives s) (p : TimeParams) : o.drives (s.preloadDwellEnd p) :=
  State.drives.setpoint (h.enters _) _ rfl

theorem countDwell (h : o.drives s) (length : Nat) {atEnd : State → State}
    (ends : o.drives s.dwellCounted → o.drives (atEnd s.dwellCounted)) : o.drives (s.countDwell length atEnd) := by
  have counted : o.drives s.dwellCounted := h.setEngine _
  obtain ⟨_, he⟩ | ⟨_, _, he⟩ | ⟨_, _, he⟩ := s.countDwell_cases length atEnd <;> rw [he]
  exacts [h, counted, ends counted]

theorem dwellSet (h : o.drives s) (p : Params) : o.drives (s.dwellSet p) := by
  unfold State.dwellSet
  split
  case h_1 ramp | h_2 ramp =>
    exact h.countDwell _ fun counted => counted.rampDwellEnd (by simp [State.dwellCounted, ramp, Phase.unloads]) _ _
  case h_3 => exact h.countDwell _ fun counted => counted.preloadDwellEnd _
  case h_4 => split; exacts [h.setEngine _, h]
  case h_5 => exact h

theorem runBroken (h : o.drives s) (p : Params) : o.drives (s.runBroken p) := by
  have broken := h.setEngine { s.engine with
    runCount := 0, trip := { s.engine.trip with origin := none }
    derate := { s.engine.derate with origin := none } }
  unfold State.runBroken
  dsimp only
  split
  · exact broken.settled _
  · exact broken.dwellSet _

theorem collapseSet (h : o.drives s) (p : Params) (tail : TripTail) (before : Nat) (x : SampleSet) :
    o.drives (s.collapseSet p tail before x) := by
  unfold State.collapseSet
  dsimp only
  split
  · split
    · exact h.settled _
    · exact State.drives.dwellSet (h.setEngine _) _
  · exact h.runBroken _

theorem raisePower (h : o.drives s) (x : SampleSet) : o.drives (s.raisePower x) := by
  unfold State.raisePower
  split
  · exact h.setEngine _
  · exact h

theorem foldSet (h : o.drives s) (p : DerateParams) (x : SampleSet) : o.drives (s.foldSet p x) := by
  unfold State.foldSet
  dsimp only
  split
  · split
    · exact (h.raisePower x).settled _
    · exact State.drives.dwellSet ((h.raisePower x).setEngine _) _
  · exact (h.raisePower x).runBroken _

theorem loadingSet (h : o.drives s) (c : Check) (before : Nat) (x : SampleSet) :
    o.drives (s.loadingSet c before x) := by
  have marked : o.drives (s.markTripped x) := h.setEngine _
  unfold State.loadingSet
  dsimp only
  split
  · exact marked.collapseSet _ _ _ _
  · exact marked.collapseSet _ _ _ _
  · exact marked.foldSet _ _

end State.drives

/-! ### Closes (R120, R126, R137) -/

namespace State.serves

theorem after (h : s.serves knows t) (next : t.drives u) (calm : t.calms u) : s.serves knows u := by
  cases h with
  | drives h => exact .drives (h.trans next)
  | closes before free unloaded after calm' =>
    exact .closes before free unloaded (after.trans next) fun safe closed =>
      calm (calm' safe (next.closed closed)) closed

/-- An operation that leaves path and contactor may follow a close. -/
theorem other (h : s.serves knows t) (stands : t.portStands u) : s.serves knows u :=
  h.after (.other .refl stands) stands.calms

theorem refl (s : State) : s.serves knows s := .drives .refl

end State.serves

theorem State.drives.serves (h : s.drives t) (h' : t.serves knows u) : s.serves knows u := by
  cases h' with
  | drives h' => exact .drives (h.trans h')
  | closes before free unloaded after calm => exact .closes (h.trans before) free unloaded after calm

theorem State.drives.mayServe (h : s.drives t) : s.mayServe knows t := ⟨.drives h, fun _ => h⟩

theorem State.drives.thenServe (h : s.drives t) (h' : t.mayServe knows u) : s.mayServe knows u :=
  ⟨h.serves h'.1, fun hl => h.trans (h'.2 (h.latched hl))⟩

/-- With the load off QUIET may close the contactor, unless it is closed already or the close is refused (R126). -/
theorem State.quietContactor_serves (unloaded : knows → s.unloaded) : s.serves knows s.quietContactor := by
  unfold State.quietContactor
  split
  · exact .drives (.setEngine .refl _)
  · split
    · exact .drives (.closeWasRefused .refl)
    case isFalse free =>
      refine .closes (.setEngine .refl _) ?_ ?_ .refl (.refl _)
      · exact Bool.eq_false_iff.mpr free
      · exact fun k => ⟨(unloaded k).applied, (unloaded k).pending, (unloaded k).onPort⟩

theorem State.enterQuiet_serves (s : State) : s.serves knows s.enterQuiet := by
  unfold State.enterQuiet
  split
  · exact .drives (State.drives.drop (State.drives.refl.enters _) rfl)
  case isFalse off =>
    refine State.drives.serves (.enters .refl { s.engine with phase := .quiet })
      (State.quietContactor_serves fun _ => ?_)
    simp only [Port.pathEmpty, Bool.or_eq_true, bne_iff_ne, ne_eq, Bool.not_eq_true', not_or, Classical.not_not,
      Bool.not_eq_false, Bool.and_eq_true, Option.isNone_iff_eq_none] at off
    obtain ⟨applied, pending, onPort⟩ := off
    exact ⟨applied, pending, onPort⟩

theorem State.handOver_serves (s : State) (n : Fin 8) (head : SlotHead) (w : Work) :
    s.serves knows (s.handOver n head w) := by
  have taken : s.drives ((s.settleCarry w).setEngine { Engine.reset with
      phase := .quiet, carry := (s.settleCarry w).engine.carry, startStamp := (s.settleCarry w).time
      check := some { slot := n, priority := head.priority, params := w.params, need := w.need } }) :=
    (State.drives.refl.settleCarry w).enters _
  exact State.drives.serves (taken.setCeiling w.params.ceiling) (State.enterQuiet_serves _)

theorem State.examineStart_mayServe (s : State) : s.mayServe knows s.examineStart := by
  constructor
  · unfold State.examineStart
    split
    · exact .refl s
    · exact State.drives.serves (State.drives.refl.setSlotTable _) (State.handOver_serves _ _ _ _)
  · intro latched
    unfold State.examineStart
    rw [State.startable_of_latched latched]
    exact .refl

theorem State.reportIdle_mayServe (s : State) : s.mayServe knows s.reportIdle := by
  refine State.drives.thenServe (State.drives.refl.completeReset) ?_
  unfold State.reportIdle
  dsimp only
  split
  · exact State.examineStart_mayServe _
  · exact (State.drives.refl.dropCarry).mayServe

theorem State.finishCheck_mayServe (s : State) (carry : Bool) : s.mayServe knows (s.finishCheck carry) :=
  State.drives.thenServe ((State.drives.refl.enters { Engine.reset with carry := carry }).setCeiling 0)
    (State.reportIdle_mayServe _)

theorem State.release_mayServe (s : State) : s.mayServe knows s.release := by
  have left := State.drives.refl.setEngine (o := s) (s.engine.leaveClaiming s.time)
  unfold State.release
  dsimp only
  refine State.drives.thenServe (State.drives.handBack ?_ _) (State.finishCheck_mayServe _ _)
  split
  · exact left
  · exact left.withdrawNeed

theorem State.notRun_mayServe (s : State) (cause : Cause) : s.mayServe knows (s.notRun cause) :=
  State.drives.thenServe (.setEngine .refl _) (State.release_mayServe _)

theorem State.finishAbort_mayServe (s : State) (mismatched : Bool) : s.mayServe knows (s.finishAbort mismatched) := by
  have opened : s.drives (if s.engine.abortOpens mismatched then s.requestOpen else s) := by
    split
    · exact State.drives.refl.opening
    · exact .refl
  unfold State.finishAbort
  generalize (if s.engine.abortOpens mismatched then s.requestOpen else s) = u at opened
  refine State.drives.thenServe ?_ (State.finishCheck_mayServe _ _)
  split
  · exact opened.withdrawNeed.vacateActive
  · exact opened.withdrawNeed.handBack _

theorem State.beginAbort_mayServe (s : State) (cause : Option Cause) (noResult : Bool) :
    s.mayServe knows (s.beginAbort cause noResult) := by
  have entered := State.drives.refl.enterAbort (o := s) cause noResult
  unfold State.beginAbort
  dsimp only
  split
  · exact entered.thenServe (State.finishAbort_mayServe _ _)
  · exact entered.mayServe

theorem State.secondCause_mayServe (s : State) (cause : Cause) : s.mayServe knows (s.secondCause cause) := by
  unfold State.secondCause
  dsimp only
  split
  · exact (State.drives.refl.setEngine _).mayServe
  · split
    · exact (State.drives.refl.setEngine _).mayServe
    · split
      · refine State.drives.thenServe (State.drives.refl.setEngine
          { s.engine with furtherFault := true, mustOpen := s.engine.mustOpen || cause.opens }) ?_
        split
        · exact State.finishAbort_mayServe _ _
        · exact State.drives.refl.mayServe
      · exact State.drives.refl.mayServe

theorem State.orderAbort_mayServe (s : State) (cause : Cause) : s.mayServe knows (s.orderAbort cause) := by
  have stays : s.mayServe knows s := State.drives.refl.mayServe
  unfold State.orderAbort
  split
  case h_12 => exact State.secondCause_mayServe _ _
  case h_1 => split; exacts [State.drives.refl.dropCarry.mayServe, stays]
  case h_9 | h_10 => split; exacts [stays, State.beginAbort_mayServe _ _ _]
  case h_11 => exact stays
  all_goals exact State.beginAbort_mayServe _ _ _

theorem State.resetEngine_serves (s : State) : s.serves knows s.resetEngine := by
  unfold State.resetEngine
  split
  case h_1 => exact State.drives.refl.dropCarry.serves (State.reportIdle_mayServe _).1
  case h_2 => exact .drives (State.drives.refl.setEngine _)
  all_goals exact (State.beginAbort_mayServe _ _ _).1

/-! ### Faults (R181, R183) -/

theorem State.drives.latchFault (h : o.drives s) (cause : Cause) : o.drives (s.latchFault cause) := by
  refine h.trans ?_
  unfold State.latchFault
  split
  · exact (State.drives.refl.fault cause).trans ((State.orderAbort_mayServe (knows := True) _ cause).2 (by simp))
  case h_2 latched =>
    have counted := State.drives.refl.setGuardUnit (o := s)
      { s.guardUnit with further := countUp s.guardUnit.further 1 }
    exact counted.trans ((State.orderAbort_mayServe (knows := True) _ cause).2 (by simp [latched]))

theorem State.drives.latchFaults (h : o.drives s) (causes : List Cause) : o.drives (causes.foldl State.latchFault s) := by
  induction causes generalizing s with
  | nil => exact h
  | cons cause rest ih => exact ih (h.latchFault cause)

/-- A first fault opens the contactor, which is not safe in another way (R183). -/
theorem State.latchFaults_calms (s : State) (causes : List Cause) : s.calms (causes.foldl State.latchFault s) := by
  cases causes with
  | nil => exact .refl s
  | cons cause rest =>
    intro safe closed
    have closedFirst := (State.drives.refl.latchFaults rest).closed closed
    obtain ⟨_, _, opens⟩ := s.latchFault_latchedFrom cause
    have held := (opens safe.1).1
    rw [Port.commandedClosed_iff] at closedFirst
    exact absurd (closedFirst.2.symm.trans held) (by decide)

theorem State.guardSet_quietly (s : State) (x : SampleSet) : s.drives (s.guardSet x) ∧ s.calms (s.guardSet x) := by
  unfold State.guardSet
  split
  · exact ⟨.refl, .refl s⟩
  · split
    · dsimp only
      generalize hu : s.setGuardUnit _ = u
      have stands : s.portStands u := hu ▸ .of_same
      refine ⟨(State.drives.refl.other stands).latchFaults _, fun safe closed => ?_⟩
      exact State.latchFaults_calms u _ (stands.calms safe ((State.drives.refl.latchFaults _).closed closed)) closed
    · exact ⟨.refl, .refl s⟩

/-! ### Sets and answers -/

theorem State.soakSet_serves (s : State) (c : Check) (p : DerateParams) (x : SampleSet) :
    s.serves knows (s.soakSet c p x) := by
  have soaked := State.drives.refl.setEngine (o := s)
    { s.engine with derate := s.engine.derate.soak p x.temperature }
  unfold State.soakSet
  dsimp only
  split
  · exact State.drives.refl.opening.serves (State.notRun_mayServe _ _).1
  · split
    · exact .drives (soaked.enterClaiming _)
    · exact .drives soaked

theorem State.engineSet_serves (s : State) (x : SampleSet) : s.serves knows (s.engineSet x) := by
  unfold State.engineSet
  split
  · exact .refl s
  · refine State.drives.serves (State.drives.refl.setEngine (s.engine.takeIn x)) ?_
    dsimp only
    split
    case h_1 => exact .drives (State.drives.refl.quietSet _ _)
    case h_2 | h_3 => exact State.soakSet_serves _ _ _ _
    case h_4 | h_5 | h_6 | h_7 => exact .drives (State.drives.refl.loadingSet _ _ _)
    case h_8 => exact .drives (State.drives.refl.setEngine _)
    case h_9 => split; exacts [(State.release_mayServe _).1, .refl _]
    case h_10 => exact .refl _

theorem State.offerSet_serves (s : State) (x : SampleSet) (order : SetOrder) :
    s.serves knows (s.offerSet x order) := by
  unfold State.offerSet
  cases order
  · exact ((s.guardSet_quietly x).1.serves (State.engineSet_serves _ x)).other .of_same
  · obtain ⟨drives, calms⟩ := (s.engineSet x).guardSet_quietly x
    exact ((s.engineSet_serves x).after drives calms).other .of_same

theorem State.answerDiffers_drives (s : State) (sp : Setpoint) : s.drives (s.answerDiffers sp) := by
  have latched := State.drives.refl.latchFault (o := s) .loadStageMismatch
  have isLatched : (s.latchFault .loadStageMismatch).guardUnit.latch.isSome = true := by
    rw [(s.latchFault_latchedFrom _).1]; rfl
  unfold State.answerDiffers
  dsimp only
  split
  · exact latched.trans ((State.finishAbort_mayServe (knows := True) _ _).2 isLatched)
  · exact latched

end Sys2Proof.Machine
end

section
/-!
PROOF. The forms of contactor, setpoint path and unloading under `drives` and under a close (R113 to R116, R120, R121,
R135, R136, R183).
-/

-- Elaborated one after the other: side by side these proofs ask for more threads than the check has memory for.
set_option Elab.async false

namespace Sys2Proof.Machine

variable {s t u : State} {knows : Prop} {p : Port}

/-! ### The setpoint path (R114, R115) -/

/-- With a drop in the path nothing more is written (R114, R115). -/
theorem Port.written_of_drop (form : p.pathForm) (drop : p.dropInPath) (v : Nat) :
    p.writeSetpoint v = p ∧ p.writeDrop = p := by
  unfold Port.writeSetpoint Port.writeDrop
  obtain ⟨u, hu, drop⟩ | ⟨o, ho, drop⟩ := drop
  · simp [Option.mem_def.mp hu, drop]
  · simp [(form.2 o ho).2 drop, Option.mem_def.mp ho, drop]

/-- With no drop in the path a setpoint or a drop is the one that waits (R114, R115). -/
theorem Port.written_of_clear (clear : ¬ p.dropInPath) (v : Nat) :
    p.writeSetpoint v = { p with pending := some { value := v, drop := false } } ∧
    p.writeDrop = { p with pending := some { value := 0, drop := true } } := by
  obtain ⟨noWaiting, noDrop⟩ := not_or.mp clear
  unfold Port.writeSetpoint Port.writeDrop
  cases hu : p.pending with
  | some u => simp [show u.drop = false from Bool.eq_false_iff.mpr fun drop => noWaiting ⟨u, hu, drop⟩]
  | none =>
    cases ho : p.onPort with
    | some o => simp [show o.setpoint.drop = false from Bool.eq_false_iff.mpr fun drop => noDrop ⟨o, ho, drop⟩]
    | none => simp

/-- What waits behind no drop may be any setpoint, if it is zero as a drop. -/
theorem Port.pathForm.waits (form : p.pathForm) (clear : ¬ p.dropInPath) {x : Setpoint} (zero : x.dropIsZero) :
    ({ p with pending := some x } : Port).pathForm :=
  ⟨by rintro _ ⟨⟩; exact zero, fun o ho => ⟨(form.2 o ho).1, fun drop => absurd (.inr ⟨o, ho, drop⟩) clear⟩⟩

theorem Port.pathForm.writeSetpoint (form : p.pathForm) (v : Nat) : (p.writeSetpoint v).pathForm := by
  by_cases drop : p.dropInPath
  · rw [(Port.written_of_drop form drop v).1]; exact form
  · rw [(Port.written_of_clear drop v).1]; exact form.waits drop nofun

theorem Port.pathForm.writeDrop (form : p.pathForm) : p.writeDrop.pathForm := by
  by_cases drop : p.dropInPath
  · rw [(Port.written_of_drop form drop 0).2]; exact form
  · rw [(Port.written_of_clear drop 0).2]; exact form.waits drop fun _ => rfl

/-- The newest setpoint of the path is zero (R135). -/
def Port.newestZero (p : Port) : Prop :=
  (∀ u ∈ p.pending, u.value = 0) ∧ (p.pending = none → ∀ o ∈ p.onPort, o.setpoint.value = 0)

/-- A zero written is the newest of the path, or a drop that stands there is (R114, R135). -/
theorem Port.pathForm.newestZero (form : p.pathForm) : (p.writeSetpoint 0).newestZero := by
  by_cases drop : p.dropInPath
  · rw [(Port.written_of_drop form drop 0).1]
    obtain ⟨u, hu, drop⟩ | ⟨o, ho, drop⟩ := drop
    · have waits := Option.mem_def.mp hu
      refine ⟨fun v hv => ?_, fun none => absurd (waits.symm.trans none) nofun⟩
      cases waits.symm.trans hv
      exact form.1 u hu drop
    · have waits := (form.2 o ho).2 drop
      refine ⟨fun v hv => absurd (waits.symm.trans hv) nofun, fun _ x hx => ?_⟩
      cases ho.symm.trans hx
      exact (form.2 o ho).1 drop
  · rw [(Port.written_of_clear drop 0).1]
    exact ⟨by rintro _ ⟨⟩; rfl, nofun⟩

theorem Port.pathForm.congr {q : Port} (form : p.pathForm) (pending : q.pending = p.pending)
    (onPort : q.onPort = p.onPort) : q.pathForm := by
  unfold Port.pathForm
  rw [pending, onPort]
  exact form

/-- The port after a setpoint of the engine is as it was, or holds the setpoint (R114). -/
theorem State.writeSetpoint_port (s : State) (v : Nat) :
    (s.writeSetpoint v).port = if s.station = .offLine then s.port else s.port.writeSetpoint v := by
  unfold State.writeSetpoint
  by_cases h : s.station = .offLine <;> simp [h]

theorem State.settle_port (s : State) (d : Determined) :
    (s.settle d).port = if s.station = .offLine then s.port else s.port.writeSetpoint 0 :=
  State.writeSetpoint_port _ 0

namespace State.drives

theorem pathForm (h : s.drives t) (form : s.port.pathForm) : t.port.pathForm := by
  induction h with
  | refl => exact form
  | other _ stands ih => exact ih.congr stands.pending stands.onPort
  | setpoint _ v _ ih =>
    rw [State.writeSetpoint_port]
    split
    exacts [ih, ih.writeSetpoint v]
  | settled _ d ih =>
    rw [State.settle_port]
    split
    exacts [ih, ih.writeSetpoint 0]
  | drop _ _ ih => exact ih.writeDrop
  | opening _ ih | fault _ _ ih => exact ih.congr (by simp) (by simp)

/-! ### The contactor (R120, R121, R183) -/

theorem contactorForm (h : s.drives t) (form : s.contactorForm) : t.contactorForm := by
  induction h with
  | refl => exact form
  | other _ stands ih =>
    obtain ⟨hold, held, confirmed⟩ := ih
    rw [State.contactorForm, stands.hold, stands.latch, stands.standing, stands.confirmed]
    exact ⟨hold, held, confirmed⟩
  | setpoint _ _ _ ih | settled _ _ ih | drop _ _ ih => simpa [State.contactorForm] using ih
  | opening _ ih => exact ⟨by simpa using ih.1, fun _ => rfl, fun _ => rfl⟩
  | fault _ cause ih => exact ⟨by simp; rfl, fun _ => rfl, fun _ => rfl⟩

end State.drives

/-! ### SETTLE and RECOVER (R135, R136) -/

theorem State.unloadedForm_of_phase (h : t.engine.phase.unloads = false) : t.unloadedForm :=
  ⟨fun recover => (by rw [recover] at h; cases h), fun settles => (by rw [settles] at h; cases h)⟩

/-- An engine that has entered neither phase, before a path and an applied setpoint that stand. -/
theorem State.unloadedForm.congr (form : s.unloadedForm) (pending : t.port.pending = s.port.pending)
    (onPort : t.port.onPort = s.port.onPort) (applied : t.port.applied = s.port.applied)
    (phase : t.engine.phase = s.engine.phase ∨ t.engine.phase.unloads = false) : t.unloadedForm := by
  obtain same | elsewhere := phase
  · rw [State.unloadedForm, pending, onPort, applied, same]; exact form
  · exact State.unloadedForm_of_phase elsewhere

theorem State.drives.unloadedForm (h : s.drives t) (path : s.port.pathForm) (onLine : s.station ≠ .offLine)
    (form : s.unloadedForm) : t.unloadedForm := by
  induction h with
  | refl => exact form
  | other _ stands ih => exact ih.congr stands.pending stands.onPort stands.applied stands.phase
  | setpoint _ _ phase => exact State.unloadedForm_of_phase (by simpa using phase)
  | @settled v h d =>
    refine ⟨nofun, fun _ => ?_⟩
    have writes : (v.settle d).port = v.port.writeSetpoint 0 := by
      rw [State.settle_port, h.station, if_neg onLine]
    rw [writes]
    exact (h.pathForm path).newestZero
  | drop _ phase => exact State.unloadedForm_of_phase (by simpa using phase)
  | opening _ ih | fault _ _ ih => exact ih.congr (by simp) (by simp) (by simp) (.inl (by simp))

/-! ### Closes -/

namespace State.serves

theorem pathForm (h : s.serves knows t) (form : s.port.pathForm) : t.port.pathForm := by
  cases h with
  | drives h => exact h.pathForm form
  | closes before _ _ after _ => exact after.pathForm ((before.pathForm form).congr rfl rfl)

/-- A close needs the hold clear, and takes the contactor from confirmed open (R120, R121). -/
theorem contactorForm (h : s.serves knows t) (form : s.contactorForm) : t.contactorForm := by
  cases h with
  | drives h => exact h.contactorForm form
  | closes before free _ after _ =>
    exact after.contactorForm ⟨(before.contactorForm form).1, fun held => absurd (free.symm.trans held) nofun, nofun⟩

theorem unloadedForm (h : s.serves knows t) (path : s.port.pathForm) (onLine : s.station ≠ .offLine)
    (form : s.unloadedForm) : t.unloadedForm := by
  cases h with
  | drives h => exact h.unloadedForm path onLine form
  | closes before _ _ after _ =>
    exact after.unloadedForm ((before.pathForm path).congr rfl rfl) (by simpa [before.station] using onLine)
      ((before.unloadedForm path onLine form).congr rfl rfl rfl (.inl rfl))

theorem applied (h : s.serves knows t) : t.port.applied = s.port.applied := by
  cases h with
  | drives h =>
    obtain ⟨_, _, applied, _⟩ := h.frame
    exact applied
  | closes before _ _ after _ =>
    obtain ⟨_, _, first, _⟩ := before.frame
    obtain ⟨_, _, second, _⟩ := after.frame
    exact second.trans first

theorem station (h : s.serves knows t) : t.station = s.station := by
  cases h with
  | drives h => exact h.station
  | closes before _ _ after _ => exact after.station.trans before.station

/-- A contactor that has become commanded closed is safe. -/
theorem safe (h : s.serves knows t) (form : s.contactorForm) (wasOpen : ¬ s.port.commandedClosed = true) (known : knows)
    (closed : t.port.commandedClosed = true) : t.safe := by
  cases h with
  | drives h => exact absurd (h.closed closed) wasOpen
  | @closes u _ before free unloaded after calm =>
    have latch : u.guardUnit.latch = none := by
      rw [(before.contactorForm form).1, Option.isSome_eq_false_iff, Option.isNone_iff_eq_none] at free
      exact free
    have off := unloaded known
    exact calm ⟨latch, off.applied, off.pending, off.onPort⟩ closed

end State.serves

end Sys2Proof.Machine
end

section
/-!
PROOF. What each command does to setpoint path and contactor: it may set the port first, in one of the ways that
State.portSet lists, and serves the engine from there. From that the three forms of the port are read off, and when the
contactor may become commanded closed (R113 to R121, R126, R135, R136, R183).
-/

-- Elaborated one after the other: side by side these proofs ask for more threads than the check has memory for.
set_option Elab.async false

namespace Sys2Proof.Machine

/-! ### The port at the commands -/

/-- Contactor and latch stand in `t` as in `s`. -/
structure State.contactorStands (s t : State) : Prop where
  standing : t.port.standing = s.port.standing
  hold : t.port.hold = s.port.hold
  confirmed : t.port.confirmedOpen = s.port.confirmedOpen
  latch : t.guardUnit.latch = s.guardUnit.latch

/-- Path and applied setpoint stand in `t` as in `s`, and the engine in its phase. -/
structure State.pathStands (s t : State) : Prop where
  pending : t.port.pending = s.port.pending
  onPort : t.port.onPort.map OnPort.setpoint = s.port.onPort.map OnPort.setpoint
  applied : t.port.applied = s.port.applied
  phase : t.engine.phase = s.engine.phase

/-- The setpoint ON_PORT has been answered: ON_PORT is empty, and PENDING and contactor are as they were (R117, R118). -/
structure State.answered (s t : State) : Prop extends s.contactorStands t where
  pending : t.port.pending = s.port.pending
  onPort : t.port.onPort = none
  phase : t.engine.phase = s.engine.phase

/-- What a command sets of the port, before the rest of it. -/
inductive State.portSet (s : State) : Instr → State → Prop
  | stands (c : Instr) {t : State} (path : s.pathStands t) (contactor : s.contactorStands t) : s.portSet c t
  | reset (straps : Address) : s.portSet (.powerReset straps) (s.strapped straps)
  | dropped (c : Instr) {t : State} (port : t.port.pending = s.port.writeDrop.pending ∧ t.port.onPort = s.port.onPort)
      (applied : t.port.applied = s.port.applied) (hold : t.port.hold = s.port.hold)
      (confirmed : t.port.confirmedOpen = s.port.confirmedOpen) (latch : t.guardUnit.latch = s.guardUnit.latch)
      (standing : t.port.standing = s.port.standing ∨ t.port.standing = .opened) (apart : t.station ≠ .onLine) :
      s.portSet c t
  | taken (r : ReportedSet) (order : SetOrder) {t : State} (path : s.pathStands t)
      (standing : t.port.standing = s.port.standing) (hold : t.port.hold = s.port.hold)
      (latch : t.guardUnit.latch = s.guardUnit.latch)
      (confirmed : t.port.confirmedOpen = true → s.port.confirmedOpen = true ∨ ¬ s.port.commandedClosed = true) :
      s.portSet (.sampleSetArrival r order) t
  | written {t : State} (x : Setpoint) (v : Nat) (waits : s.port.pending = some x) (limited : v ≤ x.value)
      (pending : t.port.pending = none) (onPort : t.port.onPort.map OnPort.setpoint = some { x with value := v })
      (applied : t.port.applied = s.port.applied) (phase : t.engine.phase = s.engine.phase)
      (contactor : s.contactorStands t) : s.portSet .writeBegin t
  | differs {t : State} (v : Nat) (o : OnPort) (on : s.port.onPort = some o) (answered : s.answered t)
      (applied : t.port.applied = s.port.applied) : s.portSet (.setpointAcknowledgement v) t
  | agrees {t : State} (o : OnPort) (on : s.port.onPort = some o) (answered : s.answered t)
      (applied : t.port.applied = o.setpoint.value) : s.portSet (.setpointAcknowledgement o.setpoint.value) t
  | recovers {t : State} (o : OnPort) (on : s.port.onPort = some o) (settles : s.engine.phase = .settle)
      (newest : s.port.pending = none) (applied : t.port.applied = o.setpoint.value)
      (path : t.port.pending = none ∧ t.port.onPort = none) (recover : t.engine.phase = .recover)
      (standing : t.port.standing = .opened) (hold : t.port.hold = s.port.hold)
      (latch : t.guardUnit.latch = s.guardUnit.latch) : s.portSet (.setpointAcknowledgement o.setpoint.value) t
  | cleared {t : State} (latched : s.guardUnit.latch.isSome = true) (path : s.pathStands t)
      (standing : t.port.standing = s.port.standing) (confirmed : t.port.confirmedOpen = s.port.confirmedOpen)
      (released : t.port.hold = false ∧ t.guardUnit.latch = none) : s.portSet .clearFault t

/-- What a command may know of the load: the forms of path and unloading. -/
def State.knowsLoad (s : State) : Prop := s.port.pathForm ∧ s.unloadedForm

/-- Command `c` takes `s` to `t`: it sets the port, and serves the engine. -/
def State.portGoes (s : State) (c : Instr) (t : State) : Prop :=
  ∃ u, s.portSet c u ∧ u.serves s.knowsLoad t

variable {s t u : State} {c : Instr} {knows : Prop}

theorem State.contactorStands.of_same (standing : t.port.standing = s.port.standing := by simp)
    (hold : t.port.hold = s.port.hold := by simp)
    (confirmed : t.port.confirmedOpen = s.port.confirmedOpen := by simp)
    (latch : t.guardUnit.latch = s.guardUnit.latch := by simp) : s.contactorStands t :=
  ⟨standing, hold, confirmed, latch⟩

theorem State.pathStands.of_same (pending : t.port.pending = s.port.pending := by simp)
    (onPort : t.port.onPort = s.port.onPort := by simp) (applied : t.port.applied = s.port.applied := by simp)
    (phase : t.engine.phase = s.engine.phase := by simp) : s.pathStands t :=
  ⟨pending, by rw [onPort], applied, phase⟩

/-- A command that leaves port, latch and phase as they are. -/
theorem State.portSet.of_same (port : t.port = s.port := by simp)
    (latch : t.guardUnit.latch = s.guardUnit.latch := by simp) (phase : t.engine.phase = s.engine.phase := by simp) :
    s.portSet c t :=
  .stands c (.of_same (by rw [port]) (by rw [port]) (by rw [port]) phase)
    (.of_same (by rw [port]) (by rw [port]) (by rw [port]) latch)

theorem State.portSet.goes (h : s.portSet c u) (h' : u.serves s.knowsLoad t) : s.portGoes c t := ⟨u, h, h'⟩

theorem State.portSet.ends (h : s.portSet c t) : s.portGoes c t := h.goes (.refl t)

theorem State.serves.goes (h : s.serves s.knowsLoad t) : s.portGoes c t := State.portSet.goes .of_same h

theorem State.drives.goes (h : s.drives t) : s.portGoes c t := State.serves.goes (.drives h)

theorem State.portGoes.refl (s : State) : s.portGoes c s := State.drives.refl.goes

/-- A command of the silo does to the port what it makes of its frame, which has left the silo (R32). -/
theorem handedOn_portGoes {cls kind : Nat} {take : Heard → State → State} (hc : takesFrame c = some (cls, kind, take))
    (ht : exec c s = .next t) (hk : ∀ h (u : State), u.serves s.knowsLoad (take h u)) : s.portGoes c t := by
  obtain rfl | ⟨h, u, hh, rfl⟩ := exec_takesFrame hc ht
  · exact .refl _
  · obtain ⟨rest, _, rfl⟩ := State.handOn_taking hh
    exact State.portSet.goes (u := s.taking rest) (.of_same rfl rfl rfl) (hk h (s.taking rest))

/-- A request or an announcement that leaves port, engine and latch alone. -/
theorem State.serves.of_same (port : t.port = s.port := by simp)
    (latch : t.guardUnit.latch = s.guardUnit.latch := by simp) (station : t.station = s.station := by simp)
    (engine : t.engine.phase = s.engine.phase := by simp) : s.serves knows t :=
  .drives (State.drives.refl.unmoved (by rw [port]) (by rw [port]) (by rw [port]) (by rw [port]) (by rw [port])
    (by rw [port]) latch station (.inl engine))

/-! ### Requests -/

theorem State.answerSlot_stands (s : State) (f : Frame) (n : Fin 8) : s.portStands (s.answerSlot f n) := by
  unfold State.answerSlot
  split
  · exact .refl s
  · exact .of_same

theorem State.takePart_serves (s : State) (f : Frame) : s.serves knows (s.takePart f) := by
  have refused (r : Reason) : s.serves knows (s.refuse .slotTable f r detailRequest) := .of_same
  unfold State.takePart
  split
  · exact refused _
  · split
    · exact refused _
    · split
      case h_2 n _ _ head expected parts deadline _ =>
        split
        · unfold State.takeOwnPart State.validateSlot
          dsimp only
          split
          · split
            · exact .of_same
            · split
              · exact .of_same
              · exact State.drives.serves (State.drives.refl.unmoved) (State.examineStart_mayServe _).1
          · exact .of_same
        · exact refused _
      all_goals exact refused _

theorem State.takeCancel_serves (s : State) (f : Frame) : s.serves knows (s.takeCancel f) := by
  have refused (r : Reason) : s.serves knows (s.refuse .slotTable f r detailRequest) := .of_same
  have vacated (n : Fin 8) : s.serves knows ((s.vacate n).answerSlot f n) :=
    State.serves.other (t := s.vacate n) .of_same (State.answerSlot_stands _ _ _)
  unfold State.takeCancel
  split
  · exact refused _
  · split
    · unfold State.cancelSlot
      split
      case h_1 | h_2 => exact refused _
      case h_3 => split; exacts [vacated _, refused _]
      case h_4 => exact vacated _
      case h_5 => exact (State.orderAbort_mayServe s .cancelled).1.other (State.answerSlot_stands _ _ _)
    · split
      · unfold State.cancelAll
        dsimp only
        split
        · exact State.drives.serves (State.drives.refl.setSlotTable _) (State.orderAbort_mayServe _ _).1
        · exact .of_same
      · exact refused _

theorem State.takeBayReset_serves (s : State) (f : Frame) : s.serves knows (s.takeBayReset f) := by
  unfold State.takeBayReset
  split
  · exact .of_same
  · have cleared : s.drives (s.cleared f) := State.drives.refl.unmoved rfl rfl rfl rfl rfl rfl rfl rfl (.inl rfl)
    exact cleared.serves (State.resetEngine_serves _)

theorem State.takeTighten_latch (s : State) (f : Frame) : (s.takeTighten f).guardUnit.latch = s.guardUnit.latch := by
  unfold State.takeTighten
  (repeat' split) <;> simp

/-- CLEAR_FAULT releases the latch with its hold, examines the start, and latches what stands anew (R184). -/
theorem State.takeClearFault_goes (port : u.port = s.port) (latch : u.guardUnit.latch = s.guardUnit.latch)
    (engine : u.engine = s.engine) (f : Frame) : s.portGoes .clearFault (u.takeClearFault f) := by
  have refused (r : Reason) : s.portGoes .clearFault (u.refuse .guardUnit f r detailRequest) :=
    State.portSet.goes (.of_same port latch (by rw [engine])) .of_same
  unfold State.takeClearFault
  split
  · exact refused _
  · split
    · exact refused _
    case h_2 cause latched =>
      split
      · exact refused _
      · have released : s.portSet .clearFault
            (u.setGuardUnit { u.guardUnit with latch := none, further := 0 }).releaseHold := by
          refine .cleared (by rw [← latch, latched]; rfl) (.of_same ?_ ?_ ?_ ?_) ?_ ?_ ⟨rfl, rfl⟩ <;>
            simp [port, engine]
        refine released.goes (State.serves.other (t := u.clearLatch) ?_ .of_same)
        exact (State.examineStart_mayServe _).1.after (State.drives.refl.latchFaults _) (State.latchFaults_calms _ _)

theorem execClearFault_portGoes (ht : execClearFault s = .next t) : s.portGoes .clearFault t := by
  obtain rfl | ⟨h, u, hh, rfl⟩ := exec_takesFrame (c := .clearFault) rfl ht
  · exact .refl _
  · obtain ⟨rest, _, rfl⟩ := State.handOn_taking hh
    exact State.takeClearFault_goes (s := s) (u := s.taking rest) rfl rfl rfl h.frame

/-! ### The bay line -/

/-- Silencing writes the drop and requests the contactor open, whatever the line unit holds (R123). -/
theorem State.quieted_portSet (s : State) (l : Line) (c : Instr) : s.portSet c (s.setLine l).quieted := by
  refine .dropped c ⟨rfl, ?_⟩ ?_ ?_ ?_ (s.setLine l).quieted_rest.2 (.inr rfl) (by simp [State.quieted]; exact nofun)
  all_goals exact (by simp [State.quieted]; rfl)

theorem State.silence_portGoes (s : State) (l : Line) : s.portGoes c (s.setLine l).silence := by
  cases builds : s.station.builds
  · rw [(s.setLine l).silence_apart builds]
    exact State.portSet.ends (.of_same rfl rfl rfl)
  · have whole : (s.setLine l).silence = ((s.setLine l).quieted.orderAbort .stationSilenced).tryBar := by
      unfold State.silence
      exact if_pos builds
    rw [whole]
    exact (s.quieted_portSet l _).goes
      ((State.orderAbort_mayServe (s.setLine l).quieted .stationSilenced).1.other .of_same)

theorem State.reportCompleted_drives (s : State) (e : Entry) (order : Word) : s.drives (s.reportCompleted e order) := by
  unfold State.reportCompleted
  dsimp only
  split
  · exact State.drives.refl.unmoved
  · split
    · exact State.drives.refl.ownShed _ _
    · exact State.drives.refl.unmoved

theorem execFrameReceived_portGoes {stamp : Word} {bits : List Bool} (ht : execFrameReceived stamp bits s = .next t) :
    s.portGoes c t := by
  obtain ⟨rfl, _⟩ | ⟨start, f, _, _, rfl⟩ := execFrameReceived_cases ht
  · exact .refl _
  · refine State.serves.goes ?_
    unfold State.hearFrame State.siloFrame
    dsimp only
    (repeat' split) <;> exact .of_same

/-! ### Sample sets and answers -/

theorem execSampleSetArrival_portGoes {r : ReportedSet} {order : SetOrder}
    (ht : execSampleSetArrival r order s = .next t) : s.portGoes (.sampleSetArrival r order) t := by
  cases ht
  split
  · have taken : s.portSet (.sampleSetArrival r order) (s.takeSet r.taken) := by
      refine .taken r order .of_same (by simp) (by simp) (by simp) fun confirmed => ?_
      by_contra h
      obtain ⟨unconfirmed, closed⟩ := not_or.mp h
      have confirms : s.port.endTransaction.confirms r.taken = true := confirmed
      have closes : s.port.endTransaction.commandedClosed = true := not_not.mp closed
      have same : s.port.endTransaction.confirmedOpen = s.port.confirmedOpen := rfl
      simp_all [Port.confirms]
    refine taken.goes ?_
    dsimp only
    split
    · exact (State.drives.refl.unmoved).serves (State.offerSet_serves _ _ _)
    · exact State.offerSet_serves _ _ _
  · exact .refl s

/-- A drop acknowledged ends the wait of QUIET or of an abort, with the load off (R126, R139). -/
theorem State.dropAcknowledged_serves (unloaded : knows → s.unloaded) : s.serves knows s.dropAcknowledged := by
  unfold State.dropAcknowledged
  split
  case h_1 quiet =>
    split
    · dsimp only
      split
      case isTrue aborts =>
        have refused : s.drives s.quietContactor := by
          unfold State.quietContactor at aborts ⊢
          split
          · exact .setEngine .refl _
          · split
            · exact .closeWasRefused .refl
            · simp_all
        exact refused.serves (State.finishAbort_mayServe _ _).1
      case isFalse => exact State.quietContactor_serves unloaded
    · exact .refl s
  case h_2 => exact (State.finishAbort_mayServe _ _).1
  case h_3 => exact .refl s

/-- The newest setpoint acknowledged, unless it begins a recovery (R130, R135, R153). -/
theorem State.newestAcknowledged_serves (c : Check) (h : s.engine.phase = .settle → s.engine.tripped = false) :
    s.serves knows (s.newestAcknowledged c) := by
  have taken := State.drives.refl.setEngine (o := s) { s.engine with awaiting := false }
  have begun := taken.setEngine { s.engine with
    awaiting := false, dwellStart := some s.time, dwellCount := 0 }
  unfold State.newestAcknowledged
  dsimp only
  split
  case h_1 | h_2 => exact .drives begun
  case h_3 => exact .drives (State.drives.setEngine begun _)
  case h_4 settles =>
    rw [if_neg (by rw [h settles]; decide)]
    exact taken.serves (State.release_mayServe _).1
  case h_5 => exact .drives taken

/-- The newest setpoint of SETTLE acknowledged after a trip begins the recovery (R135). -/
theorem State.setpointAcknowledged_recovers (c : Check) (newest : s.port.pending = none)
    (settles : s.engine.phase = .settle) (tripped : s.engine.tripped = true) :
    s.setpointAcknowledged c = (s.setEngine { s.engine with awaiting := false }).enterRecover c.params := by
  unfold State.setpointAcknowledged State.newestAcknowledged
  rw [if_pos (Option.isNone_iff_eq_none.mpr newest), settles]
  simp only [tripped, if_true]

/-- A setpoint that is no drop, acknowledged, unless it is the newest and begins a recovery. -/
theorem State.setpointAcknowledged_serves (c : Check)
    (h : s.port.pending = none → s.engine.phase = .settle → s.engine.tripped = false) :
    s.serves knows (s.setpointAcknowledged c) := by
  unfold State.setpointAcknowledged
  split
  case isTrue newest => exact State.newestAcknowledged_serves c (h (Option.isNone_iff_eq_none.mp newest))
  case isFalse =>
    split
    · exact .drives (State.drives.setEngine .refl _)
    · exact .refl s

/-- The port with the setpoint ON_PORT applied, before the reports (R117). -/
def State.withApplied (s : State) (o : OnPort) : State :=
  s.setPort { s.port with onPort := none, ackTimer := none, applied := o.setpoint.value }

theorem execSetpointAcknowledgement_matches {o : OnPort} (on : s.port.onPort = some o) :
    execSetpointAcknowledgement o.setpoint.value s =
      .next ((s.withApplied o).engineAcknowledged o.setpoint).portReport := by
  unfold execSetpointAcknowledgement
  simp only [on, beq_self_eq_true, if_true]
  rfl

theorem execSetpointAcknowledgement_differs {o : OnPort} (on : s.port.onPort = some o) {v : Nat}
    (differs : v ≠ o.setpoint.value) : execSetpointAcknowledgement v s =
      .next ((s.setPort { s.port with onPort := none, ackTimer := none }).answerDiffers o.setpoint) := by
  unfold execSetpointAcknowledgement
  simp only [on, beq_false_of_ne differs]
  rfl

theorem execSetpointAcknowledgement_unasked (off : s.port.onPort = none) (v : Nat) :
    execSetpointAcknowledgement v s = .next (s.latchFault .loadStageMismatch) := by
  unfold execSetpointAcknowledgement
  simp only [off]

/-- A matching answer to a drop shows the load off: drops are zero, and nothing waits behind one (R115, R117). -/
theorem State.knowsLoad.dropApplied (knows : s.knowsLoad) {o : OnPort} (on : s.port.onPort = some o)
    (drop : o.setpoint.drop = true) : (s.withApplied o).unloaded :=
  ⟨(knows.1.2 o on).1 drop, (knows.1.2 o on).2 drop, rfl⟩

theorem State.answer_portGoes {o : OnPort} (on : s.port.onPort = some o) :
    s.portGoes (.setpointAcknowledgement o.setpoint.value)
      ((s.withApplied o).engineAcknowledged o.setpoint).portReport := by
  have agrees : s.portSet (.setpointAcknowledgement o.setpoint.value) (s.withApplied o) :=
    .agrees o on ⟨.of_same rfl rfl rfl rfl, rfl, rfl, rfl⟩ rfl
  unfold State.engineAcknowledged
  split
  case isTrue drop =>
    exact agrees.goes ((State.dropAcknowledged_serves fun knows => knows.dropApplied on drop).other .of_same)
  case isFalse =>
    split
    · exact agrees.goes .of_same
    case h_2 c _ =>
      by_cases recovers : s.port.pending = none ∧ s.engine.phase = .settle ∧ s.engine.tripped = true
      · obtain ⟨newest, settles, tripped⟩ := recovers
        rw [State.setpointAcknowledged_recovers (s := s.withApplied o) c newest settles tripped]
        have recovered : s.portSet (.setpointAcknowledgement o.setpoint.value)
            (((s.withApplied o).setEngine { (s.withApplied o).engine with awaiting := false }).enterRecover c.params) :=
          .recovers o on settles newest rfl ⟨newest, rfl⟩ rfl rfl rfl (by simp [State.enterRecover, State.withApplied])
        exact recovered.goes .of_same
      · refine agrees.goes ((State.setpointAcknowledged_serves c fun newest settles => ?_).other .of_same)
        exact Bool.eq_false_iff.mpr fun tripped => recovers ⟨newest, settles, tripped⟩

theorem execSetpointAcknowledgement_portGoes {v : Nat} (ht : execSetpointAcknowledgement v s = .next t) :
    s.portGoes (.setpointAcknowledgement v) t := by
  cases on : s.port.onPort with
  | none =>
    rw [execSetpointAcknowledgement_unasked on] at ht
    cases ht
    exact (State.drives.refl.latchFault _).goes
  | some o =>
    by_cases agrees : v = o.setpoint.value
    · subst agrees
      rw [execSetpointAcknowledgement_matches on] at ht
      cases ht
      exact State.answer_portGoes on
    · rw [execSetpointAcknowledgement_differs on agrees] at ht
      cases ht
      exact State.portSet.goes (u := s.setPort { s.port with onPort := none, ackTimer := none })
        (.differs v o on ⟨.of_same rfl rfl rfl rfl, rfl, rfl, rfl⟩ rfl)
        (.drives (State.answerDiffers_drives _ _))

/-! ### Timers -/

/-- The off-time over, with the load off the contactor is closed, or the check aborted (R136). -/
theorem State.offTimeOver_serves (c : Check) (unloaded : knows → s.unloaded) : s.serves knows (s.offTimeOver c) := by
  unfold State.offTimeOver
  dsimp only
  split
  · split
    · exact (State.drives.refl.closeWasRefused).serves (State.finishAbort_mayServe _ _).1
    · exact .drives State.drives.refl.closeWasRefused
  case isFalse free =>
    refine .closes (u := s.setEngine { s.engine with recoverWait := some (later s.time c.params.recoverUnits) })
      (.setEngine .refl _) (Bool.eq_false_iff.mpr free) ?_ .refl (.refl _)
    exact fun k => ⟨(unloaded k).applied, (unloaded k).pending, (unloaded k).onPort⟩

/-- In RECOVER the load is off, and the contactor may be closed (R136). -/
theorem execOffTimeTimerExpiry_portGoes (ht : execOffTimeTimerExpiry s = .next t) : s.portGoes c t := by
  cases ht
  split
  · exact .refl s
  · split
    case isTrue h =>
      simp only [Bool.and_eq_true, beq_iff_eq] at h
      refine State.serves.goes (State.drives.serves (.setEngine .refl { s.engine with offTime := none }) ?_)
      refine State.offTimeOver_serves _ fun knows => ?_
      obtain ⟨applied, pending, onPort⟩ := knows.2.1 h.1
      exact ⟨applied, pending, onPort⟩
    case isFalse => exact .refl s

/-- A fault latched after a change of the port that leaves path and contactor. -/
theorem State.portSet.latches {p : Port} (h : s.portSet c (s.setPort p)) (cause : Cause) :
    s.portGoes c ((s.setPort p).latchFault cause) := h.goes (.drives (State.drives.refl.latchFault _))

end Sys2Proof.Machine
end

section
/-!
PROOF. The port at every command, and what follows of it: the forms of contactor, path and unloading, the close of the
contactor, and what may change the applied setpoint (R113 to R121, R126, R135, R136, R183).
-/

-- Elaborated one after the other: side by side these proofs ask for more threads than the check has memory for.
set_option Elab.async false

namespace Sys2Proof.Machine

variable {s t u : State} {c : Instr} {knows : Prop}

/-! ### Start-up (R5, R10, R11) -/

theorem State.degrade_portGoes (s : State) (fault : StationFault) : s.portGoes c (s.degrade fault) :=
  State.portSet.ends (.of_same rfl rfl rfl)

theorem State.goOffLine_portGoes (s : State) (fault : StationFault) : s.portGoes c (s.goOffLine fault) :=
  State.portSet.ends (.of_same rfl rfl rfl)

theorem State.takeConfig_portGoes (s : State) (record : List Byte) : s.portGoes c (s.takeConfig record) :=
  State.portSet.ends (.of_same rfl rfl rfl)

theorem Port.writeDrop_pending_congr {p q : Port} (pending : q.pending = p.pending) (onPort : q.onPort = p.onPort) :
    q.writeDrop.pending = p.writeDrop.pending := by
  unfold Port.writeDrop
  rw [pending, onPort]
  (repeat' split) <;> simp_all

/-- The first write of the part's life is a drop (R113). -/
theorem State.enterJoining_portGoes (s : State) : s.portGoes c s.enterJoining := by
  refine State.portSet.ends (.dropped c ⟨Port.writeDrop_pending_congr rfl rfl, ?_⟩ ?_ ?_ ?_ rfl (.inl ?_) nofun)
  all_goals exact (by simp [State.enterJoining])

theorem State.joined_portGoes (s : State) : s.portGoes c s.joined.examineStart :=
  State.portSet.goes (u := s.joined) (.of_same rfl rfl rfl) (State.examineStart_mayServe _).1

theorem execPowerReset_portGoes {straps : Address} (ht : execPowerReset straps s = .next t) :
    s.portGoes (.powerReset straps) t := by
  cases ht
  split
  · exact (State.portSet.reset straps).goes (.drives (State.drives.refl.latchFault _))
  · exact (State.portSet.reset straps).ends

/-! ### Line and headroom -/

theorem State.reportFailed_drives (s : State) (e : Entry) : s.drives (s.reportFailed e) := by
  unfold State.reportFailed
  split
  · exact State.drives.refl.unmoved
  · exact .refl

theorem execSendCollision_portGoes (ht : execSendCollision s = .next t) : s.portGoes c t := by
  cases ht
  split
  · exact .refl s
  case h_2 _ e _ =>
    dsimp only
    split
    · exact s.silence_portGoes _
    · exact ((State.drives.refl.setLine _).trans (State.reportFailed_drives _ e)).goes

theorem execContestDecision_portGoes (ht : execContestDecision s = .next t) : s.portGoes c t := by
  cases ht
  split
  · split
    · split
      · refine State.drives.goes (State.drives.granted ?_ false)
        exact State.drives.refl.unmoved
      · refine State.serves.goes ?_
        unfold State.yieldContest
        exact .of_same
    · exact .refl s
  · exact .refl s

/-! ### Writes (R116) -/

theorem execWriteBegin_portGoes (ht : execWriteBegin s = .next t) : s.portGoes .writeBegin t := by
  cases ht
  split
  · exact .refl s
  case h_2 x waits =>
    split
    · exact State.portSet.ends (.written x (s.limited x).value waits (Nat.min_le_left _ _) rfl rfl rfl rfl
        (.of_same rfl rfl rfl rfl))
    · exact .refl s

/-! ### Timers of the engine -/

/-- A timer of QUIET that ends the check NOT_RUN, the contactor requested open (R126, R127). -/
theorem State.openNotRun_portGoes (s : State) (e : Engine) (cause : Cause) (phase : e.phase = s.engine.phase) :
    s.portGoes c ((s.setEngine e).requestOpen.notRun cause) :=
  State.serves.goes ((State.drives.setEngine .refl e phase).opening.serves (State.notRun_mayServe _ _).1)

theorem execTimeOutTimerExpiry_portGoes (ht : execTimeOutTimerExpiry s = .next t) : s.portGoes c t := by
  cases ht
  split
  · have stopped := State.drives.refl.setEngine (o := s)
      { s.engine with trip := { s.engine.trip with timeOut := none } }
    dsimp only
    split
    · exact (stopped.planEnd _).goes
    · exact stopped.goes
  · exact .refl s

theorem execShedHoldTimerExpiry_portGoes (ht : execShedHoldTimerExpiry s = .next t) : s.portGoes c t := by
  cases ht
  split
  · refine State.drives.goes (State.drives.refl.enters _ ?_)
    obtain he | he := Engine.resume_phase s.engine s.time <;> rw [he] <;> rfl
  · exact .refl s

/-! ### Every command -/

theorem exec_portGoes (ht : exec c s = .next t) : s.portGoes c t := by
  have start : s.drives s := .refl
  have stays : s.portGoes c s := .refl s
  cases c with
  | powerReset straps => exact execPowerReset_portGoes ht
  | stationTimeTick => cases ht; exact State.portSet.ends (.of_same rfl rfl rfl)
  | configReadComplete record =>
    obtain rfl | ⟨_, rfl | rfl | rfl⟩ := execConfigReadComplete_cases ht
    exacts [stays, s.degrade_portGoes _, s.degrade_portGoes _, s.takeConfig_portGoes _]
  | configReadNotAcknowledged =>
    obtain rfl | ⟨_, rfl⟩ := execConfigReadNotAcknowledged_cases ht
    exacts [stays, s.degrade_portGoes _]
  | configReadTimeout =>
    obtain rfl | ⟨_, rfl⟩ := execConfigReadTimeout_cases ht
    exacts [stays, s.degrade_portGoes _]
  | loopedFrameReceived bits =>
    obtain rfl | ⟨_, rfl | rfl⟩ := execLoopedFrameReceived_cases ht
    exacts [stays, s.enterJoining_portGoes, s.goOffLine_portGoes _]
  | selfLoopTimeout =>
    obtain rfl | ⟨_, rfl⟩ := execSelfLoopTimeout_cases ht
    exacts [stays, s.goOffLine_portGoes _]
  | joinTimerExpiry =>
    obtain rfl | ⟨_, rfl⟩ := execJoinTimerExpiry_cases ht
    exacts [stays, s.joined_portGoes]
  | frameSent =>
    obtain ⟨_, rfl⟩ | ⟨_, e, _, rfl⟩ := execFrameSent_cases ht
    exacts [stays, ((start.setLine _).trans (State.reportCompleted_drives _ _ _)).goes]
  | sendCollision => exact execSendCollision_portGoes ht
  | frameReceived stamp bits => exact execFrameReceived_portGoes ht
  | shed =>
    refine handedOn_portGoes rfl ht fun h u => ?_
    split
    · exact .drives (State.drives.refl.shedEvent _)
    · exact .refl u
  | ask | hold | drop =>
    refine handedOn_portGoes rfl ht fun h u => ?_
    unfold State.takeClaim
    (repeat' split) <;> exact .of_same
  | openSlot =>
    refine handedOn_portGoes rfl ht fun h u => ?_
    unfold State.takeOpen
    (repeat' split) <;> exact .of_same
  | part => exact handedOn_portGoes rfl ht fun h u => u.takePart_serves h.frame
  | cancel => exact handedOn_portGoes rfl ht fun h u => u.takeCancel_serves h.frame
  | clear =>
    refine handedOn_portGoes rfl ht fun h u => ?_
    unfold State.takeClear
    (repeat' split) <;> exact .of_same
  | fetch =>
    refine handedOn_portGoes rfl ht fun h u => ?_
    unfold State.takeFetch State.fetchResult
    (repeat' split) <;> exact .of_same
  | status =>
    refine handedOn_portGoes rfl ht fun h u => ?_
    unfold State.takeStatus
    split <;> exact .of_same
  | tighten =>
    refine handedOn_portGoes rfl ht fun h u => ?_
    obtain ⟨station, engine, port⟩ := u.takeTighten_frame h.frame
    exact .of_same port (u.takeTighten_latch h.frame) station (by rw [engine])
  | clearFault => exact execClearFault_portGoes ht
  | bayReset => exact handedOn_portGoes rfl ht fun h u => u.takeBayReset_serves h.frame
  | contestDecision => exact execContestDecision_portGoes ht
  | holdStaleTimerExpiry =>
    cases ht; split; exacts [State.serves.goes ((start.setHeadroom _).serves (State.orderAbort_mayServe _ _).1), stays]
  | sampleSetArrival reported order => exact execSampleSetArrival_portGoes ht
  | sampleWatchdogExpiry =>
    cases ht
    split
    · refine State.portSet.latches ?_ _
      exact .stands _ (.of_same rfl rfl rfl rfl) (.of_same rfl rfl rfl rfl)
    · exact stays
  | writeBegin => exact execWriteBegin_portGoes ht
  | setpointAcknowledgement v => exact execSetpointAcknowledgement_portGoes ht
  | acknowledgementTimerExpiry =>
    cases ht
    split
    · exact stays
    case h_2 o on =>
      split
      · refine State.portSet.latches ?_ _
        exact .stands _ ⟨rfl, by simp [on], rfl, rfl⟩ (.of_same rfl rfl rfl rfl)
      · exact stays
  | emergencyStopChange level =>
    have changed : s.portSet (.emergencyStopChange level) (s.setPort { s.port with estop := level }) :=
      .stands _ (.of_same rfl rfl rfl rfl) (.of_same rfl rfl rfl rfl)
    cases ht
    split
    · exact stays
    · dsimp only; split; exacts [changed.latches _, changed.ends]
  | startWaitTimerExpiry | restTimerExpiry =>
    cases ht; split; exacts [s.openNotRun_portGoes _ _ rfl, stays]
  | soakMaximumTimerExpiry => cases ht; split; exacts [State.serves.goes (State.notRun_mayServe _ _).1, stays]
  | shedHoldTimerExpiry => exact execShedHoldTimerExpiry_portGoes ht
  | timeOutTimerExpiry => exact execTimeOutTimerExpiry_portGoes ht
  | offTimeTimerExpiry => exact execOffTimeTimerExpiry_portGoes ht
  | recoverWaitTimerExpiry =>
    cases ht
    split
    · exact (((start.opening.enterAbort _ _).setEngine _).latchFault _).goes
    · exact stays
  | sampleReadBegin | writeEnd =>
    cases ht
    split
    all_goals exact State.portSet.ends (.stands _ (.of_same rfl rfl rfl rfl) (.of_same rfl rfl rfl rfl))
  | arbitrationLost =>
    cases ht; split; exacts [stays, ((start.setLine _).trans (State.reportFailed_drives _ _)).goes]
  | transmitStart | receivedInError | abortRunSeen | lineIdle | assemblyDeadlineExpiry
  | contestTimerExpiry | backoffTimerExpiry | refreshTimerExpiry | peerEntryExpiry | reListenTimerExpiry =>
    cases ht
    (repeat' split) <;> exact State.serves.goes .of_same

end Sys2Proof.Machine
end

section
/-!
PROOF. The forms of contactor, path and unloading at every command, the close of the contactor, and the commands that may
change the applied setpoint (R113 to R121, R126, R135, R136, R183).
-/

-- Elaborated one after the other: side by side these proofs ask for more threads than the check has memory for.
set_option Elab.async false

namespace Sys2Proof.Machine

variable {s t u : State} {c : Instr} {p q : Port}

/-! ### The forms by the setpoint that has been sent -/

theorem Port.pathForm_iff_sent (p : Port) : p.pathForm ↔ (∀ x ∈ p.pending, x.dropIsZero) ∧
    ∀ x ∈ p.onPort.map OnPort.setpoint, x.dropIsZero ∧ (x.drop = true → p.pending = none) := by
  simp [Port.pathForm]

theorem State.unloadedForm_iff_sent (s : State) : s.unloadedForm ↔
    (s.engine.phase = .recover →
      s.port.applied = 0 ∧ s.port.pending = none ∧ s.port.onPort.map OnPort.setpoint = none) ∧
    (s.engine.phase = .settle → (∀ x ∈ s.port.pending, x.value = 0) ∧
      (s.port.pending = none → ∀ x ∈ s.port.onPort.map OnPort.setpoint, x.value = 0)) := by
  simp [State.unloadedForm]

namespace State.pathStands

theorem pathForm (h : s.pathStands t) (form : s.port.pathForm) : t.port.pathForm := by
  rw [Port.pathForm_iff_sent, h.pending, h.onPort]
  exact s.port.pathForm_iff_sent.mp form

theorem unloadedForm (h : s.pathStands t) (form : s.unloadedForm) : t.unloadedForm := by
  rw [State.unloadedForm_iff_sent, h.pending, h.onPort, h.applied, h.phase]
  exact s.unloadedForm_iff_sent.mp form

end State.pathStands

theorem State.contactorStands.contactorForm (h : s.contactorStands t) (form : s.contactorForm) : t.contactorForm := by
  rw [State.contactorForm, h.hold, h.latch, h.standing, h.confirmed]
  exact form

theorem State.contactorStands.closed (h : s.contactorStands t) : t.port.commandedClosed = s.port.commandedClosed := by
  rw [Port.commandedClosed, h.standing, h.hold, Port.commandedClosed]

/-- With the setpoint ON_PORT answered, what waits is the whole path. -/
theorem Port.pathForm.answered (form : p.pathForm) (pending : q.pending = p.pending) (onPort : q.onPort = none) :
    q.pathForm := by
  rw [Port.pathForm, pending, onPort]
  exact ⟨form.1, nofun⟩

/-! ### The forms after the port has been set -/

theorem State.strapped_port (s : State) (straps : Address) :
    (s.strapped straps).port.pending = none ∧ (s.strapped straps).port.onPort = none ∧
    (s.strapped straps).port.applied = 0 ∧ (s.strapped straps).port.standing = .opened ∧
    (s.strapped straps).port.hold = false ∧ (s.strapped straps).guardUnit.latch = none ∧
    (s.strapped straps).engine.phase = .idle := by
  unfold State.strapped State.takeStraps
  split <;> exact ⟨rfl, rfl, rfl, rfl, rfl, rfl, rfl⟩

namespace State.portSet

theorem pathForm (h : s.portSet c t) (form : s.port.pathForm) : t.port.pathForm := by
  cases h with
  | stands _ path | taken _ _ path | cleared _ path => exact path.pathForm form
  | reset straps =>
    obtain ⟨pending, onPort, _⟩ := s.strapped_port straps
    rw [Port.pathForm, pending, onPort]
    exact ⟨nofun, nofun⟩
  | dropped _ port => exact form.writeDrop.congr port.1 (port.2.trans (by simp))
  | written x v waits limited pending onPort =>
    have zero : ({ x with value := v } : Setpoint).dropIsZero := fun drop =>
      Nat.le_zero.mp (form.1 x waits drop ▸ limited)
    rw [Port.pathForm_iff_sent, pending, onPort]
    exact ⟨nofun, by rintro _ ⟨⟩; exact ⟨zero, fun _ => rfl⟩⟩
  | differs _ _ _ answered | agrees _ _ answered => exact form.answered answered.pending answered.onPort
  | recovers _ _ _ _ _ path =>
    rw [Port.pathForm, path.1, path.2]
    exact ⟨nofun, nofun⟩

theorem contactorForm (h : s.portSet c t) (form : s.contactorForm) : t.contactorForm := by
  obtain ⟨hold, held, confirmed⟩ := form
  cases h with
  | stands _ _ contactor | written _ _ _ _ _ _ _ _ contactor => exact contactor.contactorForm ⟨hold, held, confirmed⟩
  | differs _ _ _ answered | agrees _ _ answered => exact answered.contactorForm ⟨hold, held, confirmed⟩
  | reset straps =>
    obtain ⟨_, _, _, standing, released, latch, _⟩ := s.strapped_port straps
    rw [State.contactorForm, standing, released, latch]
    exact ⟨rfl, nofun, fun _ => rfl⟩
  | dropped _ _ _ sameHold same latch standing =>
    rw [State.contactorForm, sameHold, same, latch]
    obtain standing | standing := standing <;> rw [standing]
    exacts [⟨hold, held, confirmed⟩, ⟨hold, fun _ => rfl, fun _ => rfl⟩]
  | taken _ _ _ standing sameHold latch confirms =>
    rw [State.contactorForm, sameHold, standing, latch]
    refine ⟨hold, held, fun isOpen => ?_⟩
    obtain already | wasOpen := confirms isOpen
    · exact confirmed already
    · rw [Port.commandedClosed_iff, not_and, Bool.not_eq_false] at wasOpen
      cases at_ : s.port.standing with
      | opened => rfl
      | closed => exact absurd (at_.symm.trans (held (wasOpen at_))) nofun
  | recovers _ _ _ _ _ _ _ standing sameHold latch =>
    rw [State.contactorForm, standing, sameHold, latch]
    exact ⟨hold, fun _ => rfl, fun _ => rfl⟩
  | cleared _ _ standing same released =>
    rw [State.contactorForm, standing, same, released.1, released.2]
    exact ⟨rfl, nofun, confirmed⟩

/-- To set the port is not to close the contactor: a latch is cleared with the standing request open (R120, R184). -/
theorem notClosed (h : s.portSet c t) (form : s.contactorForm) (wasOpen : ¬ s.port.commandedClosed = true) :
    ¬ t.port.commandedClosed = true := by
  have opened (standing : t.port.standing = .opened) : ¬ t.port.commandedClosed = true := by
    simp [Port.commandedClosed, standing]
  cases h with
  | stands _ _ contactor | written _ _ _ _ _ _ _ _ contactor => rwa [contactor.closed]
  | differs _ _ _ answered | agrees _ _ answered => rwa [answered.closed]
  | reset straps =>
    obtain ⟨_, _, _, standing, _⟩ := s.strapped_port straps
    exact opened standing
  | dropped _ _ _ hold _ _ standing =>
    obtain standing | standing := standing
    · rwa [Port.commandedClosed, standing, hold]
    · exact opened standing
  | taken _ _ _ standing hold => rwa [Port.commandedClosed, standing, hold]
  | recovers _ _ _ _ _ _ _ standing => exact opened standing
  | cleared latched _ standing => exact opened (standing.trans (form.2.1 (form.1.trans latched)))

theorem unloadedForm (h : s.portSet c t) (form : s.unloadedForm) (onLine : t.station = .onLine) : t.unloadedForm := by
  cases h with
  | stands _ path | taken _ _ path | cleared _ path => exact path.unloadedForm form
  | reset straps =>
    obtain ⟨_, _, _, _, _, _, phase⟩ := s.strapped_port straps
    exact State.unloadedForm_of_phase (by rw [phase]; rfl)
  | dropped _ _ _ _ _ _ _ apart => exact absurd onLine apart
  | written x v waits limited pending onPort _ phase =>
    rw [State.unloadedForm_iff_sent, pending, onPort, phase]
    refine ⟨fun recover => absurd (waits.symm.trans (form.1 recover).2.1) nofun, fun settles => ⟨nofun, fun _ => ?_⟩⟩
    rintro _ ⟨⟩
    exact Nat.le_zero.mp ((form.2 settles).1 x waits ▸ limited)
  | differs _ o on answered | agrees o on answered =>
    rw [State.unloadedForm, answered.pending, answered.onPort, answered.phase]
    exact ⟨fun recover => absurd (on.symm.trans (form.1 recover).2.2) nofun,
      fun settles => ⟨(form.2 settles).1, fun _ => nofun⟩⟩
  | recovers o on settles newest applied path recover =>
    rw [State.unloadedForm, applied, path.1, path.2, recover]
    exact ⟨fun _ => ⟨(form.2 settles).2 newest o on, rfl, rfl⟩, nofun⟩

/-- The applied setpoint is changed by an answer or by power reset (R117). -/
theorem applied (h : s.portSet c t) : t.port.applied = s.port.applied ∨
    (∃ v, c = .setpointAcknowledgement v ∧ t.port.applied = v) ∨
    ∃ straps, c = .powerReset straps ∧ t.port.applied = 0 := by
  cases h with
  | stands _ path | taken _ _ path | cleared _ path => exact .inl path.applied
  | reset straps =>
    obtain ⟨_, _, applied, _⟩ := s.strapped_port straps
    exact .inr (.inr ⟨straps, rfl, applied⟩)
  | dropped _ _ applied | written _ _ _ _ _ _ applied | differs _ _ _ _ applied => exact .inl applied
  | agrees _ _ _ applied | recovers _ _ _ _ applied => exact .inr (.inl ⟨_, rfl, applied⟩)

end State.portSet

/-! ### Contactor and path (O43, O54) -/

theorem exec_contactorForm (form : s.contactorForm) (ht : exec c s = .next t) : t.contactorForm :=
  have ⟨_, set, serves⟩ := exec_portGoes ht
  serves.contactorForm (set.contactorForm form)

theorem exec_pathForm (form : s.port.pathForm) (ht : exec c s = .next t) : t.port.pathForm :=
  have ⟨_, set, serves⟩ := exec_portGoes ht
  serves.pathForm (set.pathForm form)

/-- Settles O43: every command sets the port in one of the ways of `portSet`, which keep hold, latch and contactor in
step, and then serves the engine; a close needs the hold clear and ends the confirmation. -/
theorem contactorFormKept : Obligations.ContactorFormKept := fun _ _ form ht =>
  step_keeps_form (P := State.contactorForm) (fun _ _ h => h) (fun _ _ _ => exec_contactorForm) form ht

/-- Settles O54: to set the port and to serve the engine both keep the path in form. -/
theorem pathFormKept : Obligations.PathFormKept := fun _ _ form ht =>
  step_keeps_form (P := fun s => s.port.pathForm) (fun _ _ h => h) (fun _ _ _ => exec_pathForm) form ht

/-! ### The close, SETTLE and RECOVER (O55) -/

/-- A command that closes the contactor leaves it safe: no fault is latched and the load is off (R120, R126, R136). -/
theorem exec_closesSafely (path : s.port.pathForm) (contactor : s.contactorForm) (unloaded : s.unloadedForm)
    (wasOpen : s.port.commandedClosed = false) (ht : exec c s = .next t) (closed : t.port.commandedClosed = true) :
    t.safe := by
  obtain ⟨u, set, serves⟩ := exec_portGoes ht
  exact serves.safe (set.contactorForm contactor) (set.notClosed contactor (by simp [wasOpen])) ⟨path, unloaded⟩ closed

/-- Outside ON_LINE no check runs, save the abort that silencing began (R13, R143). -/
theorem State.stationForm.unloadedForm (form : t.stationForm) (apart : t.station ≠ .onLine) : t.unloadedForm := by
  obtain idle | ⟨_, aborting⟩ := (form.1 apart).2
  · exact State.unloadedForm_of_phase (by rw [idle]; rfl)
  · exact State.unloadedForm_of_phase (by rw [aborting]; rfl)

theorem exec_unloadedForm (path : s.port.pathForm) (station : s.stationForm) (form : s.unloadedForm)
    (ht : exec c s = .next t) : t.unloadedForm := by
  by_cases onLine : t.station = .onLine
  · obtain ⟨u, set, serves⟩ := exec_portGoes ht
    have same : u.station = .onLine := serves.station.symm.trans onLine
    exact serves.unloadedForm (set.pathForm path) (by simp [same]) (set.unloadedForm form same)
  · exact (exec_stationForm station ht).unloadedForm onLine

/-- Settles O55: one command closes the contactor once at most, with the hold clear and the load off, and nothing loads
the shelf after it; RECOVER is entered by the newest setpoint's answer, and SETTLE with a zero written. -/
theorem closeOnlyUnloaded : Obligations.CloseOnlyUnloaded := by
  refine ⟨fun c s t path contactor unloaded wasOpen ht closed => ?_, fun s t path station form ht => ?_⟩
  · obtain ⟨latch, applied, pending, onPort⟩ := exec_closesSafely path contactor unloaded wasOpen ht closed
    exact ⟨latch, applied, pending, onPort⟩
  · obtain ⟨_, _, kept⟩ := step_keeps_form (P := fun s => s.port.pathForm ∧ s.stationForm ∧ s.unloadedForm)
      (fun _ _ h => h)
      (fun _ _ _ ⟨path, station, form⟩ hx =>
        ⟨exec_pathForm path hx, exec_stationForm station hx, exec_unloadedForm path station form hx⟩)
      ⟨path, station, form⟩ ht
    exact kept

end Sys2Proof.Machine
end

section
/-!
PROOF. The answer to the setpoint ON_PORT: what it applies, what it latches, and that nothing else moves the applied
setpoint (R117 to R119, R183).
-/

namespace Sys2Proof.Machine

variable {s t : State} {c : Instr}

/-- A mismatch reaches the latch, also where it ends the wait of an abort (R118, R139, R183). -/
theorem State.answerDiffers_latchedFrom (s : State) (sp : Setpoint) :
    (s.answerDiffers sp).latchedFrom s .loadStageMismatch := by
  have latched := s.latchFault_latchedFrom .loadStageMismatch
  unfold State.answerDiffers
  dsimp only
  split
  · obtain ⟨latch, further, opens⟩ := latched
    refine ⟨by simpa using latch, by simpa using further, fun clear => ⟨by simpa using (opens clear).1, ?_⟩⟩
    exact (State.finishAbort_latched true (by rw [latch]; rfl) (opens clear).2).1
  · exact latched

/-- What the answer `v` to a setpoint ON_PORT does. -/
theorem execSetpointAcknowledgement_answers {o : OnPort} (on : s.port.onPort = some o) (v : Nat) :
    ∃ t, exec (.setpointAcknowledgement v) s = .next t ∧ t.port.onPort = none ∧ t.port.ackTimer = none ∧
      (v = o.setpoint.value →
        t.port.applied = v ∧ t.guardUnit.latch = s.guardUnit.latch ∧ t.guardUnit.further = s.guardUnit.further) ∧
      (v ≠ o.setpoint.value → t.port.applied = s.port.applied ∧ t.latchedFrom s .loadStageMismatch) := by
  by_cases agrees : v = o.setpoint.value
  · subst agrees
    refine ⟨_, execSetpointAcknowledgement_matches on, ?_, ?_, fun _ => ⟨?_, ?_, ?_⟩, fun differs => absurd rfl differs⟩
    all_goals simp [State.withApplied]
  · refine ⟨_, execSetpointAcknowledgement_differs on agrees, ?_, ?_, fun same => absurd same agrees, fun _ => ⟨?_, ?_⟩⟩
    on_goal 4 => exact State.latchedFrom_of_same (State.answerDiffers_latchedFrom _ _) rfl rfl
    all_goals simp

/-- Nothing but an answer or power reset changes the applied setpoint: what serves the engine leaves it (R117). -/
theorem exec_applied (ht : exec c s = .next t) : t.port.applied = s.port.applied ∨
    (∃ v, c = .setpointAcknowledgement v ∧ t.port.applied = v) ∨
    ∃ straps, c = .powerReset straps ∧ t.port.applied = 0 := by
  obtain ⟨u, set, serves⟩ := exec_portGoes ht
  rw [serves.applied]
  exact set.applied

/-- Settles O52: the three answers (asked for by nothing, equal, different) by their equations, and the frame of the
applied setpoint by what every command does to the port. -/
theorem acknowledgementRule : Obligations.AcknowledgementRule := by
  refine ⟨fun s v => ⟨fun off => ?_, fun o on => execSetpointAcknowledgement_answers on v⟩,
    fun c s t ht changed => (exec_applied ht).resolve_left changed⟩
  exact ⟨_, execSetpointAcknowledgement_unasked off v, s.latchFault_latchedFrom _, by simp, by simp [off], by simp⟩

end Sys2Proof.Machine
end

section
/-!
PROOF. The transactions of the instrument port: a read begun or held, a write begun, a write ended (R112, R116, R123).
-/

namespace Sys2Proof.Machine

variable {s : State}

/-- A ready set is read on a free path, and held otherwise (R112). -/
theorem execSampleReadBegin_eq (s : State) : exec .sampleReadBegin s = .next { s with port :=
    (if s.port.path = .free then { s.port with path := .reading } else { s.port with readWaiting := true }) } := by
  change execSampleReadBegin s = _
  unfold execSampleReadBegin
  by_cases free : s.port.path = .free <;> simp only [free, beq_iff_eq, if_true, if_false] <;> rfl

theorem State.mayWrite_iff (s : State) : s.mayWrite = true ↔ s.port.pending.isSome = true ∧
    s.station.writes = true ∧ s.port.onPort = none ∧ s.port.path = .free ∧ s.port.readWaiting = false := by
  simp [State.mayWrite, and_assoc, and_left_comm]

/-- A write begins with the setpoint limited, if one may (R116, R123). -/
theorem execWriteBegin_eq {x : Setpoint} (waits : s.port.pending = some x) : exec .writeBegin s = .next
    (if s.mayWrite then s.setPort { s.port with
      pending := none, onPort := some { setpoint := s.limited x, unanswered := false }, path := .writing } else s) := by
  change execWriteBegin s = _
  simp only [execWriteBegin, waits]

/-- The end of a write lets a held read go first, and starts the acknowledgement timer (R112, R116). -/
theorem execWriteEnd_eq (writing : s.port.path = .writing) : exec .writeEnd s = .next { s with port := { s.port with
    path := if s.port.readWaiting = true then .reading else .free
    readWaiting := false
    ackTimer := if s.port.onPort = none then s.port.ackTimer
      else some (later s.time (s.config.ackTimeout * 10)) } } := by
  change execWriteEnd s = _
  unfold execWriteEnd
  rw [if_pos (by rw [writing]; rfl)]
  cases on : s.port.onPort <;> simp [Port.endTransaction, on, State.setPort, Config.unitsPerMs]

/-- Settles O50: the path by whether a drop stands in it, and each transaction by its equation. -/
theorem portTransactions : Obligations.PortTransactions := by
  refine ⟨fun p v form => ⟨fun drop => Port.written_of_drop form drop v, fun clear => Port.written_of_clear clear v⟩,
    fun s => ⟨execSampleReadBegin_eq s, fun x waits => ?_, execWriteEnd_eq⟩⟩
  have waiting : s.port.pending.isSome = true := by rw [Option.mem_def.mp waits]; rfl
  rw [execWriteBegin_eq waits]
  refine ⟨fun ready => ?_, fun unready => ?_⟩
  · rw [if_pos (s.mayWrite_iff.mpr ⟨waiting, ready⟩)]
    rfl
  · rw [if_neg fun may => unready (s.mayWrite_iff.mp may).2]

end Sys2Proof.Machine
end

section
/-!
PROOF. A sample set taken in and offered: what the port keeps of it, and what the engine has seen in RAMP (R108, R109,
R111, R112, R121, R125, R146, R181).
-/

-- Elaborated one after the other: side by side these proofs ask for more threads than the check has memory for.
set_option Elab.async false

namespace Sys2Proof.Machine

variable {s t u : State} {c : Check} {x : SampleSet} {knows : Prop}

/-! ### What the engine has seen (R125, R146) -/

/-- Peak current, CLIPPED flag and last current. -/
def Engine.seen (e : Engine) : Nat × Bool × Nat := (e.peakCurrent, e.clipped, e.trip.lastCurrent)

theorem Engine.leaveClaiming_seen (e : Engine) (now : Word) : (e.leaveClaiming now).seen = e.seen := by
  unfold Engine.leaveClaiming
  split <;> rfl

section

variable (s : State)

theorem State.writeSetpoint_seen (v : Nat) : (s.writeSetpoint v).engine.seen = s.engine.seen := by
  simp [Engine.seen]

theorem State.settle_seen (d : Determined) : (s.settle d).engine.seen = s.engine.seen :=
  State.writeSetpoint_seen _ 0

theorem State.beginRamp_seen (r : Ramp) : (s.beginRamp r).engine.seen = s.engine.seen :=
  State.writeSetpoint_seen _ _

theorem State.beginPreload_seen (p : TimeParams) : (s.beginPreload p).engine.seen = s.engine.seen :=
  State.writeSetpoint_seen _ _

theorem State.granted_seen (atOnce : Bool) : (s.granted atOnce).engine.seen = s.engine.seen := by
  have left : (s.engine.leaveClaiming s.time).seen = s.engine.seen := s.engine.leaveClaiming_seen s.time
  unfold State.granted
  split
  case h_1 =>
    dsimp only
    split
    · exact (State.beginRamp_seen _ _).trans left
    · exact (State.beginPreload_seen _ _).trans left
    · split
      · exact (State.beginRamp_seen _ _).trans left
      · simp only [State.withdrawNeed_frame]
        exact left
  case h_2 => rfl

theorem State.enterClaiming_seen (c : Check) : (s.enterClaiming c).engine.seen = s.engine.seen := by
  have stated : ((s.setEngine { s.engine with phase := .claiming, claimingSince := s.time, carry := false }).stateNeed
      c.need c.priority).engine.seen = s.engine.seen := by
    simp only [State.stateNeed_frame]; rfl
  unfold State.enterClaiming
  dsimp only
  split
  · exact (State.granted_seen _ _).trans stated
  · exact stated

theorem State.restShown_seen (c : Check) : (s.restShown c).engine.seen = s.engine.seen := by
  unfold State.restShown
  dsimp only
  split
  · rfl
  all_goals exact State.enterClaiming_seen _ _

theorem State.countRest_seen (c : Check) (x : SampleSet) : (s.countRest c x).engine.seen = s.engine.seen := by
  unfold State.countRest
  dsimp only
  generalize (if x.atRest s.config.nominalVoltage then s.engine.restCount + 1 else 0) = n
  split
  · exact s.restShown_seen c
  · rfl

theorem State.quietSet_seen (c : Check) (x : SampleSet) : (s.quietSet c x).engine.seen = s.engine.seen := by
  unfold State.quietSet
  split
  · rfl
  · split
    · exact State.countRest_seen _ _ _
    · rfl
  · exact s.countRest_seen c x

theorem State.planEnd_seen (d : Determined) : (s.planEnd d).engine.seen = s.engine.seen := by
  unfold State.planEnd
  split
  · exact s.settle_seen d
  · rfl

theorem State.rampDwellEnd_seen (p : Params) (r : Ramp) : (s.rampDwellEnd p r).engine.seen = s.engine.seen := by
  unfold State.rampDwellEnd
  dsimp only
  split
  · exact State.writeSetpoint_seen _ _
  · exact State.planEnd_seen _ _

theorem State.preloadDwellEnd_seen (p : TimeParams) : (s.preloadDwellEnd p).engine.seen = s.engine.seen :=
  State.writeSetpoint_seen _ _

theorem State.countDwell_seen (length : Nat) {atEnd : State → State}
    (ends : (atEnd s.dwellCounted).engine.seen = s.dwellCounted.engine.seen) :
    (s.countDwell length atEnd).engine.seen = s.engine.seen := by
  obtain ⟨_, he⟩ | ⟨_, _, he⟩ | ⟨_, _, he⟩ := s.countDwell_cases length atEnd <;> rw [he]
  · rfl
  · exact ends

theorem State.dwellSet_seen (p : Params) : (s.dwellSet p).engine.seen = s.engine.seen := by
  unfold State.dwellSet
  split
  case h_1 | h_2 => exact s.countDwell_seen _ (State.rampDwellEnd_seen _ _ _)
  case h_3 => exact s.countDwell_seen _ (State.preloadDwellEnd_seen _ _)
  case h_4 => split <;> rfl
  case h_5 => rfl

theorem State.runBroken_seen (p : Params) : (s.runBroken p).engine.seen = s.engine.seen := by
  unfold State.runBroken
  dsimp only
  split
  · exact State.settle_seen _ _
  · exact State.dwellSet_seen _ _

theorem State.collapseSet_seen (p : Params) (tail : TripTail) (before : Nat) (x : SampleSet) :
    (s.collapseSet p tail before x).engine.seen = s.engine.seen := by
  unfold State.collapseSet
  dsimp only
  split
  · split
    · exact s.settle_seen _
    · exact State.dwellSet_seen _ _
  · exact s.runBroken_seen p

theorem State.raisePower_seen (x : SampleSet) : (s.raisePower x).engine.seen = s.engine.seen := by
  unfold State.raisePower
  split <;> rfl

theorem State.foldSet_seen (p : DerateParams) (x : SampleSet) : (s.foldSet p x).engine.seen = s.engine.seen := by
  have raised := s.raisePower_seen x
  unfold State.foldSet
  dsimp only
  split
  · split
    · exact (State.settle_seen _ _).trans raised
    · exact (State.dwellSet_seen _ _).trans raised
  · exact (State.runBroken_seen _ _).trans raised

theorem State.loadingSet_seen (c : Check) (before : Nat) (x : SampleSet) :
    (s.loadingSet c before x).engine.seen = s.engine.seen := by
  unfold State.loadingSet
  dsimp only
  split
  · exact State.collapseSet_seen _ _ _ _ _
  · exact State.collapseSet_seen _ _ _ _ _
  · exact State.foldSet_seen _ _ _

end

/-! ### The end of a check leads to no RAMP (R137, R140) -/

theorem State.reportIdle_noRamp (h : s.engine.phase ≠ .ramp) : s.reportIdle.engine.phase ≠ .ramp := by
  unfold State.reportIdle State.examineStart
  dsimp only
  split
  · split
    · simpa using h
    case h_2 n head work _ =>
      obtain phase | phase := State.handOver_phase (s.completeReset.setSlotTable
        { s.completeReset.slotTable.put n (.active head work) with
          queue := dequeueSlot n s.completeReset.slotTable.queue }) n head work <;> rw [phase] <;> decide
  · simpa using h

theorem State.finishCheck_noRamp (s : State) (carry : Bool) : (s.finishCheck carry).engine.phase ≠ .ramp :=
  State.reportIdle_noRamp (by simp [Engine.reset])

theorem State.soakSet_seen {p : DerateParams} (ramp : (s.soakSet c p x).engine.phase = .ramp) :
    (s.soakSet c p x).engine.seen = s.engine.seen := by
  unfold State.soakSet at ramp ⊢
  dsimp only at ramp ⊢
  split
  case isTrue lost => rw [if_pos lost] at ramp; exact absurd ramp (State.finishCheck_noRamp _ _)
  case isFalse =>
    split
    · exact State.enterClaiming_seen _ _
    · rfl

/-- A set takes the engine to RAMP, or leaves it there, with the set seen (R125). -/
theorem State.engineSet_seen (check : s.engine.check = some c) (ramp : (s.engineSet x).engine.phase = .ramp) :
    (s.engineSet x).engine.seen = (s.engine.takeIn x).seen := by
  unfold State.engineSet at ramp ⊢
  simp only [check] at ramp ⊢
  split at ramp
  case h_1 => exact State.quietSet_seen _ _ _
  case h_2 | h_3 => exact State.soakSet_seen ramp
  case h_4 | h_5 | h_6 | h_7 => exact State.loadingSet_seen _ _ _ _
  case h_8 => rfl
  case h_9 =>
    split at ramp
    · exact absurd ramp (State.finishCheck_noRamp _ _)
    case isFalse kept => rw [if_neg kept]; rfl
  case h_10 => rfl

/-! ### The guard unit's part in a set: aborts alone (R138, R181) -/

/-- The engine is as it was, or idle or aborting, and has its check or none. -/
structure State.onlyAborts (s t : State) : Prop where
  engine : t.engine = s.engine ∨ t.engine.phase = .idle ∨ t.engine.phase = .aborting
  check : t.engine.check = s.engine.check ∨ t.engine.check = none

namespace State.onlyAborts

theorem of_same (engine : t.engine = s.engine) : s.onlyAborts t := ⟨.inl engine, .inl (congrArg Engine.check engine)⟩

theorem idle (phase : t.engine.phase = .idle) (check : t.engine.check = s.engine.check ∨ t.engine.check = none) :
    s.onlyAborts t := ⟨.inr (.inl phase), check⟩

theorem aborting (phase : t.engine.phase = .aborting)
    (check : t.engine.check = s.engine.check ∨ t.engine.check = none) : s.onlyAborts t := ⟨.inr (.inr phase), check⟩

theorem trans (h : s.onlyAborts t) (h' : t.onlyAborts u) : s.onlyAborts u := by
  constructor
  · obtain same | ended := h'.engine
    · rw [same]; exact h.engine
    · exact .inr ended
  · obtain same | none := h'.check
    · rw [same]; exact h.check
    · exact .inr none

end State.onlyAborts

/-- While a fault is latched the end of a check leaves the engine without one (R75, R137). -/
theorem State.finishCheck_ends (carry : Bool) (latched : s.guardUnit.latch.isSome = true) :
    (s.finishCheck carry).engine.phase = .idle ∧ (s.finishCheck carry).engine.check = none := by
  refine ⟨(State.finishCheck_latched carry latched).2, ?_⟩
  unfold State.finishCheck State.reportIdle
  dsimp only
  rw [State.startable_of_latched (by simpa using latched)]
  simp only [State.dropCarry]
  simp
  split <;> simp [Engine.reset]

theorem State.finishAbort_ends (mismatched : Bool) (latched : s.guardUnit.latch.isSome = true) :
    (s.finishAbort mismatched).engine.phase = .idle ∧ (s.finishAbort mismatched).engine.check = none := by
  unfold State.finishAbort
  dsimp only
  refine State.finishCheck_ends _ ?_
  (repeat' split) <;> simpa using latched

theorem State.dropCarry_check (s : State) : s.dropCarry.engine.check = s.engine.check := by
  unfold State.dropCarry
  split <;> simp

/-- An abort ordered for a fault that is latched. -/
theorem State.orderAbort_onlyAborts (cause : Cause) (latched : s.guardUnit.latch.isSome = true) :
    s.onlyAborts (s.orderAbort cause) := by
  have ended (t : State) (mismatched : Bool) (h : t.guardUnit.latch.isSome = true) :
      s.onlyAborts (t.finishAbort mismatched) :=
    .idle (State.finishAbort_ends mismatched h).1 (.inr (State.finishAbort_ends mismatched h).2)
  have stays : s.onlyAborts s := .of_same rfl
  have begins (noResult : Bool) : s.onlyAborts (s.beginAbort (some cause) noResult) := by
    unfold State.beginAbort
    dsimp only
    split
    · exact ended _ _ (by simpa using latched)
    · exact .aborting rfl (.inl (s.engine.leaveClaiming_parts s.time).2)
  unfold State.orderAbort
  split
  case h_1 idle =>
    split
    · exact .idle (s.dropCarry_phase.trans idle) (.inl (State.dropCarry_check s))
    · exact stays
  case h_9 | h_10 => split; exacts [stays, begins _]
  case h_11 => exact stays
  case h_12 aborting =>
    unfold State.secondCause
    dsimp only
    (repeat' split)
    case isTrue.isTrue => exact ended _ _ latched
    all_goals exact .aborting aborting (.inl rfl)
  all_goals exact begins _

theorem State.latchFault_onlyAborts (s : State) (cause : Cause) : s.onlyAborts (s.latchFault cause) := by
  unfold State.latchFault
  split
  · refine State.onlyAborts.trans ?_ (State.orderAbort_onlyAborts cause (by simp))
    exact .of_same (by simp)
  case h_2 latched =>
    refine State.onlyAborts.trans ?_ (State.orderAbort_onlyAborts cause (by simp [latched]))
    exact .of_same rfl

theorem State.latchFaults_onlyAborts (s : State) (causes : List Cause) :
    s.onlyAborts (causes.foldl State.latchFault s) := by
  induction causes generalizing s with
  | nil => exact .of_same rfl
  | cons cause rest ih => exact (s.latchFault_onlyAborts cause).trans (ih _)

theorem State.guardSet_onlyAborts (s : State) (x : SampleSet) : s.onlyAborts (s.guardSet x) := by
  unfold State.guardSet
  split
  · exact .of_same rfl
  · split
    · dsimp only
      refine State.onlyAborts.trans ?_ (State.latchFaults_onlyAborts _ _)
      exact .of_same rfl
    · exact .of_same rfl

/-! ### The confirmed-open flag behind the port (R121) -/

theorem State.drives.confirmed (h : s.drives t) : t.port.confirmedOpen = s.port.confirmedOpen := by
  induction h with
  | refl => rfl
  | other _ stands ih => exact stands.confirmed.trans ih
  | setpoint _ _ _ ih | settled _ _ ih | drop _ _ ih | opening _ ih | fault _ _ ih => exact (by simpa using ih)

/-- A close ends the confirmation; nothing else moves it. -/
theorem State.serves.confirmed (h : s.serves knows t) :
    t.port.confirmedOpen = s.port.confirmedOpen ∨ t.port.confirmedOpen = false := by
  cases h with
  | drives h => exact .inl h.confirmed
  | closes before free unloaded after calm => exact .inr after.confirmed

/-! ### A set offered -/

/-- With no check the engine takes no set. -/
theorem State.engineSet_unchecked (check : s.engine.check = none) (x : SampleSet) : s.engineSet x = s := by
  unfold State.engineSet
  rw [check]

/-- With no check the guard unit alone can do something about the contactor, and it only opens it. -/
theorem State.offerSet_unchecked (check : s.engine.check = none) (x : SampleSet) (order : SetOrder) :
    (s.offerSet x order).port.confirmedOpen = s.port.confirmedOpen := by
  have guarded := (s.guardSet_quietly x).1.confirmed
  cases order with
  | guardFirst =>
    have unchecked : (s.guardSet x).engine.check = none := by
      obtain same | none := (s.guardSet_onlyAborts x).check
      exacts [same.trans check, none]
    simpa [State.offerSet, State.engineSet_unchecked unchecked] using guarded
  | engineFirst => simpa [State.offerSet, State.engineSet_unchecked check] using guarded

/-- A set that the guard unit aborts for leads to no RAMP: in IDLE and ABORTING the engine does nothing with it. -/
theorem State.engineSet_noRamp (h : s.engine.phase = .idle ∨ s.engine.phase = .aborting) (x : SampleSet) :
    (s.engineSet x).engine.phase ≠ .ramp := by
  unfold State.engineSet
  obtain phase | phase := h
  all_goals
    split
    · simp [phase]
    · simp [Engine.takeIn, phase]

/-- In RAMP the engine has seen the set, in whichever order the blocks took it (R125, R146, log 11). -/
theorem State.offerSet_seen (check : s.engine.check = some c) {order : SetOrder}
    (ramp : (s.offerSet x order).engine.phase = .ramp) :
    (s.offerSet x order).engine.seen = (s.engine.takeIn x).seen := by
  cases order with
  | guardFirst =>
    simp only [State.offerSet, State.headroomSet_frame] at ramp ⊢
    obtain same | ended := (s.guardSet_onlyAborts x).engine
    · rw [State.engineSet_seen (same ▸ check) ramp, same]
    · exact absurd ramp (State.engineSet_noRamp ended x)
  | engineFirst =>
    simp only [State.offerSet, State.headroomSet_frame] at ramp ⊢
    obtain same | ended | ended := ((s.engineSet x).guardSet_onlyAborts x).engine
    · rw [same] at ramp ⊢
      exact State.engineSet_seen check ramp
    all_goals rw [ended] at ramp; cases ramp

/-! ### SAMPLE_SET_ARRIVAL (R108, R109, R121) -/

/-- The part with the set taken in, and a contactor newly confirmed open reported (log 37). -/
def State.setReported (s : State) (x : SampleSet) : State :=
  if (s.takeSet x).port.confirmedOpen && !s.port.confirmedOpen then (s.takeSet x).portReport else s.takeSet x

theorem State.setReported_frame (s : State) (x : SampleSet) :
    (s.setReported x).port = (s.takeSet x).port ∧ (s.setReported x).engine = s.engine := by
  unfold State.setReported
  split <;> simp

theorem execSampleSetArrival_reads (reading : s.port.path = .reading) {r : ReportedSet} (fits : r.voltage ≤ 65535)
    (order : SetOrder) :
    exec (.sampleSetArrival r order) s = .next ((s.setReported r.taken).offerSet r.taken order) := by
  change execSampleSetArrival r order s = _
  simp only [execSampleSetArrival, reading, ReportedSet.fits, Config.voltageTop, fits]
  rfl

/-- Settles O51: the set is taken in by one equation, the blocks' frames leave what the port keeps of it, and the walk
over the engine's loading operations shows what it has seen. -/
theorem sampleSetTaken : Obligations.SampleSetTaken := by
  intro s r order reading fits x confirmed taken u
  have isTaken : s.takeSet r.taken = taken := rfl
  have isReported : s.setReported r.taken = u := by
    unfold State.setReported
    rw [isTaken]
    exact if_congr (by simp [taken]) rfl rfl
  obtain ⟨port, engine⟩ := s.setReported_frame r.taken
  rw [isReported, isTaken] at port
  rw [isReported] at engine
  have confirms : u.port.confirmedOpen = confirmed := by rw [port]
  refine ⟨u.offerSet x order, isReported ▸ execSampleSetArrival_reads reading fits order, by cases order <;> rfl, ?_, ?_,
    ?_, ?_, ?_, ?_, ?_, fun builds => ?_, fun good => ?_, fun check dark => ?_, fun check checked _ ramp => ?_⟩
  case refine_8 => simp [port, taken, builds]
  case refine_9 =>
    have none : u.port.confirmedOpen = false := by simp [confirms, confirmed, good]
    obtain same | ended := (State.offerSet_serves (knows := True) u x order).confirmed
    exacts [same.trans none, ended]
  case refine_10 =>
    rw [State.offerSet_unchecked ((congrArg Engine.check engine).trans check), confirms]
    simp [confirmed, dark]
  case refine_11 =>
    have seen := State.offerSet_seen ((congrArg Engine.check engine).trans checked) ramp
    rw [engine] at seen
    simpa [Engine.seen, Engine.takeIn] using seen
  all_goals simp [port, taken]

end Sys2Proof.Machine
end

section
/-!
PROOF. The faults of the port: how each reaches the latch, the abort it orders by phase, and what it is in ABORTING
(R111, R119, R122, R138, R139, R141, R182, R183).
-/

namespace Sys2Proof.Machine

variable {s t u : State} {cause : Cause}

/-! ### The need withdrawn at the end of an abort (R54, R139) -/

theorem State.tryLower_need (s : State) : s.tryLower.headroom.need = s.headroom.need := by
  unfold State.tryLower
  split
  · split
    · dsimp only
      split
      · simp
      · rfl
    · split
      · simp
      · rfl
  · rfl

theorem State.lowerToZero_need (s : State) : s.lowerToZero.headroom.need = s.headroom.need :=
  State.tryLower_need _

theorem State.withdrawNeed_need (s : State) : s.withdrawNeed.headroom.need = none := by
  unfold State.withdrawNeed
  split
  case isTrue none => exact Option.isNone_iff_eq_none.mp none
  case isFalse =>
    dsimp only
    split
    case h_1 | h_3 => split; exacts [rfl, State.lowerToZero_need _]
    case h_2 => split; exacts [by simp, (State.lowerToZero_need _).trans (by simp)]
    case h_4 => exact State.lowerToZero_need _
    case h_5 | h_6 => rfl

/-! ### The end of an abort while a fault is latched (R75, R139, R140) -/

theorem State.finishCheck_leaves (latched : s.guardUnit.latch.isSome = true) :
    (s.finishCheck false).port.pending = s.port.pending ∧ (s.finishCheck false).headroom = s.headroom := by
  unfold State.finishCheck State.reportIdle
  dsimp only
  rw [State.startable_of_latched (by simpa using latched)]
  simp [State.dropCarry]

/-- With the fault latched nothing starts: the engine is idle, its need withdrawn, and the path as it was. -/
theorem State.finishAbort_withdraws (mismatched : Bool) (latched : s.guardUnit.latch.isSome = true) :
    (s.finishAbort mismatched).port.pending = s.port.pending ∧ (s.finishAbort mismatched).headroom.need = none := by
  have opened : (if s.engine.abortOpens mismatched = true then s.requestOpen else s).port.pending = s.port.pending ∧
      (if s.engine.abortOpens mismatched = true then s.requestOpen else s).guardUnit.latch = s.guardUnit.latch := by
    split <;> simp
  unfold State.finishAbort
  generalize (if s.engine.abortOpens mismatched = true then s.requestOpen else s) = v at opened ⊢
  obtain ⟨pending, latch⟩ := opened
  dsimp only
  split
  · obtain ⟨path, headroom⟩ := State.finishCheck_leaves (s := v.withdrawNeed.vacateActive) (by simp [latch, latched])
    exact ⟨by simp [path, pending], by rw [headroom]; simp [State.withdrawNeed_need]⟩
  · obtain ⟨path, headroom⟩ := State.finishCheck_leaves
      (s := v.withdrawNeed.handBack (v.engine.resultRecord v.time)) (by simp [latch, latched])
    exact ⟨by simp [path, pending], by rw [headroom]; simp [State.withdrawNeed_need]⟩

/-- The contactor step of an abort holds while a fault is latched (R139). -/
theorem State.finishAbort_opens {mismatched : Bool} (latched : s.guardUnit.latch.isSome = true)
    (opens : s.engine.abortOpens mismatched = true) : (s.finishAbort mismatched).port.standing = .opened := by
  unfold State.finishAbort
  rw [if_pos opens]
  dsimp only
  split
  all_goals
    rw [(State.finishCheck_latched false (by simpa using latched)).1]
    simp [State.requestOpen, State.openContactor]

/-! ### A fault orders an abort (R138, R183) -/

/-- The part with the fault latched or counted, before the abort is ordered. -/
def State.faulted (s : State) (cause : Cause) : State :=
  match s.guardUnit.latch with
  | none => (s.setGuardUnit { s.guardUnit with latch := some cause, further := 0 }).setHold
  | some _ => s.setGuardUnit { s.guardUnit with further := countUp s.guardUnit.further 1 }

theorem State.latchFault_orders (s : State) (cause : Cause) : s.latchFault cause = (s.faulted cause).orderAbort cause := by
  unfold State.latchFault State.faulted
  cases s.guardUnit.latch <;> rfl

theorem State.faulted_frame (s : State) (cause : Cause) :
    (s.faulted cause).guardUnit.latch.isSome = true ∧ (s.faulted cause).engine = s.engine ∧
    (s.faulted cause).slotTable = s.slotTable := by
  unfold State.faulted
  split
  · simp
  case h_2 latched => simp [latched]

/-- A fault other than LOAD_STAGE_SILENT leaves a check in a loading phase ABORTING, with its drop written (R138). -/
theorem State.latchFault_aborts (abortable : s.engine.phase.abortable = true) (waits : cause ≠ .loadStageSilent) :
    (s.latchFault cause).engine.phase = .aborting ∧ (s.latchFault cause).engine.cause = some cause ∧
    (s.latchFault cause).port.dropInPath := by
  obtain ⟨_, engine, _⟩ := s.faulted_frame cause
  rw [State.latchFault_orders]
  obtain ⟨whole, phase, first, _⟩ := (s.faulted cause).orderAbort_abortable cause (by rwa [engine]) waits
  refine ⟨phase, first, ?_⟩
  rw [whole]
  exact Port.writeDrop_dropInPath _

theorem State.orderAbort_silent (abortable : s.engine.phase.abortable = true) :
    s.orderAbort .loadStageSilent = (s.enterAbort (some .loadStageSilent) false).finishAbort false := by
  unfold State.orderAbort
  cases phase : s.engine.phase <;> simp [phase, Phase.abortable] at abortable ⊢ <;> rfl

/-- LOAD_STAGE_SILENT ends a check in a loading phase at once, its drop written and its result handed back (R138 to
R140). -/
theorem State.latchFault_silent (abortable : s.engine.phase.abortable = true) :
    let t := s.latchFault .loadStageSilent
    t.engine.phase = .idle ∧ t.port.dropInPath ∧ t.headroom.need = none ∧
    ∀ check ∈ s.engine.check, ∀ head work, s.slotTable.slot check.slot = .active head work →
      ∃ r, t.slotTable.slot check.slot = .done head work r none ∧ r.cause = .loadStageSilent := by
  intro t
  obtain ⟨latched, engine, slots⟩ := s.faulted_frame .loadStageSilent
  have ended : t = ((s.faulted .loadStageSilent).enterAbort (some .loadStageSilent) false).finishAbort false :=
    (s.latchFault_orders _).trans (State.orderAbort_silent (by rwa [engine]))
  generalize aborts : (s.faulted .loadStageSilent).enterAbort (some .loadStageSilent) false = v at ended
  have drop : v.port.dropInPath := by rw [← aborts]; exact Port.writeDrop_dropInPath _
  have latch : v.guardUnit.latch.isSome = true := by rw [← aborts]; simpa using latched
  obtain ⟨pending, need⟩ := State.finishAbort_withdraws false latch
  rw [ended]
  refine ⟨(State.finishAbort_ends false latch).1, by simpa [Port.dropInPath, pending] using drop, need, ?_⟩
  intro check checked head work active
  have checks : v.engine.check = some check := by
    rw [← aborts]
    exact ((s.faulted .loadStageSilent).engine.leaveClaiming_parts _).2.trans (by rw [engine]; exact checked)
  refine ⟨_, State.finishAbort_done false (by rw [← aborts]; rfl) checks ?_, by rw [← aborts]; rfl⟩
  rw [← aborts]
  simpa [slots] using active

/-! ### A second cause (R141) -/

/-- What a second cause that opens the contactor makes of the engine, save that it was taken by the engine itself. -/
def Engine.secondCause (e : Engine) (cause : Cause) : Engine :=
  if e.selfCause = some cause then { e with selfCause := none } else { e with furtherFault := true, mustOpen := true }

theorem State.latchFault_aborting (aborting : s.engine.phase = .aborting) (cause : Cause) :
    s.latchFault cause = (s.faulted cause).secondCause cause := by
  obtain ⟨_, engine, _⟩ := s.faulted_frame cause
  rw [State.latchFault_orders]
  unfold State.orderAbort
  rw [engine, aborting]

theorem State.latchFault_second (aborting : s.engine.phase = .aborting) (latching : cause.latching = true)
    (opens : cause.opens = true) (waits : s.engine.selfCause ≠ some cause → cause ≠ .loadStageSilent) :
    (s.latchFault cause).engine = s.engine.secondCause cause := by
  have loud : cause ≠ .stationSilenced := by rintro rfl; cases latching
  obtain ⟨_, engine, _⟩ := s.faulted_frame cause
  rw [State.latchFault_aborting aborting, State.secondCause, engine, Engine.secondCause]
  by_cases own : s.engine.selfCause = some cause
  · simp [own, loud]
  · simp [own, loud, latching, opens, waits own]

/-- LOAD_STAGE_SILENT as a second cause ends the wait, with the first cause kept and the contactor opened (R139, R141). -/
theorem State.latchFault_silentSecond (aborting : s.engine.phase = .aborting)
    (notOwn : s.engine.selfCause ≠ some .loadStageSilent) :
    let t := s.latchFault .loadStageSilent
    t.engine.phase = .idle ∧ t.port.standing = .opened ∧
    (s.engine.noResult = false → ∀ check ∈ s.engine.check, ∀ head work,
      s.slotTable.slot check.slot = .active head work →
      ∃ r, t.slotTable.slot check.slot = .done head work r none ∧ r.cause = s.engine.cause.getD .none ∧
        r.furtherFault = true) := by
  intro t
  obtain ⟨latched, engine, slots⟩ := s.faulted_frame .loadStageSilent
  have ended : t = ((s.faulted .loadStageSilent).setEngine
      { s.engine with furtherFault := true, mustOpen := true }).finishAbort false := by
    refine (State.latchFault_aborting aborting _).trans ?_
    rw [State.secondCause, engine]
    simp [notOwn, Cause.latching, Cause.opens]
  have latch : ((s.faulted .loadStageSilent).setEngine
      { s.engine with furtherFault := true, mustOpen := true }).guardUnit.latch.isSome = true := latched
  rw [ended]
  refine ⟨(State.finishAbort_ends false latch).1, State.finishAbort_opens latch (by simp [Engine.abortOpens]), ?_⟩
  intro result check checked head work active
  exact ⟨_, State.finishAbort_done false result checked (by simpa [slots] using active), rfl, rfl⟩

/-! ### The commands (R111, R119, R122, R182) -/

theorem execSampleWatchdogExpiry_due (builds : s.station.builds = true) (expired : due s.time s.port.watchdog = true) :
    exec .sampleWatchdogExpiry s =
      .next ((s.setPort { s.port with watchdog := none, samplesPresent := false }).latchFault .samplesLost) := by
  change execSampleWatchdogExpiry s = _
  simp [execSampleWatchdogExpiry, builds, expired]

theorem execAcknowledgementTimerExpiry_due {o : OnPort} (on : s.port.onPort = some o)
    (expired : due s.time s.port.ackTimer = true) :
    exec .acknowledgementTimerExpiry s = .next ((s.setPort { s.port with
      ackTimer := none, onPort := some { o with unanswered := true } }).latchFault .loadStageSilent) := by
  change execAcknowledgementTimerExpiry s = _
  simp [execAcknowledgementTimerExpiry, on, expired]

theorem execEmergencyStopChange_asserted (clear : s.port.estop = false) :
    exec (.emergencyStopChange true) s = .next ((s.setPort { s.port with estop := true }).latchFault .estop) := by
  change execEmergencyStopChange true s = _
  simp [execEmergencyStopChange, clear]

theorem execEmergencyStopChange_released (asserted : s.port.estop = true) :
    exec (.emergencyStopChange false) s = .next { s with port := { s.port with estop := false } } := by
  change execEmergencyStopChange false s = _
  simp [execEmergencyStopChange, asserted]
  rfl

/-- Settles O41: each command changes its own part of the port and latches its fault, whose abort order is followed by
phase. -/
theorem portFaultsLatch : Obligations.PortFaultsLatch := by
  intro s aborted
  refine ⟨fun builds i runs now => ?_, fun o on i runs now => ?_, fun clear => ?_, execEmergencyStopChange_released,
    fun aborting => ⟨fun builds i runs now => ?_, fun clear => ?_, fun o on i runs now => ?_⟩⟩
  case refine_1 =>
    refine ⟨_, execSampleWatchdogExpiry_due builds (due_of_reached runs now), ?_, ?_, by simp, by simp⟩
    · exact State.latchedFrom_of_same (State.latchFault_latchedFrom _ _) rfl rfl
    · exact fun abortable => State.latchFault_aborts abortable (by decide)
  case refine_2 =>
    refine ⟨_, execAcknowledgementTimerExpiry_due on (due_of_reached runs now), ?_, by simp, by simp, ?_⟩
    · exact State.latchedFrom_of_same (State.latchFault_latchedFrom _ _) rfl rfl
    · exact fun abortable => State.latchFault_silent abortable
  case refine_3 =>
    refine ⟨_, execEmergencyStopChange_asserted clear, ?_, ?_, by simp⟩
    · exact State.latchedFrom_of_same (State.latchFault_latchedFrom _ _) rfl rfl
    · exact fun abortable => State.latchFault_aborts abortable (by decide)
  case refine_4 =>
    exact ⟨_, execSampleWatchdogExpiry_due builds (due_of_reached runs now),
      State.latchFault_second aborting rfl rfl fun _ => by decide⟩
  case refine_5 =>
    exact ⟨_, execEmergencyStopChange_asserted clear, State.latchFault_second aborting rfl rfl fun _ => by decide⟩
  case refine_6 =>
    exact ⟨_, execAcknowledgementTimerExpiry_due on (due_of_reached runs now),
      fun own => State.latchFault_second aborting rfl rfl fun notOwn => absurd own notOwn,
      fun notOwn => State.latchFault_silentSecond aborting notOwn⟩

end Sys2Proof.Machine
end

section
/-!
PROOF. The timers that a check goes on after (R134, R136, R156): shed hold, time-out and off-time, each by its command's
one branch, and what the end of the plan makes of a run (R148, R156, R173).
-/

namespace Sys2Proof.Machine

variable {s : State} {c : Check}

/-! ### A setpoint of the engine, and a verdict (R114, R132, R135) -/

/-- The part once the engine has written a setpoint: it awaits the answer, and the port holds the setpoint (R114). -/
theorem State.writeSetpoint_eq (s : State) (v : Nat) :
    s.writeSetpoint v = { s with
      engine := { s.engine with awaiting := true }
      port := if s.station = .offLine then s.port else s.port.writeSetpoint v } := by
  unfold State.writeSetpoint
  by_cases h : s.station = .offLine
  · rw [if_pos (beq_iff_eq.mpr h), if_pos h]; rfl
  · rw [if_neg (mt beq_iff_eq.mp h), if_neg h]; rfl

/-- The part once a verdict is determined: SETTLE with a zero written (R132, R135). -/
theorem State.settle_eq (s : State) (d : Determined) :
    s.settle d = { s with
      engine := (s.settle d).engine
      port := if s.station = .offLine then s.port else s.port.writeSetpoint 0 } :=
  State.writeSetpoint_eq _ 0

theorem State.planEnd_quiet (noRun : s.engine.runCount = 0) (d : Determined) : s.planEnd d = s.settle d := by
  simp [State.planEnd, noRun]

theorem State.planEnd_running (runs : 0 < s.engine.runCount) (d : Determined) :
    s.planEnd d = s.setEngine { s.engine with finalHold := true } := by
  simp [State.planEnd, runs.ne']

/-! ### The commands -/

theorem execShedHoldTimerExpiry_due (frozen : s.engine.phase = .frozen)
    (expired : due s.time s.engine.shedHold = true) :
    exec .shedHoldTimerExpiry s = .next (s.setEngine (s.engine.resume s.time)) := by
  change execShedHoldTimerExpiry s = _
  simp [execShedHoldTimerExpiry, frozen, expired]

/-- The engine with its time-out stopped. -/
def State.timedOut (s : State) : State :=
  s.setEngine { s.engine with trip := { s.engine.trip with timeOut := none } }

theorem execTimeOutTimerExpiry_due (steps : s.engine.phase = .step)
    (expired : due s.time s.engine.trip.timeOut = true) :
    exec .timeOutTimerExpiry s = .next (s.timedOut.planEnd { verdict := .noTrip, measured := 0 }) := by
  change execTimeOutTimerExpiry s = _
  simp [execTimeOutTimerExpiry, steps, expired, State.timedOut]

theorem execOffTimeTimerExpiry_due (check : s.engine.check = some c) (recovers : s.engine.phase = .recover)
    (expired : due s.time s.engine.offTime = true) :
    exec .offTimeTimerExpiry s = .next ((s.setEngine { s.engine with offTime := none }).offTimeOver c) := by
  change execOffTimeTimerExpiry s = _
  simp [execOffTimeTimerExpiry, check, recovers, expired]

/-- With no hold the contactor closes, and the recover wait of the kind runs (R136). -/
theorem State.offTimeOver_closes (free : s.port.hold = false) (c : Check) :
    s.offTimeOver c =
      (s.setEngine { s.engine with recoverWait := some (later s.time c.params.recoverUnits) }).closeContactor := by
  simp [State.offTimeOver, State.closeRefused, free]

/-- Settles O57: each timer's command by its one branch; the time-out by whether a run is in progress. That the step
instant leaves the record at every return to PRELOAD is the model's choice: a run in progress keeps it in its origin
(log 17). -/
theorem engineTimersGoOn : Obligations.EngineTimersGoOn := by
  intro s
  refine ⟨fun frozen i runs now => ⟨fun ramp => ?_, fun other => ?_⟩,
    fun steps i runs now => ⟨fun noRun => ?_, fun run => ?_⟩, fun recovers c check i runs now free => ?_⟩
  · rw [execShedHoldTimerExpiry_due frozen (due_of_reached runs now), Engine.resume, if_pos (beq_iff_eq.mpr ramp)]
    rfl
  · rw [execShedHoldTimerExpiry_due frozen (due_of_reached runs now), Engine.resume, if_neg (mt beq_iff_eq.mp other)]
    rfl
  · rw [execTimeOutTimerExpiry_due steps (due_of_reached runs now), State.planEnd_quiet (s := s.timedOut) noRun]
    exact ⟨_, congrArg _ (State.settle_eq _ _), rfl, rfl, rfl, rfl⟩
  · rw [execTimeOutTimerExpiry_due steps (due_of_reached runs now), State.planEnd_running (s := s.timedOut) run]
    rfl
  · rw [execOffTimeTimerExpiry_due check recovers (due_of_reached runs now),
      State.offTimeOver_closes (s := s.setEngine { s.engine with offTime := none }) free]
    cases params : c.params <;> rfl

end Sys2Proof.Machine
end

section
/-!
PROOF. What a grant begins in CLAIMING, by the kind of the check (R129, R131, R137, R147, R152, R168 to R170).
-/

namespace Sys2Proof.Machine

variable {s : State} {c : Check}

/-- The block that lets RAMP begin: the latest one, good, and completed after the first good one (R168). -/
theorem DerateRecord.fitBlock_eq_some_iff (d : DerateRecord) (b : SoakBlock) :
    d.fitBlock = some b ↔ d.latest = some b ∧ b.good = true ∧ ∃ first ∈ d.firstGood, first < b.number := by
  unfold DerateRecord.fitBlock
  cases latest : d.latest with
  | none => simp
  | some last =>
    cases first : d.firstGood with
    | none => simp
    | some n =>
      simp only [Option.ite_none_right_eq_some, Bool.and_eq_true, decide_eq_true_eq, Option.some.injEq,
        Option.mem_def, exists_eq_left']
      constructor
      · rintro ⟨fits, rfl⟩
        exact ⟨rfl, fits⟩
      · rintro ⟨rfl, fits⟩
        exact ⟨fits, rfl⟩

theorem Engine.leaveClaiming_claiming {e : Engine} (claiming : e.phase = .claiming) (now : Word) :
    e.leaveClaiming now = { e with headroomWait := e.headroomWait + (now - e.claimingSince).toNat } := by
  rw [Engine.leaveClaiming, if_pos (beq_iff_eq.mpr claiming)]
  rfl

/-- The part once a grant has ended the headroom wait, with the amount claimed and the carry-over (R129, R137). -/
def State.waitEnded (s : State) (amount : Nat) (carried : Bool) : State :=
  s.setEngine { s.engine with
    headroomWait := s.engine.headroomWait + (s.time - s.engine.claimingSince).toNat, claimAmount := amount
    carried := s.engine.carried || carried }

section

variable (claiming : s.engine.phase = .claiming) (check : s.engine.check = some c) (atOnce : Bool)
include claiming check

theorem State.granted_tripRamp {p : RampParams} (params : c.params = .tripRamp p) :
    s.granted atOnce = (s.waitEnded c.need atOnce).beginRamp p.ramp := by
  simp [State.granted, claiming, check, params, Engine.leaveClaiming_claiming, Params.isTrip, State.waitEnded]

theorem State.granted_tripTime {p : TimeParams} (params : c.params = .tripTime p) :
    s.granted atOnce = (s.waitEnded c.need atOnce).beginPreload p := by
  simp [State.granted, claiming, check, params, Engine.leaveClaiming_claiming, Params.isTrip, State.waitEnded]

/-- With a fit block RAMP begins, T_used and the band fixed from that block (R168 to R170). -/
theorem State.granted_fit {p : DerateParams} (params : c.params = .derate p) {b : SoakBlock}
    (fit : s.engine.derate.fitBlock = some b) :
    let w := s.waitEnded c.need false
    s.granted atOnce = (w.setEngine { w.engine with derate := s.engine.derate.begin p b }).beginRamp p.ramp := by
  simp [State.granted, claiming, check, params, Engine.leaveClaiming_claiming, Params.isTrip, State.waitEnded, fit]

/-- Without a fit block the check soaks on, its need withdrawn (R168). -/
theorem State.granted_unfit {p : DerateParams} (params : c.params = .derate p)
    (unfit : s.engine.derate.fitBlock = none) :
    let w := s.waitEnded c.need false
    s.granted atOnce = (w.setEngine { w.engine with phase := .soak }).withdrawNeed := by
  simp [State.granted, claiming, check, params, Engine.leaveClaiming_claiming, Params.isTrip, State.waitEnded, unfit]

end

/-- Settles O45: the grant by the kind of the check, and for DERATE by its fit block. -/
theorem grantBeginsLoading : Obligations.GrantBeginsLoading := by
  intro s c atOnce claiming check
  refine ⟨fun p ramp => ?_, fun p time => ?_, fun p derate => ⟨fun b fit => ?_, fun unfit => ?_⟩⟩
  · rw [State.granted_tripRamp claiming check atOnce ramp]
    exact State.writeSetpoint_eq _ _
  · rw [State.granted_tripTime claiming check atOnce time]
    exact State.writeSetpoint_eq _ _
  · rw [State.granted_fit claiming check atOnce derate ((DerateRecord.fitBlock_eq_some_iff _ b).mpr fit),
      State.waitEnded, Bool.or_false]
    exact State.writeSetpoint_eq _ _
  · have noFit : s.engine.derate.fitBlock = none :=
      Option.eq_none_iff_forall_not_mem.mpr fun b found => unfit ⟨b, (DerateRecord.fitBlock_eq_some_iff _ b).mp found⟩
    rw [State.granted_unfit claiming check atOnce derate noFit, State.waitEnded, Bool.or_false]
    rfl

end Sys2Proof.Machine
end

section
/-!
PROOF. One set in a loading phase or in FROZEN (R130, R132, R148 to R150, R156, R171 to R173): what the engine sees of
it, the run that it begins, continues, completes or breaks, and what the dwell makes of it. The three kinds differ in
the voltage and the length of a run, in its origin and in its verdict, and share the rest.
-/

namespace Sys2Proof.Machine

variable {s t u : State} {c : Check} {p : Params} {x : Word × SampleSet}

/-! ### What a set is examined for -/

/-- The voltage below which a set is collapsed or folded: V_col or V_fold (R149, R172). -/
def Params.runVoltage : Params → Nat
  | .tripRamp p => p.tail.collapseVoltage
  | .tripTime p => p.tail.collapseVoltage
  | .derate p => p.foldVoltage

/-- The sets of a run: C_col or C_fold (R149, R172). -/
def Params.runLength : Params → Nat
  | .tripRamp p => p.tail.collapseCount
  | .tripTime p => p.tail.collapseCount
  | .derate p => p.foldCount

/-- The phases in which a set is examined for a run (R149, R172). -/
def Phase.examines (phase : Phase) : Bool := phase.loads || phase == .frozen

/-- The power maximum after a set: DERATE takes it in while it ramps (R171). -/
def Params.powerAfter (p : Params) (phase : Phase) (greatest : Nat) (x : SampleSet) : Nat :=
  if p.isTrip = false ∧ phase = .ramp then max greatest x.power else greatest

/-- The part with a set seen at its stamp: currents, CLIPPED, the tripped flag and the power maximum (R125, R132, R146,
R171). -/
def State.seeing (u : State) (p : Params) (x : Word × SampleSet) : State :=
  { u with
    time := x.1
    engine := { u.engine with
      peakCurrent := max u.engine.peakCurrent x.2.current, clipped := u.engine.clipped || x.2.clipped
      tripped := u.engine.tripped || (!x.2.powerGood && u.port.commandedClosed)
      trip := { u.engine.trip with lastCurrent := x.2.current }
      derate := { u.engine.derate with
        powerMaximum := p.powerAfter u.engine.phase u.engine.derate.powerMaximum x.2 } } }

/-- The origin of the collapse run that a set of this stamp begins or continues (R149, R150). -/
def State.collapseOf (u : State) (x : Word × SampleSet) : CollapseOrigin :=
  u.engine.collapseOrigin u.engine.trip.lastCurrent x.1

/-- The origin of the fold run that a set begins or continues (R172). -/
def State.foldOf (u : State) (x : Word × SampleSet) : FoldOrigin := u.engine.foldOrigin x.2

/-- The part with a set seen and counted to a run (R149, R172). -/
def State.inRun (u : State) (p : Params) (x : Word × SampleSet) : State :=
  let v := u.seeing p x
  v.setEngine { v.engine with
    runCount := u.engine.runCount + 1
    trip := { v.engine.trip with origin := if p.isTrip then some (u.collapseOf x) else u.engine.trip.origin }
    derate := { v.engine.derate with origin := if p.isTrip then u.engine.derate.origin else some (u.foldOf x) } }

/-- The verdict of a run that a set completes (R151, R155, R174). -/
def State.runVerdict (u : State) (p : Params) (x : Word × SampleSet) : Determined :=
  if p.isTrip then (u.collapseOf x).verdict p else (u.foldOf x).verdict u.engine.derate.band

/-- The part with its run gone (R149, R172). -/
def State.runOver (u : State) : State :=
  u.setEngine { u.engine with
    runCount := 0, trip := { u.engine.trip with origin := none }, derate := { u.engine.derate with origin := none } }

theorem State.runBroken_steady (steady : s.engine.finalHold = false) (p : Params) :
    s.runBroken p = s.runOver.dwellSet p := by
  simp [State.runBroken, State.runOver, steady]

/-- In the final hold the run's end is the plan's (R148, R156, R173). -/
theorem State.runBroken_held (held : s.engine.finalHold = true) (p : Params) :
    s.runBroken p = s.runOver.settle (s.runOver.noRunVerdict p) := by
  simp [State.runBroken, State.runOver, held]

/-! ### One set, kind by kind -/

theorem Phase.examines_iff (phase : Phase) :
    phase.examines = true ↔ phase = .preload ∨ phase = .ramp ∨ phase = .step ∨ phase = .frozen := by
  cases phase <;> decide

/-- In these phases a set is taken in and examined (R125, R132). -/
theorem State.engineSet_examined (check : u.engine.check = some c) (examines : u.engine.phase.examines = true)
    (x : Word × SampleSet) :
    (u.setTime x.1).engineSet x.2 = (u.withTaken x).loadingSet c u.engine.trip.lastCurrent x.2 := by
  unfold State.engineSet
  obtain phase | phase | phase | phase := (Phase.examines_iff _).mp examines <;>
    simp [State.withTaken, check, Engine.takeIn, phase]

theorem State.seeing_trip (trip : p.isTrip = true) : (u.withTaken x).markTripped x.2 = u.seeing p x := by
  have kept : p.powerAfter u.engine.phase u.engine.derate.powerMaximum x.2 = _ := if_neg (by simp [trip])
  rw [State.seeing, kept]
  rfl

theorem State.seeing_derate (derate : p.isTrip = false) :
    ((u.withTaken x).markTripped x.2).raisePower x.2 = u.seeing p x := by
  by_cases ramp : u.engine.phase = .ramp
  · have raised : p.powerAfter u.engine.phase u.engine.derate.powerMaximum x.2 = _ := if_pos ⟨derate, ramp⟩
    rw [State.seeing, raised]
    exact if_pos (beq_iff_eq.mpr ramp)
  · have kept : p.powerAfter u.engine.phase u.engine.derate.powerMaximum x.2 = _ := if_neg fun both => ramp both.2
    rw [State.seeing, kept]
    exact if_neg (mt beq_iff_eq.mp ramp)

/-- A set below the run's voltage completes the run or counts to it, and every other breaks it (R149, R172). -/
theorem State.engineSet_run (check : u.engine.check = some c) (examines : u.engine.phase.examines = true)
    (x : Word × SampleSet) :
    (u.setTime x.1).engineSet x.2 =
      if x.2.voltage < c.params.runVoltage then
        if c.params.runLength ≤ u.engine.runCount + 1 then
          (u.seeing c.params x).settle (u.runVerdict c.params x)
        else (u.inRun c.params x).dwellSet c.params
      else (u.seeing c.params x).runBroken c.params := by
  rw [State.engineSet_examined check examines, State.loadingSet]
  cases c.params with
  | tripRamp q => dsimp only; rw [State.seeing_trip (p := .tripRamp q) rfl]; rfl
  | tripTime q => dsimp only; rw [State.seeing_trip (p := .tripTime q) rfl]; rfl
  | derate q => dsimp only; rw [State.foldSet, State.seeing_derate (p := .derate q) rfl]; rfl

/-- A set that continues a run without completing it goes on to the dwell (R149, R172). -/
theorem State.engineSet_inRun (check : u.engine.check = some c) (examines : u.engine.phase.examines = true)
    (low : x.2.voltage < c.params.runVoltage) (few : u.engine.runCount + 1 < c.params.runLength) :
    (u.setTime x.1).engineSet x.2 = (u.inRun c.params x).dwellSet c.params := by
  rw [State.engineSet_run check examines, if_pos low, if_neg few.not_ge]

/-- A set that completes a run settles the check (R151, R155, R174). -/
theorem State.engineSet_runEnds (check : u.engine.check = some c) (examines : u.engine.phase.examines = true)
    (low : x.2.voltage < c.params.runVoltage) (full : u.engine.runCount + 1 = c.params.runLength) :
    (u.setTime x.1).engineSet x.2 = (u.seeing c.params x).settle (u.runVerdict c.params x) := by
  rw [State.engineSet_run check examines, if_pos low, if_pos full.ge]

/-- A set that breaks a run goes on to the dwell (R149, R172). -/
theorem State.engineSet_steady (check : u.engine.check = some c) (examines : u.engine.phase.examines = true)
    (steady : u.engine.finalHold = false) (high : c.params.runVoltage ≤ x.2.voltage) :
    (u.setTime x.1).engineSet x.2 = (u.seeing c.params x).runOver.dwellSet c.params := by
  rw [State.engineSet_run check examines, if_neg high.not_gt, State.runBroken_steady (s := u.seeing c.params x) steady]

/-- A set that breaks a run in the final hold settles the check (R148, R156, R173). -/
theorem State.engineSet_held (check : u.engine.check = some c) (examines : u.engine.phase.examines = true)
    (held : u.engine.finalHold = true) (high : c.params.runVoltage ≤ x.2.voltage) :
    (u.setTime x.1).engineSet x.2 =
      (u.seeing c.params x).runOver.settle ((u.seeing c.params x).runOver.noRunVerdict c.params) := by
  rw [State.engineSet_run check examines, if_neg high.not_gt, State.runBroken_held (s := u.seeing c.params x) held]

/-! ### The dwell (R130, R148, R152, R156) -/

/-- The ramp of a kind that has one. -/
def Params.plan : Params → Option Ramp
  | .tripRamp p => some p.ramp
  | .tripTime _ => none
  | .derate p => some p.ramp

variable {r : Ramp}

theorem State.dwellSet_ramp (ramp : s.engine.phase = .ramp) (plan : p.plan = some r) :
    s.dwellSet p = s.countDwell r.dwell (fun v => v.rampDwellEnd p r) := by
  unfold State.dwellSet
  cases p with
  | tripTime q => cases plan
  | tripRamp q | derate q => cases plan; rw [ramp]

theorem State.dwellSet_preload {q : TimeParams} (preload : s.engine.phase = .preload) :
    s.dwellSet (.tripTime q) = s.countDwell q.preDwell (fun v => v.preloadDwellEnd q) := by
  unfold State.dwellSet
  rw [preload]

theorem State.dwellSet_step {q : TimeParams} (step : s.engine.phase = .step) :
    s.dwellSet (.tripTime q) = if s.inDwell then s.dwellCounted else s := by
  unfold State.dwellSet
  rw [step]

theorem State.countDwell_counts {length : Nat} (within : s.inDwell = true) (few : s.engine.dwellCount + 1 < length)
    (atEnd : State → State) : s.countDwell length atEnd = s.dwellCounted := by
  rw [State.countDwell, if_pos within, if_neg few.not_ge]

theorem State.countDwell_ends {length : Nat} (within : s.inDwell = true) (full : length ≤ s.engine.dwellCount + 1)
    (atEnd : State → State) : s.countDwell length atEnd = atEnd s.dwellCounted := by
  rw [State.countDwell, if_pos within, if_pos full]

/-- Before the last step the dwell's end writes the next setpoint (R148). -/
theorem State.rampDwellEnd_next {k n : Nat} (index : s.engine.stepIndex = some k) (steps : s.engine.stepCount = some n)
    (more : k < n) (p : Params) (r : Ramp) :
    s.rampDwellEnd p r =
      (s.setEngine { s.engine with stepIndex := some (k + 1), dwellStart := none, dwellCount := 0 }).writeSetpoint
        (r.setpoint (k + 1)) := by
  simp [State.rampDwellEnd, index, steps, more]

/-- At the last step the dwell's end is the plan's (R148, R173). -/
theorem State.rampDwellEnd_last {k n : Nat} (index : s.engine.stepIndex = some k) (steps : s.engine.stepCount = some n)
    (last : n ≤ k) (p : Params) (r : Ramp) :
    s.rampDwellEnd p r =
      (s.setEngine { s.engine with dwellStart := none, dwellCount := 0 }).planEnd (s.noRunVerdict p) := by
  simp [State.rampDwellEnd, index, steps, last]

/-! ### What a dwell leaves of a run in progress -/

/-- A dwell has taken a set of a run: verdict and run stand, and the phase too, or PRELOAD has become STEP. -/
structure State.runStands (s t : State) : Prop where
  verdict : t.engine.verdict = s.engine.verdict
  count : t.engine.runCount = s.engine.runCount
  collapse : t.engine.trip.origin = s.engine.trip.origin
  fold : t.engine.derate.origin = s.engine.derate.origin
  band : t.engine.derate.band = s.engine.derate.band
  phase : t.engine.phase = s.engine.phase ∨ s.engine.phase = .preload ∧ t.engine.phase = .step

theorem State.rampDwellEnd_runStands (runs : 0 < s.engine.runCount) (p : Params) (r : Ramp) :
    s.runStands (s.rampDwellEnd p r) := by
  unfold State.rampDwellEnd
  dsimp only
  split
  · exact ⟨rfl, rfl, rfl, rfl, rfl, .inl rfl⟩
  · rw [State.planEnd_running (s := s.setEngine { s.engine with dwellStart := none, dwellCount := 0 }) runs]
    exact ⟨rfl, rfl, rfl, rfl, rfl, .inl rfl⟩

theorem State.countDwell_runStands (length : Nat) {atEnd : State → State}
    (ends : s.dwellCounted.runStands (atEnd s.dwellCounted)) : s.runStands (s.countDwell length atEnd) := by
  obtain ⟨_, he⟩ | ⟨_, _, he⟩ | ⟨_, _, he⟩ := s.countDwell_cases length atEnd <;> rw [he]
  · exact ⟨rfl, rfl, rfl, rfl, rfl, .inl rfl⟩
  · exact ⟨rfl, rfl, rfl, rfl, rfl, .inl rfl⟩
  · exact ⟨ends.verdict, ends.count, ends.collapse, ends.fold, ends.band, ends.phase⟩

/-- A dwell that ends while a run is in progress settles nothing: at the plan's end the check holds on (R148, R156,
R173). -/
theorem State.dwellSet_runStands (runs : 0 < s.engine.runCount) (p : Params) : s.runStands (s.dwellSet p) := by
  unfold State.dwellSet
  split
  case h_1 | h_2 => exact State.countDwell_runStands _ (State.rampDwellEnd_runStands (s := s.dwellCounted) runs _ _)
  case h_3 preload => exact State.countDwell_runStands _ ⟨rfl, rfl, rfl, rfl, rfl, .inr ⟨preload, rfl⟩⟩
  case h_4 => split <;> exact ⟨rfl, rfl, rfl, rfl, rfl, .inl rfl⟩
  case h_5 => exact ⟨rfl, rfl, rfl, rfl, rfl, .inl rfl⟩

end Sys2Proof.Machine
end

section
/-!
PROOF. Runs and dwells over sets one after another (R130, R148 to R156, R171 to R174): a run short of its length and one
that is complete, a dwell short of its length and its last set.
-/

namespace Sys2Proof.Machine

variable {s u : State} {c : Check} {x : Word × SampleSet} {rest : List (Word × SampleSet)}

/-! ### A run -/

theorem State.engineSets_cons (u : State) (x : Word × SampleSet) (rest : List (Word × SampleSet)) :
    u.engineSets (x :: rest) = ((u.setTime x.1).engineSet x.2).engineSets rest := rfl

/-- `t` comes of `s` with `n` more sets counted to a run that is not complete. -/
structure State.runGoesOn (s t : State) (n : Nat) : Prop where
  verdict : t.engine.verdict = s.engine.verdict
  count : t.engine.runCount = s.engine.runCount + n
  phase : t.engine.phase = s.engine.phase ∨ s.engine.phase = .preload ∧ t.engine.phase = .step

theorem State.runGoesOn.trans {s t u : State} {m n : Nat} (a : s.runGoesOn t m) (b : t.runGoesOn u n) :
    s.runGoesOn u (n + m) where
  verdict := b.verdict.trans a.verdict
  count := by rw [b.count, a.count, Nat.add_assoc, Nat.add_comm m]
  phase := by
    obtain same | ⟨preload, step⟩ := a.phase
    · rw [← same]; exact b.phase
    · obtain same | ⟨still, _⟩ := b.phase
      · exact .inr ⟨preload, same.trans step⟩
      · exact absurd (step.symm.trans still) (by decide)

theorem State.runGoesOn.examines {t : State} {n : Nat} (h : s.runGoesOn t n)
    (examines : s.engine.phase.examines = true) : t.engine.phase.examines = true := by
  obtain same | ⟨_, step⟩ := h.phase
  · rw [same]; exact examines
  · rw [step]; rfl

/-- The verdict of the run that `x` begins or continues and that the sets of `rest` complete: the first set fixes its
origin, and each set of a fold run may show power-good absent (R149, R150, R172, R174). -/
def State.verdictOver (u : State) (p : Params) (x : Word × SampleSet) (rest : List (Word × SampleSet)) : Determined :=
  if p.isTrip then (u.collapseOf x).verdict p
  else FoldOrigin.verdict
    { power := (u.foldOf x).power, dark := (u.foldOf x).dark || rest.any fun y => !y.2.powerGood } u.engine.derate.band

theorem State.verdictOver_trip {p : Params} (trip : p.isTrip = true) (u : State) (x : Word × SampleSet)
    (rest : List (Word × SampleSet)) : u.verdictOver p x rest = (u.collapseOf x).verdict p :=
  if_pos trip

section

variable (check : u.engine.check = some c) (examines : u.engine.phase.examines = true)
include check examines

/-- The state after a set that continues a run without completing it. -/
theorem State.inRun_goesOn (low : x.2.voltage < c.params.runVoltage)
    (few : u.engine.runCount + 1 < c.params.runLength) :
    u.runGoesOn ((u.setTime x.1).engineSet x.2) 1 ∧ ((u.setTime x.1).engineSet x.2).engine.check = some c := by
  have stands := State.dwellSet_runStands (s := u.inRun c.params x) (Nat.succ_pos _) c.params
  rw [State.engineSet_inRun check examines low few]
  exact ⟨⟨stands.verdict, stands.count, stands.phase⟩, (State.dwellSet_check _ _).trans check⟩

/-- A run keeps its origin, which a fold run's later sets may darken (R149, R172). -/
theorem State.inRun_verdictOver {y : Word × SampleSet} (low : x.2.voltage < c.params.runVoltage)
    (few : u.engine.runCount + 1 < c.params.runLength) :
    ((u.setTime x.1).engineSet x.2).verdictOver c.params y rest = u.verdictOver c.params x (y :: rest) := by
  have stands := State.dwellSet_runStands (s := u.inRun c.params x) (Nat.succ_pos _) c.params
  rw [State.engineSet_inRun check examines low few]
  unfold State.verdictOver
  cases trip : c.params.isTrip with
  | true =>
    have origin : ((u.inRun c.params x).dwellSet c.params).engine.trip.origin = some (u.collapseOf x) := by
      rw [stands.collapse]; simp [State.inRun, trip]
    simp [State.collapseOf, Engine.collapseOrigin, origin]
  | false =>
    have origin : ((u.inRun c.params x).dwellSet c.params).engine.derate.origin = some (u.foldOf x) := by
      rw [stands.fold]; simp [State.inRun, trip]
    have band : ((u.inRun c.params x).dwellSet c.params).engine.derate.band = u.engine.derate.band := stands.band
    simp [State.foldOf, Engine.foldOrigin, origin, band, Bool.or_assoc]

end

/-- A run short of its length settles nothing (R149, R172). -/
theorem State.engineSets_runShort (check : u.engine.check = some c) (examines : u.engine.phase.examines = true)
    (low : ∀ y ∈ x :: rest, y.2.voltage < c.params.runVoltage)
    (short : u.engine.runCount + (x :: rest).length < c.params.runLength) :
    u.runGoesOn (u.engineSets (x :: rest)) (x :: rest).length := by
  induction rest generalizing u x with
  | nil => exact (State.inRun_goesOn check examines (low x (by simp)) short).1
  | cons y rest ih =>
    simp only [List.length_cons] at short
    obtain ⟨first, checked⟩ := State.inRun_goesOn check examines (low x (by simp)) (by omega)
    refine first.trans (ih checked (first.examines examines) (fun z hz => low z (.tail _ hz)) ?_)
    rw [first.count, List.length_cons]
    omega

/-- What SETTLE shows of a check settled (R132, R135, R146). -/
structure Engine.settledOn (e : Engine) (d : Determined) : Prop where
  phase : e.phase = .settle
  shedHold : e.shedHold = none
  finalHold : e.finalHold = false
  timeOut : e.trip.timeOut = none
  verdict : e.verdict = some d

theorem State.settle_settledOn (s : State) (d : Determined) : (s.settle d).engine.settledOn d :=
  ⟨rfl, rfl, rfl, rfl, rfl⟩

/-- A complete run settles the check on its origin (R151, R155, R174). -/
theorem State.engineSets_runComplete (check : u.engine.check = some c) (examines : u.engine.phase.examines = true)
    (low : ∀ y ∈ x :: rest, y.2.voltage < c.params.runVoltage)
    (full : u.engine.runCount + (x :: rest).length = c.params.runLength) :
    (u.engineSets (x :: rest)).engine.settledOn (u.verdictOver c.params x rest) := by
  induction rest generalizing u x with
  | nil =>
    have alone : u.verdictOver c.params x [] = u.runVerdict c.params x := by
      simp [State.verdictOver, State.runVerdict]
    have settles : u.engineSets [x] = _ := State.engineSet_runEnds check examines (low x (by simp)) full
    rw [settles, alone]
    exact State.settle_settledOn _ _
  | cons y rest ih =>
    simp only [List.length_cons] at full
    have few : u.engine.runCount + 1 < c.params.runLength := by omega
    obtain ⟨first, checked⟩ := State.inRun_goesOn check examines (low x (by simp)) few
    rw [← State.inRun_verdictOver check examines (low x (by simp)) few]
    refine ih checked (first.examines examines) (fun z hz => low z (.tail _ hz)) ?_
    rw [first.count, List.length_cons]
    omega

/-- A run from its first set on: nothing is settled while it is short, and the check is when it is complete (R149 to
R151, R155, R172, R174). -/
theorem State.engineSets_freshRun {p : Params} (check : u.engine.check = some c) (params : c.params = p)
    (examines : u.engine.phase.examines = true) (noRun : u.engine.runCount = 0)
    (low : ∀ y ∈ x :: rest, y.2.voltage < p.runVoltage) :
    ((x :: rest).length < p.runLength → u.runGoesOn (u.engineSets (x :: rest)) (x :: rest).length) ∧
    ((x :: rest).length = p.runLength →
      (u.engineSets (x :: rest)).engine.settledOn (u.verdictOver p x rest)) := by
  subst params
  exact ⟨fun short => State.engineSets_runShort check examines low (by omega),
    fun full => State.engineSets_runComplete check examines low (by omega)⟩

/-! ### A dwell -/

/-- `u` is `s` with `n` sets counted to the dwell that began at `start`, the power maximum being `greatest`. -/
structure State.dwelling (s u : State) (c : Check) (start : Word) (n greatest : Nat) : Prop where
  check : u.engine.check = some c
  phase : u.engine.phase = s.engine.phase
  steady : u.engine.finalHold = false
  start : u.engine.dwellStart = some start
  count : u.engine.dwellCount = n
  index : u.engine.stepIndex = s.engine.stepIndex
  steps : u.engine.stepCount = s.engine.stepCount
  power : u.engine.derate.powerMaximum = greatest
  station : u.station = s.station
  port : u.port = s.port

variable {start : Word} {n greatest : Nat}

/-- A set that breaks a run, seen in a dwell. -/
def State.steadySet (u : State) (p : Params) (x : Word × SampleSet) : State := (u.seeing p x).runOver

theorem State.dwelling.seen (h : s.dwelling u c start n greatest) (x : Word × SampleSet) :
    s.dwelling (u.steadySet c.params x) c start n (c.params.powerAfter s.engine.phase greatest x.2) :=
  ⟨h.check, h.phase, h.steady, h.start, h.count, h.index, h.steps, by rw [← h.phase, ← h.power]; rfl, h.station, h.port⟩

/-- A dwell begins with no set counted. -/
theorem State.dwelling.begins (check : s.engine.check = some c) (steady : s.engine.finalHold = false)
    (begun : s.engine.dwellStart = some start) (count : s.engine.dwellCount = 0) :
    s.dwelling s c start 0 s.engine.derate.powerMaximum :=
  ⟨check, rfl, steady, begun, count, rfl, rfl, rfl, rfl, rfl⟩

theorem State.dwelling.within (h : s.dwelling u c start n greatest) (after : earlier start u.time = true) :
    u.inDwell = true :=
  u.inDwell_iff.mpr ⟨start, h.start, after⟩

theorem State.dwelling.counted (h : s.dwelling u c start n greatest) :
    s.dwelling u.dwellCounted c start (n + 1) greatest :=
  ⟨h.check, h.phase, h.steady, h.start, congrArg (· + 1) h.count, h.index, h.steps, h.power, h.station, h.port⟩

theorem State.dwelling.takes (h : s.dwelling u c start n greatest) (examines : s.engine.phase.examines = true)
    (high : c.params.runVoltage ≤ x.2.voltage) :
    (u.setTime x.1).engineSet x.2 = (u.steadySet c.params x).dwellSet c.params :=
  State.engineSet_steady h.check (h.phase ▸ examines) h.steady high

/-- The power maximum after sets one after another (R171). -/
def Params.powerOver (p : Params) (phase : Phase) (greatest : Nat) (sets : List (Word × SampleSet)) : Nat :=
  sets.foldl (fun m y => p.powerAfter phase m y.2) greatest

theorem Params.powerOver_concat (p : Params) (phase : Phase) (greatest : Nat) (sets : List (Word × SampleSet))
    (x : Word × SampleSet) :
    p.powerOver phase greatest (sets ++ [x]) = p.powerAfter phase (p.powerOver phase greatest sets) x.2 := by
  simp [Params.powerOver]

/-- In RAMP a DERATE check keeps the greatest power that it has seen (R171). -/
theorem Params.powerOver_derate (q : DerateParams) (greatest : Nat) (sets : List (Word × SampleSet)) :
    (Params.derate q).powerOver .ramp greatest sets =
      (sets.map fun x => x.2.voltage * x.2.current / 10000).foldl max greatest := by
  rw [List.foldl_map]
  rfl

/-- The dwell of a phase counts a set where fewer than `length` sets have been counted with it. -/
def State.countsBelow (s : State) (p : Params) (length : Nat) : Prop :=
  ∀ w : State, w.engine.phase = s.engine.phase → w.inDwell = true → w.engine.dwellCount + 1 < length →
    w.dwellSet p = w.dwellCounted

/-- Sets that break a run and stay short of the dwell's length are counted one by one (R130). -/
theorem State.dwelling.engineSets {length : Nat} (h : s.dwelling s c start 0 greatest)
    (examines : s.engine.phase.examines = true) (counts : s.countsBelow c.params length)
    (sets : List (Word × SampleSet)) (later : ∀ x ∈ sets, earlier start x.1 = true)
    (high : ∀ x ∈ sets, c.params.runVoltage ≤ x.2.voltage) (few : sets.length < length) :
    s.dwelling (s.engineSets sets) c start sets.length (c.params.powerOver s.engine.phase greatest sets) := by
  induction sets using List.reverseRecOn with
  | nil => exact h
  | append_singleton before x ih =>
    rw [List.length_append, List.length_singleton] at few ⊢
    have sofar := ih (fun y hy => later y (List.mem_append_left _ hy)) (fun y hy => high y (List.mem_append_left _ hy))
      (by omega)
    have seen := sofar.seen x
    rw [State.engineSets_concat, sofar.takes examines (high x (by simp)),
      counts _ seen.phase (seen.within (later x (by simp))) (seen.count ▸ few), Params.powerOver_concat]
    exact seen.counted

/-- The last set of a dwell: what it finds (R130). -/
theorem State.dwelling.last {length : Nat} (h : s.dwelling s c start 0 greatest)
    (examines : s.engine.phase.examines = true) (counts : s.countsBelow c.params length)
    (sets : List (Word × SampleSet)) (later : ∀ x ∈ sets, earlier start x.1 = true)
    (high : ∀ x ∈ sets, c.params.runVoltage ≤ x.2.voltage) (full : sets.length = length) (positive : 0 < length) :
    ∃ w : State, s.engineSets sets = w.dwellSet c.params ∧ w.inDwell = true ∧ length ≤ w.engine.dwellCount + 1 ∧
      w.engine.runCount = 0 ∧
      s.dwelling w.dwellCounted c start length (c.params.powerOver s.engine.phase greatest sets) := by
  obtain rfl | ⟨before, x, rfl⟩ := List.eq_nil_or_concat' sets
  · exact absurd full positive.ne
  · rw [List.length_append, List.length_singleton] at full
    have sofar := h.engineSets examines counts before (fun y hy => later y (List.mem_append_left _ hy))
      (fun y hy => high y (List.mem_append_left _ hy)) (by omega)
    have seen := sofar.seen x
    refine ⟨_, ?_, seen.within (later x (by simp)), ?_, rfl, ?_⟩
    · rw [State.engineSets_concat, sofar.takes examines (high x (by simp))]
    · rw [seen.count]; exact full.ge
    · rw [Params.powerOver_concat, ← full]
      exact seen.counted

/-! ### The end of a dwell (R148, R152, R173) -/

variable {p : Params} {r : Ramp}

theorem State.countsBelow_ramp (ramp : s.engine.phase = .ramp) (plan : p.plan = some r) : s.countsBelow p r.dwell := by
  intro w phase within few
  rw [State.dwellSet_ramp (phase.trans ramp) plan, State.countDwell_counts within few]

theorem State.countsBelow_preload {q : TimeParams} (preload : s.engine.phase = .preload) :
    s.countsBelow (.tripTime q) q.preDwell := by
  intro w phase within few
  rw [State.dwellSet_preload (phase.trans preload), State.countDwell_counts within few]

/-- In STEP the count has no end (R130). -/
theorem State.countsBelow_step {q : TimeParams} (step : s.engine.phase = .step) (length : Nat) :
    s.countsBelow (.tripTime q) length := by
  intro w phase within _
  rw [State.dwellSet_step (phase.trans step), if_pos within]

/-- The verdict of a plan that ends without a run (R148, R156, R173). -/
def Params.planVerdict (p : Params) (greatest : Nat) : Determined :=
  match p with
  | .tripRamp _ | .tripTime _ => { verdict := .noTrip, measured := 0 }
  | .derate _ => { verdict := .noFold, measured := greatest }

theorem State.noRunVerdict_eq (s : State) (p : Params) :
    s.noRunVerdict p = p.planVerdict s.engine.derate.powerMaximum := by
  cases p <;> rfl

/-- The port after a setpoint that is written from `s` (R114). -/
def State.portWith (s : State) (v : Nat) : Port := if s.station = .offLine then s.port else s.port.writeSetpoint v

theorem State.dwelling.portWith (h : s.dwelling u c start n greatest) (v : Nat) : u.portWith v = s.portWith v := by
  rw [State.portWith, State.portWith, h.station, h.port]

section

variable {sets : List (Word × SampleSet)} (begins : s.dwelling s c start 0 greatest)
  (later : ∀ x ∈ sets, earlier start x.1 = true) (high : ∀ x ∈ sets, c.params.runVoltage ≤ x.2.voltage)
include begins later high

section

variable (ramp : s.engine.phase = .ramp) (plan : c.params.plan = some r) (full : sets.length = r.dwell)
  (positive : 0 < r.dwell) {k n : Nat} (index : s.engine.stepIndex = some k) (steps : s.engine.stepCount = some n)
include ramp plan full positive index steps

/-- Before the last step the dwell's last set writes the next setpoint (R148). -/
theorem State.engineSets_nextStep (more : k < n) :
    let after := s.engineSets sets
    after.engine.phase = .ramp ∧ after.engine.stepIndex = some (k + 1) ∧ after.engine.dwellStart = none ∧
    after.engine.awaiting = true ∧ after.engine.derate.powerMaximum = c.params.powerOver .ramp greatest sets ∧
    after.port = s.portWith (r.setpoint (k + 1)) := by
  obtain ⟨w, ends, within, last, _, counted⟩ :=
    begins.last (by rw [ramp]; rfl) (State.countsBelow_ramp ramp plan) sets later high full positive
  have phase : w.engine.phase = .ramp := counted.phase.trans ramp
  dsimp only
  rw [ends, State.dwellSet_ramp phase plan, State.countDwell_ends within last,
    State.rampDwellEnd_next (s := w.dwellCounted) (counted.index.trans index) (counted.steps.trans steps) more]
  exact ⟨phase, rfl, rfl, rfl, counted.power.trans (by rw [ramp]),
    (State.writeSetpoint_port _ _).trans (counted.portWith _)⟩

/-- At the last step the dwell's last set settles the check, no run being in progress (R148, R173). -/
theorem State.engineSets_planEnd (last : n ≤ k) :
    let after := s.engineSets sets
    after.engine.phase = .settle ∧ after.port = s.portWith 0 ∧
    after.engine.verdict = some (c.params.planVerdict (c.params.powerOver .ramp greatest sets)) := by
  obtain ⟨w, ends, within, full, noRun, counted⟩ :=
    begins.last (by rw [ramp]; rfl) (State.countsBelow_ramp ramp plan) sets later high full positive
  have phase : w.engine.phase = .ramp := counted.phase.trans ramp
  dsimp only
  rw [ends, State.dwellSet_ramp phase plan, State.countDwell_ends within full,
    State.rampDwellEnd_last (s := w.dwellCounted) (counted.index.trans index) (counted.steps.trans steps) last,
    State.noRunVerdict_eq, counted.power, ramp,
    State.planEnd_quiet
      (s := w.dwellCounted.setEngine { w.dwellCounted.engine with dwellStart := none, dwellCount := 0 }) noRun]
  exact ⟨rfl, (State.settle_port _ _).trans (counted.portWith 0), rfl⟩

end

/-- The last set of the pre-load dwell writes Io and enters STEP (R152). -/
theorem State.engineSets_preloadEnd {q : TimeParams} (params : c.params = .tripTime q)
    (preload : s.engine.phase = .preload) (full : sets.length = q.preDwell) (positive : 0 < q.preDwell) :
    let after := s.engineSets sets
    after.engine.phase = .step ∧ after.engine.dwellStart = none ∧ after.engine.awaiting = true ∧
    after.port = s.portWith q.overload := by
  obtain ⟨w, ends, within, last, _, counted⟩ := begins.last (by rw [preload]; rfl)
    (params ▸ State.countsBelow_preload preload) sets later high full positive
  have phase : w.engine.phase = .preload := counted.phase.trans preload
  dsimp only
  rw [ends, params, State.dwellSet_preload phase, State.countDwell_ends within last]
  exact ⟨rfl, rfl, rfl, (State.writeSetpoint_port _ _).trans (counted.portWith _)⟩

end

/-! ### The final hold (R148, R156, R173) -/

/-- At the last step's end a run in progress holds the check on (R148, R173). -/
theorem State.dwellSet_holdsOn {k n : Nat} (ramp : s.engine.phase = .ramp) (plan : p.plan = some r)
    (within : s.inDwell = true) (full : r.dwell ≤ s.engine.dwellCount + 1) (index : s.engine.stepIndex = some k)
    (steps : s.engine.stepCount = some n) (last : n ≤ k) (runs : 0 < s.engine.runCount) :
    s.dwellSet p = s.setEngine { s.engine with dwellStart := none, dwellCount := 0, finalHold := true } := by
  rw [State.dwellSet_ramp ramp plan, State.countDwell_ends within full,
    State.rampDwellEnd_last (s := s.dwellCounted) index steps last]
  exact State.planEnd_running (s := s.setEngine { s.engine with dwellStart := none, dwellCount := 0 }) runs _

/-- A set of a run at the last step's end holds the check on (R148, R173). -/
theorem State.engineSet_holdsOn {x : SampleSet} {k n : Nat} (check : s.engine.check = some c)
    (ramp : s.engine.phase = .ramp) (plan : c.params.plan = some r) (begun : s.engine.dwellStart = some start)
    (index : s.engine.stepIndex = some k) (steps : s.engine.stepCount = some n) (low : x.voltage < c.params.runVoltage)
    (few : s.engine.runCount + 1 < c.params.runLength) (after : earlier start s.time = true)
    (full : r.dwell ≤ s.engine.dwellCount + 1) (last : n ≤ k) :
    (s.engineSet x).engine.phase = .ramp ∧ (s.engineSet x).engine.finalHold = true ∧
    (s.engineSet x).engine.runCount = s.engine.runCount + 1 ∧ (s.engineSet x).engine.verdict = s.engine.verdict ∧
    (s.engineSet x).port = s.port := by
  have seen : s.engineSet x = (s.inRun c.params (s.time, x)).dwellSet c.params :=
    State.engineSet_inRun (u := s) (x := (s.time, x)) check (by rw [ramp]; rfl) low few
  have within : (s.inRun c.params (s.time, x)).inDwell = true := (State.inDwell_iff _).mpr ⟨start, begun, after⟩
  rw [seen, State.dwellSet_holdsOn (s := s.inRun c.params (s.time, x)) ramp plan within full index steps last
    (Nat.succ_pos _)]
  exact ⟨ramp, rfl, rfl, rfl, rfl⟩

/-- In the final hold a set that breaks the run settles the check (R148, R156, R173). -/
theorem State.engineSet_holdEnds {x : SampleSet} (check : s.engine.check = some c)
    (examines : s.engine.phase.examines = true) (held : s.engine.finalHold = true)
    (high : c.params.runVoltage ≤ x.voltage) :
    (s.engineSet x).engine.phase = .settle ∧ (s.engineSet x).engine.verdict = some (c.params.planVerdict
      (c.params.powerAfter s.engine.phase s.engine.derate.powerMaximum x)) := by
  have settles : s.engineSet x = _ := State.engineSet_held (u := s) (x := (s.time, x)) check examines held high
  rw [settles, State.noRunVerdict_eq]
  exact ⟨rfl, rfl⟩

end Sys2Proof.Machine
end

section
/-!
PROOF. Collapse runs, dwells and final holds of a trip check (R130, R148 to R157): the verdict by the origin of the run.
-/

namespace Sys2Proof.Machine

variable {s : State} {c : Check} {x : Word × SampleSet} {rest : List (Word × SampleSet)}

theorem judge_eq (low high v : Nat) :
    judge low high v = if v < low then .failLow else if high < v then .failHigh else .pass := by
  unfold judge
  split
  · rfl
  · by_cases above : high < v
    · rw [if_neg above.not_ge, if_pos above]
    · rw [if_pos (Nat.le_of_not_lt above), if_neg above]

/-! ### The origin of a collapse run (R149, R150, R154, R157) -/

/-- A run is judged from the step instant when Io loads the shelf, or loaded it before FROZEN, and the run begins later
than that instant; every other run is premature (R154, R157). -/
theorem Engine.judgedFrom_cases (e : Engine) (stamp : Word) :
    (∀ instant, (e.phase = .step ∨ e.phase = .frozen ∧ e.frozenFrom = some .step) →
      e.trip.stepInstant = some instant → earlier instant stamp = true → e.judgedFrom stamp = some instant) ∧
    (¬ (e.phase = .step ∨ e.phase = .frozen ∧ e.frozenFrom = some .step) ∨
      (∀ instant ∈ e.trip.stepInstant, earlier instant stamp = false) → e.judgedFrom stamp = none) := by
  have loaded : e.loadingPhase = .step ↔ e.phase = .step ∨ e.phase = .frozen ∧ e.frozenFrom = some .step := by
    unfold Engine.loadingPhase
    by_cases frozen : e.phase = .frozen
    · cases from? : e.frozenFrom <;> simp [frozen]
    · simp [frozen]
  rw [← loaded]
  unfold Engine.judgedFrom
  refine ⟨fun instant step fixed after => by simp [step, fixed, after], fun premature => ?_⟩
  split
  case h_1 instant step fixed =>
    obtain other | before := premature
    · exact absurd step other
    · simp [before instant fixed]
  case h_2 => rfl

theorem State.collapseOf_fresh (fresh : s.engine.trip.origin = none) (x : Word × SampleSet) :
    s.collapseOf x =
      { current := s.engine.trip.lastCurrent, stamp := x.1, judgedFrom := s.engine.judgedFrom x.1 } := by
  simp [State.collapseOf, Engine.collapseOrigin, fresh]

/-- A complete run of TRIP_RAMP settles on the current before it (R150, R151). -/
theorem State.verdictOver_tripRamp (fresh : s.engine.trip.origin = none) (p : RampParams) :
    s.verdictOver (.tripRamp p) x rest =
      { verdict := judge p.windowLow p.windowHigh s.engine.trip.lastCurrent
        measured := s.engine.trip.lastCurrent } := by
  rw [State.verdictOver_trip (p := .tripRamp p) rfl, State.collapseOf_fresh fresh]
  rfl

/-- A complete run of TRIP_TIME that is judged from an instant settles on the time to its first set (R154, R155). -/
theorem State.verdictOver_timed (fresh : s.engine.trip.origin = none) (p : TimeParams) {instant : Word}
    (judged : s.engine.judgedFrom x.1 = some instant) :
    s.verdictOver (.tripTime p) x rest =
      { verdict := judge p.timeLow p.timeHigh (x.1 - instant).toNat, measured := min (x.1 - instant).toNat 65535 } := by
  rw [State.verdictOver_trip (p := .tripTime p) rfl, State.collapseOf_fresh fresh, judged]
  rfl

/-- A premature run of TRIP_TIME is FAIL_LOW with 0 (R154). -/
theorem State.verdictOver_premature (fresh : s.engine.trip.origin = none) (p : TimeParams)
    (premature : s.engine.judgedFrom x.1 = none) :
    s.verdictOver (.tripTime p) x rest = { verdict := .failLow, measured := 0 } := by
  rw [State.verdictOver_trip (p := .tripTime p) rfl, State.collapseOf_fresh fresh, premature]
  rfl

/-! ### The obligation -/

/-- Settles O58: the runs and the dwells by induction over their sets, the final hold by its one set. -/
theorem collapseRun : Obligations.CollapseRun := by
  refine ⟨fun s c first others check noRun fresh => ?_, fun s c sets start check steady begun count later => ?_,
    fun s c x check => ?_⟩
  · intro sets e after window
    have judged (low high v : Nat) : judge low high v = window low high v := judge_eq low high v
    refine ⟨fun p params phase low => ?_, fun p params phase low => ?_⟩
    · have examines : s.engine.phase.examines = true := (Phase.examines_iff _).mpr (by tauto)
      have loaded : e.phase ≠ .preload := by rintro preload; simp [preload] at phase
      obtain ⟨goesOn, settles⟩ := State.engineSets_freshRun check params examines noRun low
      rw [State.verdictOver_tripRamp fresh, judged] at settles
      refine ⟨fun short => ⟨(goesOn short).phase.resolve_right fun h => loaded h.1, (goesOn short).verdict, ?_⟩,
        fun full => ⟨(settles full).phase, (settles full).shedHold, (settles full).finalHold, (settles full).verdict⟩⟩
      exact (goesOn short).count.trans (by rw [noRun, Nat.zero_add])
    · have examines : s.engine.phase.examines = true := (Phase.examines_iff _).mpr (by tauto)
      obtain ⟨goesOn, settles⟩ := State.engineSets_freshRun check params examines noRun low
      obtain ⟨timed, premature⟩ := e.judgedFrom_cases first.1
      refine ⟨fun short => ⟨(goesOn short).phase, (goesOn short).verdict, ?_⟩,
        fun full => ⟨(settles full).phase, (settles full).shedHold, (settles full).finalHold, (settles full).timeOut,
          fun loaded instant fixed later => ?_, fun early => ?_⟩⟩
      · exact (goesOn short).count.trans (by rw [noRun, Nat.zero_add])
      · rw [(settles full).verdict, State.verdictOver_timed fresh p (timed instant loaded fixed later), judged]
      · rw [(settles full).verdict, State.verdictOver_premature fresh p (premature early)]
  · intro e after path
    have begins : s.dwelling s c start 0 e.derate.powerMaximum := .begins check steady begun count
    refine ⟨fun p params ramp high => ?_, fun p params high => ?_⟩
    · have above : ∀ x ∈ sets, c.params.runVoltage ≤ x.2.voltage := by rw [params]; exact high
      have plan : c.params.plan = some p.ramp := by rw [params]; rfl
      refine ⟨fun few => ?_, fun full positive k index n steps => ⟨fun more => ?_, fun last => ?_⟩⟩
      · have counted := begins.engineSets (by rw [ramp]; rfl) (State.countsBelow_ramp ramp plan) sets later above few
        exact ⟨counted.phase.trans ramp, counted.count, counted.index, counted.port⟩
      · obtain ⟨phase, step, dwell, awaits, _, port⟩ :=
          State.engineSets_nextStep begins later above ramp plan full positive index steps more
        exact ⟨phase, step, dwell, awaits, port⟩
      · obtain ⟨phase, port, verdict⟩ :=
          State.engineSets_planEnd begins later above ramp plan full positive index steps last
        exact ⟨phase, port, verdict.trans (by rw [params]; rfl)⟩
    · have above : ∀ x ∈ sets, c.params.runVoltage ≤ x.2.voltage := by rw [params]; exact high
      refine ⟨fun preload few => ?_, fun preload full positive => ?_, fun step => ?_⟩
      · have counted := begins.engineSets (by rw [preload]; rfl) (params ▸ State.countsBelow_preload preload) sets later
          above few
        exact ⟨counted.phase.trans preload, counted.count, counted.port⟩
      · exact State.engineSets_preloadEnd begins later above params preload full positive
      · have counted := begins.engineSets (by rw [step]; rfl)
          (params ▸ State.countsBelow_step step (sets.length + 1)) sets later above (Nat.lt_succ_self _)
        exact ⟨counted.phase.trans step, counted.count, counted.port⟩
  · refine ⟨fun p params ramp _ start begun k index n steps low few after full last => ?_,
      fun tail kind held high => ?_⟩
    · exact State.engineSet_holdsOn check ramp (by rw [params]; rfl) begun index steps (by rw [params]; exact low)
        (by rw [params]; exact few) after full last
    · obtain ⟨p, params, rfl, phase⟩ | ⟨p, params, rfl, phase⟩ := kind
      all_goals
        obtain ⟨settled, verdict⟩ :=
          State.engineSet_holdEnds check (by rw [phase]; rfl) held (by rw [params]; exact high)
        rw [params] at verdict
        exact ⟨settled, verdict⟩

end Sys2Proof.Machine
end

section
/-!
PROOF. Fold runs, dwells, final holds and soak blocks of a derating check (R130, R148, R164, R165, R171 to R174): the
verdict by the power before the run and by power-good in it, and the block of temperatures that the soak builds.
-/

namespace Sys2Proof.Machine

variable {s u : State} {c : Check} {p : DerateParams} {x : Word × SampleSet} {rest : List (Word × SampleSet)}

/-! ### The verdict of a fold run (R172, R174) -/

theorem State.verdictOver_derate (fresh : s.engine.derate.origin = none) {band : Band}
    (fixed : s.engine.derate.band = some band) :
    s.verdictOver (.derate p) x rest =
      { verdict :=
          if ∃ y ∈ x :: rest, y.2.powerGood = false then .trippedInDerate
          else judge band.lower band.upper s.engine.derate.powerMaximum
        measured := s.engine.derate.powerMaximum } := by
  have origin : s.foldOf x = { power := s.engine.derate.powerMaximum, dark := !x.2.powerGood } := by
    simp [State.foldOf, Engine.foldOrigin, fresh]
  have dark : (!x.2.powerGood || rest.any fun y => !y.2.powerGood) = true ↔ ∃ y ∈ x :: rest, y.2.powerGood = false := by
    simp
  rw [State.verdictOver, if_neg (by simp [Params.isTrip]), origin, FoldOrigin.verdict, fixed]
  exact congrArg (Determined.mk · _) (if_congr dark rfl rfl)

/-! ### The open block (R164) -/

/-- The block that a list of temperatures makes. -/
def OpenBlock.of (temperatures : List Int) : OpenBlock :=
  { count := temperatures.length, sum := temperatures.sum, least := temperatures.min?, greatest := temperatures.max? }

theorem OpenBlock.of_concat (temperatures : List Int) (t : Int) :
    (OpenBlock.of temperatures).add t = OpenBlock.of (temperatures ++ [t]) := by
  cases temperatures with
  | nil => simp [OpenBlock.of, OpenBlock.add]
  | cons first later =>
    simp only [OpenBlock.of, OpenBlock.add, List.cons_append, List.min?_cons', List.max?_cons', List.foldl_append,
      List.foldl_cons, List.foldl_nil]
    simp [Int.add_assoc]

/-- The summary of a block by its least and its greatest temperature (R164, R165). -/
theorem OpenBlock.complete_of {temperatures : List Int} {least greatest : Int} (least? : temperatures.min? = some least)
    (greatest? : temperatures.max? = some greatest) (p : DerateParams) (number : Nat) :
    (OpenBlock.of temperatures).complete p number =
      let average := Int.tdiv temperatures.sum p.blockSets
      { number := number, average := average, spread := (greatest - least).toNat
        good := decide (p.tLow ≤ average ∧ average ≤ p.tHigh ∧ greatest - least ≤ p.stability) } := by
  simp [OpenBlock.of, OpenBlock.complete, least?, greatest?, Bool.and_assoc]

/-- A set short of the block's length is one more of the open block (R164). -/
theorem DerateRecord.soak_open {d : DerateRecord} {t : Int} (short : d.openBlock.count + 1 < p.blockSets) :
    d.soak p t = { d with openBlock := d.openBlock.add t } ∧ d.goodBlock p t = false := by
  have few : (d.openBlock.add t).count < p.blockSets := short
  simp [DerateRecord.soak, DerateRecord.goodBlock, few]

/-- The last set of a block completes it, and the check's first good block is recorded once (R164, R165). -/
theorem DerateRecord.soak_completes {d : DerateRecord} {t : Int} (full : d.openBlock.count + 1 = p.blockSets) :
    let done := (d.openBlock.add t).complete p (d.blockNumber + 1)
    d.soak p t = { d with
      openBlock := OpenBlock.of [], blockNumber := d.blockNumber + 1, latest := some done
      firstGood := if d.firstGood = none ∧ done.good = true then some (d.blockNumber + 1) else d.firstGood } ∧
    d.goodBlock p t = done.good := by
  have reaches : p.blockSets ≤ (d.openBlock.add t).count := full.ge
  refine ⟨?_, by simp [DerateRecord.goodBlock, reaches]⟩
  rw [DerateRecord.soak]
  dsimp only
  rw [if_neg reaches.not_gt]
  simp only [Bool.and_eq_true, Option.isNone_iff_eq_none]
  rfl

/-! ### One set of the soak -/

/-- The part with a set of the soak taken into its block (R164). -/
def State.soaked (u : State) (p : DerateParams) (x : Word × SampleSet) : State :=
  (u.withTaken x).setEngine { (u.withTaken x).engine with derate := u.engine.derate.soak p x.2.temperature }

/-- With power-good present a set goes into the block, and a good block that it completes ends SOAK (R164, R165). -/
theorem State.engineSet_soak (check : u.engine.check = some c) (params : c.params = .derate p)
    (soaks : u.engine.phase = .soak ∨ u.engine.phase = .claiming) (lit : x.2.powerGood = true) :
    (u.setTime x.1).engineSet x.2 =
      if u.engine.phase = .soak ∧ u.engine.derate.goodBlock p x.2.temperature = true then
        (u.soaked p x).enterClaiming c
      else u.soaked p x := by
  have taken : (u.setTime x.1).engineSet x.2 = (u.withTaken x).soakSet c p x.2 := by
    unfold State.engineSet
    obtain phase | phase := soaks <;> simp [State.withTaken, check, params, Engine.takeIn, phase]
  rw [taken, State.soakSet, if_neg (by simp [lit])]
  simp only [Bool.and_eq_true, beq_iff_eq]
  rfl

/-- A DERATE check that waits in CLAIMING keeps its soak record (R129, R164). -/
theorem State.enterClaiming_derate (idle : s.headroom.claim = .idle) (c : Check) :
    (s.enterClaiming c).engine.derate = s.engine.derate := by
  have asks : s.headroom.grantsAtOnce c.need = false := by simp [Headroom.grantsAtOnce, idle]
  rw [State.enterClaiming_waiting asks]
  simp [State.claimingEntered]

/-- `u` is `s` with these temperatures in its open block. -/
structure State.soaking (s u : State) (c : Check) (temperatures : List Int) : Prop where
  check : u.engine.check = some c
  phase : u.engine.phase = s.engine.phase
  headroom : u.headroom = s.headroom
  derate : u.engine.derate = { s.engine.derate with openBlock := OpenBlock.of temperatures }

section

variable (params : c.params = .derate p) (soaks : s.engine.phase = .soak ∨ s.engine.phase = .claiming)
include params soaks

/-- Sets short of a block go into it one by one (R164). -/
theorem State.soaking.engineSets (h : s.soaking s c []) (sets : List (Word × SampleSet))
    (lit : ∀ x ∈ sets, x.2.powerGood = true) (short : sets.length < p.blockSets) :
    s.soaking (s.engineSets sets) c (sets.map fun x => x.2.temperature) := by
  induction sets using List.reverseRecOn with
  | nil => exact h
  | append_singleton before x ih =>
    rw [List.length_append, List.length_singleton] at short
    have sofar := ih (fun y hy => lit y (List.mem_append_left _ hy)) (by omega)
    obtain ⟨record, bad⟩ := DerateRecord.soak_open (p := p) (d := (s.engineSets before).engine.derate)
      (t := x.2.temperature) (by rw [sofar.derate]; simpa [OpenBlock.of] using short)
    rw [State.engineSets_concat, State.engineSet_soak sofar.check params (sofar.phase ▸ soaks) (lit x (by simp)),
      if_neg (by simp [bad])]
    refine ⟨sofar.check, sofar.phase, sofar.headroom, ?_⟩
    rw [List.map_append, List.map_singleton, ← OpenBlock.of_concat]
    exact record.trans (by rw [sofar.derate])

/-- The last set of a block completes it; a good one takes SOAK to CLAIMING (R164, R165). -/
theorem State.soaking.completes (h : s.soaking s c []) (sets : List (Word × SampleSet))
    (lit : ∀ x ∈ sets, x.2.powerGood = true) (full : sets.length = p.blockSets) (positive : 0 < sets.length) :
    let done := (OpenBlock.of (sets.map fun x => x.2.temperature)).complete p (s.engine.derate.blockNumber + 1)
    ∃ w : State, s.engineSets sets =
        (if s.engine.phase = .soak ∧ done.good = true then w.enterClaiming c else w) ∧
      w.engine.phase = s.engine.phase ∧ w.headroom = s.headroom ∧
      w.engine.derate = { s.engine.derate with
        openBlock := OpenBlock.of [], blockNumber := s.engine.derate.blockNumber + 1, latest := some done
        firstGood := if s.engine.derate.firstGood = none ∧ done.good = true then
            some (s.engine.derate.blockNumber + 1)
          else s.engine.derate.firstGood } := by
  obtain rfl | ⟨before, x, rfl⟩ := List.eq_nil_or_concat' sets
  · exact absurd positive (by simp)
  · rw [List.length_append, List.length_singleton] at full
    have sofar := h.engineSets params soaks before (fun y hy => lit y (List.mem_append_left _ hy)) (by omega)
    obtain ⟨record, good⟩ := DerateRecord.soak_completes (p := p) (d := (s.engineSets before).engine.derate)
      (t := x.2.temperature) (by rw [sofar.derate]; simpa [OpenBlock.of] using full)
    rw [sofar.derate] at record good
    rw [List.map_append, List.map_singleton, ← OpenBlock.of_concat]
    refine ⟨(s.engineSets before).soaked p x, ?_, sofar.phase, sofar.headroom, ?_⟩
    · rw [State.engineSets_concat, State.engineSet_soak sofar.check params (sofar.phase ▸ soaks) (lit x (by simp)),
        sofar.derate, good, sofar.phase]
    · exact (congrArg (DerateRecord.soak · p x.2.temperature) sofar.derate).trans record

/-- A block completed: its summary, and what becomes of phase and claim (R129, R164, R165). -/
theorem State.engineSets_block (check : s.engine.check = some c) (empty : s.engine.derate.openBlock = OpenBlock.of [])
    (idle : s.engine.phase = .soak → s.headroom.claim = .idle) (sets : List (Word × SampleSet))
    (lit : ∀ x ∈ sets, x.2.powerGood = true) (full : sets.length = p.blockSets) (positive : 0 < sets.length) :
    let done := (OpenBlock.of (sets.map fun x => x.2.temperature)).complete p (s.engine.derate.blockNumber + 1)
    let after := s.engineSets sets
    after.engine.derate = { s.engine.derate with
      openBlock := OpenBlock.of [], blockNumber := s.engine.derate.blockNumber + 1, latest := some done
      firstGood := if s.engine.derate.firstGood = none ∧ done.good = true then
          some (s.engine.derate.blockNumber + 1)
        else s.engine.derate.firstGood } ∧
    (s.engine.phase = .soak → done.good = true →
      after.engine.phase = .claiming ∧ after.headroom.claim = .askQueued ∧
      after.headroom.need = some { amount := c.need, priority := c.priority }) ∧
    (¬ (s.engine.phase = .soak ∧ done.good = true) →
      after.engine.phase = s.engine.phase ∧ after.headroom = s.headroom) := by
  have begins : s.soaking s c [] := ⟨check, rfl, rfl, by rw [← empty]⟩
  obtain ⟨w, ends, phase, headroom, record⟩ := begins.completes params soaks sets lit full positive
  dsimp only
  split at ends
  case isTrue asks =>
    have waits : w.headroom.claim = .idle := headroom ▸ idle asks.1
    obtain ⟨claiming, _, claim, need⟩ := State.enterClaiming_asking (c := c) waits
    rw [ends]
    exact ⟨(State.enterClaiming_derate waits c).trans record, fun _ _ => ⟨claiming, claim, need⟩,
      fun other => absurd asks other⟩
  case isFalse stays =>
    rw [ends]
    exact ⟨record, fun soak good => absurd ⟨soak, good⟩ stays, fun _ => ⟨phase, headroom⟩⟩

end

/-! ### The obligation -/

/-- Settles O59: the runs, the dwells and the blocks by induction over their sets, the final hold by its one set. -/
theorem foldRun : Obligations.FoldRun := by
  refine ⟨fun s c p band first others check params phase noRun fresh fixed low => ?_,
    fun s c p sets start check params ramp steady begun count seen => ?_,
    fun s c p x check params ramp => ⟨fun start begun k index n steps low few after full last => ?_,
      fun held high => ?_⟩,
    fun s c p sets least greatest check params positive soaks empty lit => ?_⟩
  · intro sets power after
    have examines : s.engine.phase.examines = true := (Phase.examines_iff _).mpr (by tauto)
    have loaded : s.engine.phase ≠ .preload := by rintro preload; simp [preload] at phase
    obtain ⟨goesOn, settles⟩ := State.engineSets_freshRun check params examines noRun low
    rw [State.verdictOver_derate fresh fixed, judge_eq] at settles
    refine ⟨fun short => ⟨(goesOn short).phase.resolve_right fun h => loaded h.1, (goesOn short).verdict, ?_⟩,
      fun full => ⟨(settles full).phase, (settles full).shedHold, (settles full).finalHold, (settles full).verdict⟩⟩
    exact (goesOn short).count.trans (by rw [noRun, Nat.zero_add])
  · intro e after path power
    have begins : s.dwelling s c start 0 e.derate.powerMaximum := .begins check steady begun count
    have later : ∀ x ∈ sets, earlier start x.1 = true := fun x hx => (seen x hx).1
    have high : ∀ x ∈ sets, c.params.runVoltage ≤ x.2.voltage := fun x hx => by rw [params]; exact (seen x hx).2
    have plan : c.params.plan = some p.ramp := by rw [params]; rfl
    have grown : c.params.powerOver .ramp e.derate.powerMaximum sets = power := by
      rw [params, Params.powerOver_derate]
    refine ⟨fun few => ?_, fun full positive k index n steps => ⟨fun more => ?_, fun last => ?_⟩⟩
    · have counted := begins.engineSets (by rw [ramp]; rfl) (State.countsBelow_ramp ramp plan) sets later high few
      exact ⟨counted.phase.trans ramp, counted.count, counted.index, counted.power.trans (by rw [ramp, grown]),
        counted.port⟩
    · obtain ⟨phase, step, dwell, _, greatest, port⟩ :=
        State.engineSets_nextStep begins later high ramp plan full positive index steps more
      exact ⟨phase, step, dwell, greatest.trans grown, port⟩
    · obtain ⟨phase, port, verdict⟩ :=
        State.engineSets_planEnd begins later high ramp plan full positive index steps last
      exact ⟨phase, port, verdict.trans (by rw [grown, params]; rfl)⟩
  · exact State.engineSet_holdsOn check ramp (by rw [params]; rfl) begun index steps (by rw [params]; exact low)
      (by rw [params]; exact few) after full last
  · obtain ⟨settled, verdict⟩ :=
      State.engineSet_holdEnds check (by rw [ramp]; rfl) held (by rw [params]; exact high)
    rw [params, ramp] at verdict
    exact ⟨settled, verdict⟩
  · intro temperatures isLeast isGreatest bounds d after average good
    have least? : temperatures.min? = some least := List.min?_eq_some_iff.mpr ⟨isLeast, fun t ht => (bounds t ht).1⟩
    have greatest? : temperatures.max? = some greatest :=
      List.max?_eq_some_iff.mpr ⟨isGreatest, fun t ht => (bounds t ht).2⟩
    have soaking : s.engine.phase = .soak ∨ s.engine.phase = .claiming := soaks.imp_left And.left
    refine ⟨fun short => ?_, fun full => ?_⟩
    · have begins : s.soaking s c [] := ⟨check, rfl, rfl, congrArg (fun b => { d with openBlock := b }) empty⟩
      have counted := begins.engineSets params soaking sets lit short
      refine ⟨counted.phase, counted.derate.trans ?_⟩
      rw [OpenBlock.of, least?, greatest?, List.length_map]
    · have idle (soak : s.engine.phase = .soak) : s.headroom.claim = .idle := (soaks.resolve_right (by simp [soak])).2
      have block := State.engineSets_block params soaking check empty idle sets lit full positive
      rw [OpenBlock.complete_of least? greatest?] at block
      simp only [decide_eq_true_eq] at block
      obtain ⟨record, asks, stays⟩ := block
      refine ⟨record, asks, fun soak bad => ?_, fun waits => ?_⟩
      · exact soak ▸ stays fun both => bad both.2
      · exact waits ▸ stays fun both => absurd (both.1.symm.trans waits) (by decide)

end Sys2Proof.Machine
end

section
/-!
PROOF. The derating curve (R169): which piece a temperature falls on, the points before it left out of account, and the
bounds of the expected power.
-/

namespace Sys2Proof.Machine

variable {p q : Point} {rest : List Point} {t : Int}

/-! ### The pieces of a curve (R169) -/

/-- The power at `t` on the segment from `p` to `q`, its fraction rounded toward minus infinity. -/
def Point.segment (p q : Point) (t : Int) : Int :=
  p.power + Int.fdiv (((q.power : Int) - p.power) * (t - p.temperature)) (q.temperature - p.temperature)

@[simp] theorem Point.segment_start (p q : Point) : p.segment q p.temperature = p.power := by
  simp [Point.segment]

theorem curveAt_of_le_first (low : t ≤ p.temperature) : curveAt (p :: rest) t = p.power := by
  cases rest with
  | nil => rfl
  | cons q rest => exact if_pos low

theorem curveAt_of_mem_segment (above : p.temperature ≤ t) (below : t < q.temperature) :
    curveAt (p :: q :: rest) t = p.segment q t := by
  obtain rfl | later : p.temperature = t ∨ p.temperature < t := by omega
  · rw [curveAt_of_le_first le_rfl, Point.segment_start]
  · rw [curveAt, if_neg (by omega), if_pos below, Point.segment]

/-- A point is of no account once the temperature has reached the next. -/
theorem curveAt_of_next_le (above : p.temperature < t) (reached : q.temperature ≤ t) :
    curveAt (p :: q :: rest) t = curveAt (q :: rest) t := by
  rw [curveAt, if_neg (by omega), if_neg (by omega)]

/-- The evaluation may begin at any point that the temperature has reached. -/
theorem curveAt_append {before : List Point}
    (rising : (before ++ p :: rest).Pairwise fun a b => a.temperature < b.temperature)
    (reached : p.temperature ≤ t) : curveAt (before ++ p :: rest) t = curveAt (p :: rest) t := by
  induction before with
  | nil => rfl
  | cons a before ih =>
    obtain ⟨first, later⟩ := List.pairwise_cons.mp rising
    cases before with
    | nil => exact curveAt_of_next_le ((first p (by simp)).trans_le reached) reached
    | cons b before =>
      have next : b.temperature < p.temperature := (List.pairwise_cons.mp later).1 p (by simp)
      have above : a.temperature < b.temperature := first b (by simp)
      exact (curveAt_of_next_le (by omega) (by omega)).trans (ih later)

/-! ### The bounds of the expected power (R169) -/

/-- The floor of a part of `a`, as `x` is to `d`, lies between any two integer bounds of 0 and `a`. -/
theorem fdiv_part_between {a x d low high : Int} (positive : 0 < d) (start : 0 ≤ x) (finish : x ≤ d)
    (lows : low ≤ 0 ∧ low ≤ a) (highs : 0 ≤ high ∧ a ≤ high) :
    low ≤ Int.fdiv (a * x) d ∧ Int.fdiv (a * x) d ≤ high := by
  rw [Int.fdiv_eq_ediv_of_nonneg _ positive.le]
  have above : low * d ≤ a * x :=
    calc low * d ≤ low * x := mul_le_mul_of_nonpos_left finish lows.1
      _ ≤ a * x := mul_le_mul_of_nonneg_right lows.2 start
  have below : a * x ≤ high * d :=
    calc a * x ≤ high * x := mul_le_mul_of_nonneg_right highs.2 start
      _ ≤ high * d := mul_le_mul_of_nonneg_left finish highs.1
  exact ⟨Int.le_ediv_of_mul_le positive above, Int.ediv_le_of_le_mul positive below⟩

/-- On a segment the power lies between those of its ends, on a rising one and on a falling one. -/
theorem Point.segment_between (above : p.temperature ≤ t) (below : t < q.temperature) :
    ((p.power : Int) ≤ p.segment q t ∧ p.segment q t ≤ q.power) ∨
      ((q.power : Int) ≤ p.segment q t ∧ p.segment q t ≤ p.power) := by
  have part {low high : Int} := fdiv_part_between (a := q.power - p.power) (x := t - p.temperature)
    (d := q.temperature - p.temperature) (low := low) (high := high) (by omega) (by omega) (by omega)
  unfold Point.segment
  obtain rises | falls := le_total (p.power : Int) q.power
  · have := part (low := 0) (high := q.power - p.power) (by omega) (by omega)
    omega
  · have := part (low := q.power - p.power) (high := 0) (by omega) (by omega)
    omega

/-- The expected power stays within the powers of the curve's points. -/
theorem curveAt_between (points : List Point) (t : Int) (nonempty : points ≠ []) :
    ∃ low ∈ points, ∃ high ∈ points, (low.power : Int) ≤ curveAt points t ∧ curveAt points t ≤ high.power := by
  induction points with
  | nil => exact absurd rfl nonempty
  | cons p rest ih =>
    by_cases low : t ≤ p.temperature
    · exact ⟨p, by simp, p, by simp, by simp [curveAt_of_le_first low]⟩
    cases rest with
    | nil => exact ⟨p, by simp, p, by simp, le_rfl, le_rfl⟩
    | cons q rest =>
      obtain below | reached := lt_or_ge t q.temperature
      · rw [curveAt_of_mem_segment (by omega) below]
        obtain rises | falls := Point.segment_between (p := p) (by omega) below
        · exact ⟨p, by simp, q, by simp, rises⟩
        · exact ⟨q, by simp, p, by simp, falls⟩
      · obtain ⟨least, least_mem, greatest, greatest_mem, bounds⟩ := ih (by simp)
        rw [curveAt_of_next_le (by omega) reached]
        exact ⟨least, .tail _ least_mem, greatest, .tail _ greatest_mem, bounds⟩

/-! ### The band when RAMP begins (R168 to R170) -/

theorem DerateRecord.begin_band (d : DerateRecord) (p : DerateParams) (b : SoakBlock) :
    (d.begin p b).band = some (bandAt p b.average) := rfl

theorem bandAt_tUsed (p : DerateParams) (t : Int) : (bandAt p t).tUsed = t := rfl

theorem bandAt_expected (p : DerateParams) (t : Int) : (bandAt p t).expected = (curveAt p.curve t).toNat := rfl

/-- Settles O60: a temperature's place among the points selects the piece, and `curveAt_append` leaves out the points
before it. -/
theorem curveIsPiecewiseLinear : Obligations.CurveIsPiecewiseLinear := by
  refine ⟨fun d p b => ?_, fun points t rising => ⟨?_, ?_, ?_, curveAt_between points t⟩⟩
  · rw [DerateRecord.begin_band, Option.map_some, Option.map_some, bandAt_tUsed, bandAt_expected]
    exact ⟨rfl, rfl⟩
  · rintro p rest rfl low
    exact curveAt_of_le_first low
  · rintro before p rfl reached
    exact curveAt_append rising reached
  · rintro before p q after rfl reached below
    exact (curveAt_append rising reached).trans (curveAt_of_mem_segment reached below)

end Sys2Proof.Machine
end

section
/-!
PROOF. The runs above a guard limit (R181): what one set makes of the three run counts, and what a row of sets above one
limit makes of that limit's count.
-/
namespace Sys2Proof.Machine

variable {s : State} {l : Limits}

/-- The part with these run counts in its guard unit. -/
def State.withRuns (s : State) (v i t : Nat) : State :=
  { s with guardUnit := { s.guardUnit with runVoltage := v, runCurrent := i, runTemperature := t } }

/-- Sets are examined against the limits `l`, and no run is in progress (R181). -/
structure State.monitored (s : State) (l : Limits) : Prop where
  effective : s.guardUnit.effective = some l
  closed : s.port.commandedClosed = true
  voltage : s.guardUnit.runVoltage = 0
  current : s.guardUnit.runCurrent = 0
  temperature : s.guardUnit.runTemperature = 0

/-! ### One monitor -/

theorem monitor_within (run needed : Nat) : monitor false run needed = (0, false) := rfl

theorem monitor_counts {run needed : Nat} (short : run + 1 < needed) : monitor true run needed = (run + 1, false) := by
  simp [monitor, Nat.not_le.mpr short]

theorem monitor_completes {run needed : Nat} (reached : run + 1 = needed) : monitor true run needed = (0, true) := by
  simp [monitor, reached]

/-! ### One set -/

theorem State.monitored.guardSet (h : s.monitored l) (v i t : Nat) (x : SampleSet) :
    (s.withRuns v i t).guardSet x =
      (completedRuns (monitor (decide (l.voltage < x.voltage)) v 4).2
        (monitor (decide (l.current * 21 / 20 < x.current)) i 4).2
        (monitor (decide (l.temperature < x.temperature)) t 64).2).foldl State.latchFault
        (s.withRuns (monitor (decide (l.voltage < x.voltage)) v 4).1
          (monitor (decide (l.current * 21 / 20 < x.current)) i 4).1
          (monitor (decide (l.temperature < x.temperature)) t 64).1) := by
  simp only [State.guardSet, State.withRuns, State.setGuardUnit, h.effective, h.closed, if_true]
  rfl

theorem State.monitored.noRuns (h : s.monitored l) : s.withRuns 0 0 0 = s := by
  calc s.withRuns 0 0 0
      = s.withRuns s.guardUnit.runVoltage s.guardUnit.runCurrent s.guardUnit.runTemperature := by
        rw [h.voltage, h.current, h.temperature]
    _ = s := rfl

/-- The set is above none of the limits. -/
def Limits.admits (l : Limits) (x : SampleSet) : Prop :=
  ¬ l.voltage < x.voltage ∧ ¬ l.current * 21 / 20 < x.current ∧ ¬ l.temperature < x.temperature

/-- A set within the limits ends every run. -/
theorem State.monitored.guardSet_admits (h : s.monitored l) {x : SampleSet} (low : l.admits x) (v i t : Nat) :
    (s.withRuns v i t).guardSet x = s := by
  obtain ⟨voltage, current, temperature⟩ := low
  rw [h.guardSet, decide_eq_false voltage, decide_eq_false current, decide_eq_false temperature]
  exact h.noRuns

/-! ### A row of sets -/

/-- The states `run n` are those of one run: each set `above` its limit takes one monitor on from `n`, whose completed
run latches `cause`, and a set within all limits ends the run (R181). -/
structure State.monitors (s : State) (l : Limits) (run : Nat → State) (needed : Nat) (cause : Cause)
    (above : SampleSet → Prop) : Prop where
  start : run 0 = s
  takes (n : Nat) {x : SampleSet} (high : above x) : (run n).guardSet x =
    (if (monitor true n needed).2 then [cause] else []).foldl State.latchFault (run (monitor true n needed).1)
  ends (n : Nat) {x : SampleSet} (low : l.admits x) : (run n).guardSet x = s

section

variable {run : Nat → State} {needed : Nat} {cause : Cause} {above : SampleSet → Prop}

theorem State.monitors.counts (h : s.monitors l run needed cause above) {n : Nat} {x : SampleSet} (high : above x)
    (short : n + 1 < needed) : (run n).guardSet x = run (n + 1) := by
  rw [h.takes n high, monitor_counts short]
  rfl

theorem State.monitors.completes (h : s.monitors l run needed cause above) {n : Nat} {x : SampleSet} (high : above x)
    (reached : n + 1 = needed) : (run n).guardSet x = s.latchFault cause := by
  rw [h.takes n high, monitor_completes reached, h.start]
  rfl

/-- A run in progress counts the sets above its limit. -/
theorem State.monitors.counted (h : s.monitors l run needed cause above) {sets : List SampleSet}
    (high : ∀ x ∈ sets, above x) {n : Nat} (short : n + sets.length < needed) :
    (run n).guardSets sets = run (n + sets.length) := by
  induction sets generalizing n with
  | nil => rfl
  | cons x rest ih =>
    rw [List.forall_mem_cons] at high
    rw [List.length_cons] at short ⊢
    calc (run n).guardSets (x :: rest)
        = ((run n).guardSet x).guardSets rest := rfl
      _ = (run (n + 1)).guardSets rest := by rw [h.counts high.1 (by omega)]
      _ = run (n + (rest.length + 1)) := by rw [ih high.2 (by omega), Nat.add_right_comm, Nat.add_assoc]

/-- Fewer sets than the run needs are counted, and a set within the limits ends the run; the last set needed latches. -/
theorem State.monitors.guardSets (h : s.monitors l run needed cause above) (sets : List SampleSet)
    (high : ∀ x ∈ sets, above x) :
    (sets.length < needed →
      s.guardSets sets = run sets.length ∧ ∀ x, l.admits x → (s.guardSets sets).guardSet x = s) ∧
    (sets.length = needed → 0 < needed → (s.guardSets sets).latchedFrom s cause) := by
  have counted {sets : List SampleSet} (high : ∀ x ∈ sets, above x) (short : sets.length < needed) :
      s.guardSets sets = run sets.length := by
    simpa [h.start] using h.counted (n := 0) high (by omega)
  refine ⟨fun short => ⟨counted high short, fun x low => ?_⟩, fun reached positive => ?_⟩
  · rw [counted high short]
    exact h.ends _ low
  · obtain ⟨before, x, rfl⟩ := (List.eq_nil_or_concat' sets).resolve_left (List.length_pos_iff.mp (by omega))
    rw [List.forall_mem_append, List.forall_mem_singleton] at high
    rw [List.length_append, List.length_singleton] at reached
    have latched : s.guardSets (before ++ [x]) = s.latchFault cause := by
      calc s.guardSets (before ++ [x])
          = (s.guardSets before).guardSet x := List.foldl_append ..
        _ = (run before.length).guardSet x := by rw [counted high.1 (by omega)]
        _ = s.latchFault cause := h.completes high.2 reached
    rw [latched]
    exact State.latchFault_latchedFrom s cause

end

/-! ### The three monitors -/

section

variable (h : s.monitored l)
include h

theorem State.monitored.overVoltage : s.monitors l
    (fun n => { s with guardUnit := { s.guardUnit with runVoltage := n } }) 4 .guardV
    (fun x => l.voltage < x.voltage ∧ ¬ l.current * 21 / 20 < x.current ∧ ¬ l.temperature < x.temperature) := by
  have run (n : Nat) : { s with guardUnit := { s.guardUnit with runVoltage := n } } = s.withRuns n 0 0 := by
    simp only [State.withRuns, h.current, h.temperature]
  simp only [run]
  refine ⟨h.noRuns, fun n x ⟨high, little, cool⟩ => ?_, fun n x low => h.guardSet_admits low _ _ _⟩
  rw [h.guardSet, decide_eq_true high, decide_eq_false little, decide_eq_false cool]
  simp [completedRuns, monitor_within]

theorem State.monitored.overCurrent : s.monitors l
    (fun n => { s with guardUnit := { s.guardUnit with runCurrent := n } }) 4 .guardI
    (fun x => ¬ l.voltage < x.voltage ∧ l.current * 21 / 20 < x.current ∧ ¬ l.temperature < x.temperature) := by
  have run (n : Nat) : { s with guardUnit := { s.guardUnit with runCurrent := n } } = s.withRuns 0 n 0 := by
    simp only [State.withRuns, h.voltage, h.temperature]
  simp only [run]
  refine ⟨h.noRuns, fun n x ⟨low, much, cool⟩ => ?_, fun n x low => h.guardSet_admits low _ _ _⟩
  rw [h.guardSet, decide_eq_false low, decide_eq_true much, decide_eq_false cool]
  simp [completedRuns, monitor_within]

theorem State.monitored.overTemperature : s.monitors l
    (fun n => { s with guardUnit := { s.guardUnit with runTemperature := n } }) 64 .guardT
    (fun x => ¬ l.voltage < x.voltage ∧ ¬ l.current * 21 / 20 < x.current ∧ l.temperature < x.temperature) := by
  have run (n : Nat) : { s with guardUnit := { s.guardUnit with runTemperature := n } } = s.withRuns 0 0 n := by
    simp only [State.withRuns, h.voltage, h.current]
  simp only [run]
  refine ⟨h.noRuns, fun n x ⟨low, little, hot⟩ => ?_, fun n x low => h.guardSet_admits low _ _ _⟩
  rw [h.guardSet, decide_eq_false low, decide_eq_false little, decide_eq_true hot]
  simp [completedRuns, monitor_within]

end

/-- Settles O42: each limit's monitor counts on its own, and the other two counts stay 0. -/
theorem guardRunLatches : Obligations.GuardRunLatches := by
  intro s l sets effective closed _ voltage current temperature
  have h : s.monitored l := ⟨effective, closed, voltage, current, temperature⟩
  refine ⟨fun high => ?_, fun much => ?_, fun hot => ?_⟩
  · obtain ⟨short, latches⟩ := h.overVoltage.guardSets sets high
    exact ⟨short, fun reached => latches reached (by omega)⟩
  · obtain ⟨short, latches⟩ := h.overCurrent.guardSets sets much
    exact ⟨short, fun reached => latches reached (by omega)⟩
  · obtain ⟨short, latches⟩ := h.overTemperature.guardSets sets hot
    exact ⟨short, fun reached => latches reached (by omega)⟩

end Sys2Proof.Machine
end

section
/-!
PROOF. CLEAR_FAULT (R184): refused without a fault and while the first cause stands, and otherwise the latch released
and what stands latched anew. Several faults latched one after another are counted behind the first (R183).
-/
namespace Sys2Proof.Machine

variable {s t : State} {f : Frame} {cause : Cause}

/-! ### Faults latched one after another (R183) -/

/-- Behind a latched cause faults are counted, the cause and the hold stay. -/
theorem State.latchFaults_counted (latched : s.guardUnit.latch = some cause) (causes : List Cause)
    (fits : s.guardUnit.further + causes.length ≤ 255) :
    (causes.foldl State.latchFault s).guardUnit.latch = some cause ∧
    (causes.foldl State.latchFault s).guardUnit.further = s.guardUnit.further + causes.length ∧
    (causes.foldl State.latchFault s).port.hold = s.port.hold := by
  induction causes generalizing s with
  | nil => exact ⟨latched, rfl, rfl⟩
  | cons c rest ih =>
    obtain ⟨latch, further, _⟩ := s.latchFault_latchedFrom c
    rw [List.length_cons] at fits ⊢
    rw [latched] at latch
    rw [latched, if_neg (by simp), Nat.min_eq_left (by omega)] at further
    have hold : (s.latchFault c).port.hold = s.port.hold := by simp [State.latchFault, latched]
    obtain ⟨latch', further', hold'⟩ := ih latch (by omega)
    exact ⟨latch', by rw [List.foldl_cons, further', further]; omega, hold'.trans hold⟩

/-- With the latch clear the first fault takes it, with the hold, and the others are counted. -/
theorem State.latchFaults_fresh (clear : s.guardUnit.latch = none) (uncounted : s.guardUnit.further = 0)
    (free : s.port.hold = false) (causes : List Cause) (fits : causes.length ≤ 256) :
    (causes.foldl State.latchFault s).guardUnit.latch = causes.head? ∧
    (causes.foldl State.latchFault s).guardUnit.further = causes.length - 1 ∧
    (causes.foldl State.latchFault s).port.hold = !causes.isEmpty := by
  cases causes with
  | nil => exact ⟨clear, uncounted, free⟩
  | cons first rest =>
    obtain ⟨latch, further, holds⟩ := s.latchFault_latchedFrom first
    rw [clear] at latch
    rw [if_pos clear] at further
    rw [List.length_cons] at fits
    obtain ⟨latch', further', hold'⟩ := State.latchFaults_counted (s := s.latchFault first) latch rest (by omega)
    exact ⟨latch', by rw [List.foldl_cons, further', further]; simp, hold'.trans (holds clear).1⟩

/-! ### What stands (R184) -/

theorem State.standingConditions_eq (s : State) : s.standingConditions =
    (if s.port.estop = true then [Cause.estop] else []) ++
      ((if s.port.samplesPresent = true then [] else [Cause.samplesLost]) ++
        (if s.port.unanswered = true then [Cause.loadStageSilent] else [])) := by
  simp only [State.standingConditions, List.filter, State.conditionStands]
  cases s.port.estop <;> cases s.port.samplesPresent <;> cases s.port.unanswered <;> rfl

theorem State.unlatched_latch (s : State) : s.unlatched.guardUnit.latch = none ∧
    s.unlatched.guardUnit.further = 0 ∧ s.unlatched.port.hold = false := ⟨rfl, rfl, rfl⟩

/-- The start examined and the hold released leave what stands as it was. -/
theorem State.standingConditions_unlatched (s : State) :
    s.unlatched.examineStart.standingConditions = s.standingConditions := by
  have unanswered : s.unlatched.examineStart.port.unanswered = s.port.unanswered := by
    simp [State.unlatched, Port.unanswered]
  rw [State.standingConditions_eq, unanswered, State.standingConditions_eq]
  simp [State.unlatched]

theorem State.standingConditions_length_le (s : State) : s.standingConditions.length ≤ 3 :=
  List.length_filter_le _ _

/-- What an accepted CLEAR_FAULT leaves of latch, count and hold (R184). -/
theorem State.clearLatch_latches (s : State) :
    s.clearLatch = s.standingConditions.foldl State.latchFault s.unlatched.examineStart ∧
    s.clearLatch.guardUnit.latch = s.standingConditions.head? ∧
    s.clearLatch.guardUnit.further = s.standingConditions.length - 1 ∧
    s.clearLatch.port.hold = !s.standingConditions.isEmpty := by
  have whole : s.clearLatch = s.standingConditions.foldl State.latchFault s.unlatched.examineStart := by
    rw [← s.standingConditions_unlatched]
    rfl
  have few := s.standingConditions_length_le
  rw [whole]
  obtain ⟨latch, further, hold⟩ := s.unlatched_latch
  exact ⟨rfl, State.latchFaults_fresh (by simpa using latch) (by simpa using further) (by simpa using hold) _
    (by omega)⟩

/-! ### The request -/

section

variable (passes : s.requestFails f = none)
include passes

theorem State.takeClearFault_noFault (clear : s.guardUnit.latch = none) :
    s.takeClearFault f = s.refusing .guardUnit f 12 255 := by
  simp only [State.takeClearFault, passes, clear]
  exact State.refuse_eq_refusing _ _ _ .noFault _

theorem State.takeClearFault_persists (latched : s.guardUnit.latch = some cause)
    (stands : s.conditionStands cause = true) : s.takeClearFault f = s.refusing .guardUnit f 11 255 := by
  simp only [State.takeClearFault, passes, latched, stands, if_true]
  exact State.refuse_eq_refusing _ _ _ .faultPersists _

theorem State.takeClearFault_accepts (latched : s.guardUnit.latch = some cause)
    (ended : s.conditionStands cause = false) :
    s.takeClearFault f = s.clearLatch.replyStatus .guardUnit f.source := by
  simp only [State.takeClearFault, passes, latched, ended]
  rfl

end

/-- Settles O38: what the request comes to by the latch and by what stands. -/
theorem clearFaultRules : Obligations.ClearFaultRules := by
  intro s h rest hh passes f s1 silent hot stands standing cleared
  have fails : s1.requestFails f = none := State.requestFails_of_passes passes rest
  have taken : exec .clearFault s = .next (s1.takeClearFault f) := exec_of_handing (c := .clearFault) rfl hh
  have heat : s1.tooHot = hot := by
    show s.tooHot = hot
    unfold State.tooHot hot
    cases s.port.last <;> cases s.guardUnit.effective <;> rfl
  have same (cause : Cause) : s1.conditionStands cause = stands cause := by
    cases cause
    case guardT => exact heat
    all_goals rfl
  rw [taken]
  refine ⟨fun clear => ?_, fun cause latched still => ?_, fun cause latched ended => ?_⟩
  · rw [State.takeClearFault_noFault fails clear]
  · rw [State.takeClearFault_persists fails latched ((same cause).trans still)]
  · rw [State.takeClearFault_accepts fails latched ((same cause).trans ended)]
    have latches := s1.clearLatch_latches
    rw [State.standingConditions_eq s1] at latches
    exact ⟨_, rfl, latches⟩

end Sys2Proof.Machine
end

section
/-!
PROOF. What every command but CLEAR_FAULT and POWER_RESET keeps of the fault latch: the first cause, and the count of
further faults, which only rises (R183). A fault is latched by the guard unit alone; the rest of the part leaves latch
and count as they are, which its frame lemmas say.
-/
namespace Sys2Proof.Machine

variable {s t u : State} {c : Instr}

/-! ### The relation -/

/-- A cause latched in `s` is latched in `t`, with as many further faults or more, up to the top of the count. -/
def State.keepsLatch (s t : State) : Prop :=
  ∀ cause, s.guardUnit.latch = some cause → s.guardUnit.further ≤ Config.counterTop →
    t.guardUnit.latch = some cause ∧ s.guardUnit.further ≤ t.guardUnit.further ∧
    t.guardUnit.further ≤ Config.counterTop

namespace State.keepsLatch

/-- An operation that leaves latch and count alone, as its frame lemma says. -/
theorem of_same (latch : t.guardUnit.latch = s.guardUnit.latch := by simp)
    (further : t.guardUnit.further = s.guardUnit.further := by simp) : s.keepsLatch t :=
  fun _ latched fits => ⟨latch.trans latched, further.ge, further.trans_le fits⟩

theorem refl (s : State) : s.keepsLatch s := of_same rfl rfl

theorem trans (h : s.keepsLatch t) (h' : t.keepsLatch u) : s.keepsLatch u := fun cause latched fits =>
  have ⟨latch, rises, top⟩ := h cause latched fits
  have ⟨latch', rises', top'⟩ := h' cause latch top
  ⟨latch', rises.trans rises', top'⟩

/-- A state with the latch and count of `s` keeps them for `s`. -/
theorem after (h : t.keepsLatch u) (latch : t.guardUnit.latch = s.guardUnit.latch := by simp)
    (further : t.guardUnit.further = s.guardUnit.further := by simp) : s.keepsLatch u :=
  (of_same latch further).trans h

end State.keepsLatch

/-! ### The guard unit and what the port offers it -/

/-- A fault reported while one is latched is counted, up to the top of the count. -/
theorem State.keepsLatch_of_latchedFrom {cause : Cause} (h : t.latchedFrom s cause) : s.keepsLatch t := by
  intro first latched fits
  obtain ⟨latch, further, _⟩ := h
  rw [latched] at latch further
  rw [if_neg (by simp)] at further
  rw [Config.counterTop] at *
  exact ⟨latch, by omega, by omega⟩

theorem State.latchFault_keepsLatch (s : State) (cause : Cause) : s.keepsLatch (s.latchFault cause) :=
  State.keepsLatch_of_latchedFrom (s.latchFault_latchedFrom cause)

theorem State.latchFaults_keepsLatch (s : State) (causes : List Cause) :
    s.keepsLatch (causes.foldl State.latchFault s) := by
  induction causes generalizing s with
  | nil => exact .refl s
  | cons cause rest ih => exact (s.latchFault_keepsLatch cause).trans (ih _)

theorem State.guardSet_keepsLatch (s : State) (x : SampleSet) : s.keepsLatch (s.guardSet x) := by
  unfold State.guardSet
  split
  · exact .refl s
  · split
    · exact (State.latchFaults_keepsLatch _ _).after rfl rfl
    · exact .refl s

/-- Of the three blocks that a set is offered to, the guard unit alone latches. -/
theorem State.offerSet_keepsLatch (s : State) (x : SampleSet) (order : SetOrder) :
    s.keepsLatch (s.offerSet x order) := by
  have engine (u : State) : u.keepsLatch (u.engineSet x) := .of_same
  have headroom (u : State) : u.keepsLatch (u.headroomSet x) := .of_same
  cases order with
  | guardFirst => exact ((s.guardSet_keepsLatch x).trans (engine _)).trans (headroom _)
  | engineFirst => exact ((engine s).trans (State.guardSet_keepsLatch _ x)).trans (headroom _)

/-! ### Requests and announcements -/

/-- A frame handed on has left the silo, and what is made of it keeps the latch. -/
theorem handedOn_keepsLatch {cls kind : Nat} {take : Heard → State → State}
    (hc : takesFrame c = some (cls, kind, take)) (ht : exec c s = .next t)
    (hk : ∀ h (u : State), u.keepsLatch (take h u)) : s.keepsLatch t := by
  obtain rfl | ⟨h, u, hh, rfl⟩ := exec_takesFrame hc ht
  · exact .refl _
  · obtain ⟨rest, _, rfl⟩ := State.handOn_taking hh
    exact (hk h _).after rfl rfl

theorem State.answerSlot_keepsLatch (s : State) (f : Frame) (n : Fin 8) : s.keepsLatch (s.answerSlot f n) := by
  unfold State.answerSlot
  split <;> exact .of_same

theorem State.takePart_keepsLatch (s : State) (f : Frame) : s.keepsLatch (s.takePart f) := by
  unfold State.takePart State.takeOwnPart State.validateSlot
  dsimp only
  (repeat' split) <;> exact .of_same

theorem State.takeCancel_keepsLatch (s : State) (f : Frame) : s.keepsLatch (s.takeCancel f) := by
  unfold State.takeCancel
  split
  · exact .of_same
  · split
    · unfold State.cancelSlot
      split
      case h_1 | h_2 => exact .of_same
      case h_3 => split; exacts [(State.answerSlot_keepsLatch _ _ _).after, .of_same]
      case h_4 | h_5 => exact (State.answerSlot_keepsLatch _ _ _).after
    · unfold State.cancelAll
      dsimp only
      (repeat' split) <;> exact .of_same

theorem State.takeBayReset_keepsLatch (s : State) (f : Frame) : s.keepsLatch (s.takeBayReset f) := by
  unfold State.takeBayReset
  split
  · exact .of_same
  · exact .of_same (by simp [State.markReset]) (by simp [State.markReset])

/-! ### The other commands -/

theorem State.silence_keepsLatch (s : State) : s.keepsLatch s.silence := by
  unfold State.silence
  dsimp only
  split
  · exact .of_same (by simp [State.goOffLine]) (by simp [State.goOffLine])
  · exact .of_same rfl rfl

theorem State.reportFailed_keepsLatch (s : State) (e : Entry) : s.keepsLatch (s.reportFailed e) := by
  unfold State.reportFailed
  split
  · exact .of_same
  · exact .refl s

theorem execSendCollision_keepsLatch (ht : execSendCollision s = .next t) : s.keepsLatch t := by
  cases ht
  split
  · exact .refl s
  case h_2 _ e _ =>
    dsimp only
    split
    · exact (State.silence_keepsLatch _).after rfl rfl
    · exact (State.reportFailed_keepsLatch _ e).after

theorem State.reportCompleted_keepsLatch (s : State) (e : Entry) (order : Word) :
    s.keepsLatch (s.reportCompleted e order) := by
  unfold State.reportCompleted
  dsimp only
  (repeat' split) <;> exact .of_same

theorem State.answerDiffers_keepsLatch (s : State) (sp : Setpoint) : s.keepsLatch (s.answerDiffers sp) :=
  State.keepsLatch_of_latchedFrom (s.answerDiffers_latchedFrom sp)

theorem execSetpointAcknowledgement_keepsLatch {v : Nat} (ht : execSetpointAcknowledgement v s = .next t) :
    s.keepsLatch t := by
  cases on : s.port.onPort with
  | none =>
    rw [execSetpointAcknowledgement_unasked on] at ht
    cases ht
    exact s.latchFault_keepsLatch _
  | some o =>
    by_cases agrees : v = o.setpoint.value
    · subst agrees
      rw [execSetpointAcknowledgement_matches on] at ht
      cases ht
      exact .of_same (by simp [State.withApplied]) (by simp [State.withApplied])
    · rw [execSetpointAcknowledgement_differs on agrees] at ht
      cases ht
      exact (State.answerDiffers_keepsLatch _ _).after rfl rfl

theorem execSampleSetArrival_keepsLatch {r : ReportedSet} {order : SetOrder}
    (ht : execSampleSetArrival r order s = .next t) : s.keepsLatch t := by
  cases ht
  split
  · refine State.keepsLatch.trans ?_ (State.offerSet_keepsLatch _ _ _)
    split <;> exact .of_same
  · exact .refl s

theorem exec_keepsLatch (clears : c ≠ .clearFault) (resets : ∀ straps, c ≠ .powerReset straps)
    (ht : exec c s = .next t) : s.keepsLatch t := by
  have stays : s.keepsLatch s := .refl s
  have latches (p : Port) (cause : Cause) : s.keepsLatch ((s.setPort p).latchFault cause) :=
    (State.latchFault_keepsLatch _ cause).after rfl rfl
  cases c with
  | clearFault => exact absurd rfl clears
  | powerReset straps => exact absurd rfl (resets straps)
  | frameSent =>
    obtain ⟨_, rfl⟩ | ⟨_, e, _, rfl⟩ := execFrameSent_cases ht
    · exact stays
    · exact (State.reportCompleted_keepsLatch _ _ _).after rfl rfl
  | sendCollision => exact execSendCollision_keepsLatch ht
  | joinTimerExpiry =>
    obtain rfl | ⟨_, rfl⟩ := execJoinTimerExpiry_cases ht
    · exact stays
    · exact .of_same (by simp [State.joined]) (by simp [State.joined])
  | frameReceived stamp bits =>
    obtain ⟨rfl, _⟩ | ⟨start, f, _, _, rfl⟩ := execFrameReceived_cases ht
    · exact stays
    · unfold State.hearFrame State.siloFrame
      dsimp only
      (repeat' split) <;> exact .of_same
  | shed =>
    refine handedOn_keepsLatch rfl ht fun h u => ?_
    split <;> exact .of_same
  | ask | hold | drop =>
    refine handedOn_keepsLatch rfl ht fun h u => ?_
    unfold State.takeClaim
    (repeat' split) <;> exact .of_same
  | openSlot =>
    refine handedOn_keepsLatch rfl ht fun h u => ?_
    unfold State.takeOpen
    (repeat' split) <;> exact .of_same
  | part => exact handedOn_keepsLatch rfl ht fun h u => u.takePart_keepsLatch h.frame
  | cancel => exact handedOn_keepsLatch rfl ht fun h u => u.takeCancel_keepsLatch h.frame
  | clear =>
    refine handedOn_keepsLatch rfl ht fun h u => ?_
    unfold State.takeClear
    (repeat' split) <;> exact .of_same
  | fetch =>
    refine handedOn_keepsLatch rfl ht fun h u => ?_
    unfold State.takeFetch State.fetchResult
    (repeat' split) <;> exact .of_same
  | status =>
    refine handedOn_keepsLatch rfl ht fun h u => ?_
    unfold State.takeStatus
    split <;> exact .of_same
  | tighten =>
    refine handedOn_keepsLatch rfl ht fun h u => ?_
    unfold State.takeTighten
    (repeat' split) <;> exact .of_same
  | bayReset => exact handedOn_keepsLatch rfl ht fun h u => u.takeBayReset_keepsLatch h.frame
  | contestDecision =>
    cases ht
    unfold State.grantContest State.yieldContest
    (repeat' split) <;> exact .of_same
  | sampleSetArrival reported order => exact execSampleSetArrival_keepsLatch ht
  | sampleWatchdogExpiry => cases ht; split; exacts [latches _ _, stays]
  | setpointAcknowledgement v => exact execSetpointAcknowledgement_keepsLatch ht
  | acknowledgementTimerExpiry =>
    cases ht
    split
    · exact stays
    · split; exacts [latches _ _, stays]
  | emergencyStopChange level =>
    cases ht
    split
    · exact stays
    · dsimp only; split; exacts [latches _ _, .of_same rfl rfl]
  | offTimeTimerExpiry =>
    cases ht
    unfold State.offTimeOver
    dsimp only
    (repeat' split) <;> exact .of_same
  | recoverWaitTimerExpiry =>
    cases ht
    split
    · exact (State.latchFault_keepsLatch _ _).after
    · exact stays
  | arbitrationLost => cases ht; split; exacts [stays, (State.reportFailed_keepsLatch _ _).after]
  | stationTimeTick => cases ht; exact .of_same rfl rfl
  | configReadComplete record =>
    obtain rfl | ⟨_, rfl | rfl | rfl⟩ := execConfigReadComplete_cases ht <;> exact .of_same rfl rfl
  | configReadNotAcknowledged =>
    obtain rfl | ⟨_, rfl⟩ := execConfigReadNotAcknowledged_cases ht <;> exact .of_same rfl rfl
  | configReadTimeout => obtain rfl | ⟨_, rfl⟩ := execConfigReadTimeout_cases ht <;> exact .of_same rfl rfl
  | loopedFrameReceived bits =>
    obtain rfl | ⟨_, rfl | rfl⟩ := execLoopedFrameReceived_cases ht <;> exact .of_same rfl rfl
  | selfLoopTimeout => obtain rfl | ⟨_, rfl⟩ := execSelfLoopTimeout_cases ht <;> exact .of_same rfl rfl
  | transmitStart | receivedInError | abortRunSeen | lineIdle | assemblyDeadlineExpiry
  | contestTimerExpiry | backoffTimerExpiry | refreshTimerExpiry | holdStaleTimerExpiry | peerEntryExpiry
  | reListenTimerExpiry | sampleReadBegin | writeBegin | writeEnd | startWaitTimerExpiry | restTimerExpiry
  | soakMaximumTimerExpiry | shedHoldTimerExpiry | timeOutTimerExpiry =>
    cases ht
    (repeat' split) <;> exact .of_same

/-- Settles O40: latched once, a cause is taken by CLEAR_FAULT and power reset alone. -/
theorem latchStays : Obligations.LatchStays := fun _ _ _ cause latched fits ht clears resets =>
  have ⟨latch, rises, _⟩ := exec_keepsLatch clears resets ht cause latched fits
  ⟨latch, rises⟩

end Sys2Proof.Machine
end

section
/-!
PROOF. Every command completes: no arm of the opcode table faults or refuses, and the queue of waiting commands is a
field that no operation of the part writes, POWER_RESET included (log 1, log 2). The operations that the frame lemmas
of the model leave out come first, then one lemma for the commands of the silo, then the table.
-/
namespace Sys2Proof.Machine

variable (s : State)

/-! ### Requests and announcements (R32, R63, R180) -/

@[simp] theorem State.takeClaim_pending (h : Heard) (apply : Nat × Nat × Nat → List Peer → List Peer) :
    (s.takeClaim h apply).pending = s.pending := by
  unfold State.takeClaim
  (repeat' split) <;> simp

@[simp] theorem State.takeOpen_pending (h : Heard) : (s.takeOpen h).pending = s.pending := by
  unfold State.takeOpen
  (repeat' split) <;> simp

@[simp] theorem State.validateSlot_pending (f : Frame) (n : Fin 8) (head : SlotHead) (parts : List (List Byte)) :
    (s.validateSlot f n head parts).pending = s.pending := by
  unfold State.validateSlot
  split <;> simp

@[simp] theorem State.takeOwnPart_pending (f : Frame) (n : Fin 8) (head : SlotHead) (expected : Nat)
    (parts : List (List Byte)) (deadline : Word) :
    (s.takeOwnPart f n head expected parts deadline).pending = s.pending := by
  unfold State.takeOwnPart
  dsimp only
  (repeat' split) <;> simp

@[simp] theorem State.takePart_pending (f : Frame) : (s.takePart f).pending = s.pending := by
  unfold State.takePart
  (repeat' split) <;> simp

@[simp] theorem State.answerSlot_pending (f : Frame) (n : Fin 8) : (s.answerSlot f n).pending = s.pending := by
  unfold State.answerSlot
  split <;> simp

@[simp] theorem State.cancelSlot_pending (f : Frame) (n : Fin 8) : (s.cancelSlot f n).pending = s.pending := by
  unfold State.cancelSlot
  (repeat' split) <;> simp

@[simp] theorem State.cancelAll_pending : s.cancelAll.pending = s.pending := by
  unfold State.cancelAll
  dsimp only
  split <;> simp

@[simp] theorem State.takeCancel_pending (f : Frame) : (s.takeCancel f).pending = s.pending := by
  unfold State.takeCancel
  (repeat' split) <;> simp

@[simp] theorem State.takeClear_pending (f : Frame) : (s.takeClear f).pending = s.pending := by
  unfold State.takeClear
  (repeat' split) <;> simp

@[simp] theorem State.fetchResult_pending (f : Frame) (n : Fin 8) (h : SlotHead) (w : Work) (r : ResultRecord) :
    (s.fetchResult f n h w r).pending = s.pending := by
  unfold State.fetchResult
  dsimp only
  split <;> simp

@[simp] theorem State.takeFetch_pending (f : Frame) : (s.takeFetch f).pending = s.pending := by
  unfold State.takeFetch
  (repeat' split) <;> simp

@[simp] theorem State.takeStatus_pending (f : Frame) : (s.takeStatus f).pending = s.pending := by
  unfold State.takeStatus
  split <;> simp

@[simp] theorem State.takeTighten_pending (f : Frame) : (s.takeTighten f).pending = s.pending := by
  unfold State.takeTighten
  dsimp only
  (repeat' split) <;> simp

@[simp] theorem State.takeClearFault_pending (f : Frame) : (s.takeClearFault f).pending = s.pending := by
  unfold State.takeClearFault
  (repeat' split) <;> simp

@[simp] theorem State.takeBayReset_pending (f : Frame) : (s.takeBayReset f).pending = s.pending := by
  unfold State.takeBayReset
  split <;> simp [State.markReset]

/-! ### Start-up and power reset (R3 to R11) -/

@[simp] theorem State.goOffLine_pending (fault : StationFault) : (s.goOffLine fault).pending = s.pending := rfl
@[simp] theorem State.degrade_pending (fault : StationFault) : (s.degrade fault).pending = s.pending := rfl
@[simp] theorem State.takeConfig_pending (record : List Byte) : (s.takeConfig record).pending = s.pending := rfl
@[simp] theorem State.enterJoining_pending : s.enterJoining.pending = s.pending := rfl
@[simp] theorem State.joined_pending : s.joined.pending = s.pending := rfl

/-- Power reset hands the waiting commands on to the reset state (log 2). -/
@[simp] theorem State.strapped_pending (straps : Address) : (s.strapped straps).pending = s.pending := by
  unfold State.strapped State.takeStraps
  split <;> rfl

/-! ### The bay line (R13, R23, R28, R30) -/

@[simp] theorem State.silence_pending : s.silence.pending = s.pending := by
  unfold State.silence
  dsimp only
  split <;> simp

@[simp] theorem State.reportFailed_pending (e : Entry) : (s.reportFailed e).pending = s.pending := by
  unfold State.reportFailed
  split <;> simp

@[simp] theorem State.reportCompleted_pending (e : Entry) (order : Word) :
    (s.reportCompleted e order).pending = s.pending := by
  unfold State.reportCompleted
  dsimp only
  (repeat' split) <;> simp

@[simp] theorem State.siloFrame_pending (h : Heard) : (s.siloFrame h).pending = s.pending := by
  unfold State.siloFrame
  dsimp only
  split <;> simp

@[simp] theorem State.hearFrame_pending (f : Frame) (stamp : Word) : (s.hearFrame f stamp).pending = s.pending := by
  unfold State.hearFrame
  dsimp only
  split <;> simp

/-! ### The contest and the off-time (R49, R50, R136) -/

@[simp] theorem State.grantContest_pending (amount : Nat) : (s.grantContest amount).pending = s.pending := by
  simp [State.grantContest]

@[simp] theorem State.yieldContest_pending : s.yieldContest.pending = s.pending := by
  simp [State.yieldContest]

@[simp] theorem State.offTimeOver_pending (c : Check) : (s.offTimeOver c).pending = s.pending := by
  unfold State.offTimeOver
  dsimp only
  (repeat' split) <;> simp

/-! ### The opcode table -/

variable {s} {t : State}

/-- No command faults, and none is refused (log 1). -/
theorem exec_completes (c : Instr) (s : State) : ∃ t, exec c s = .next t := by
  cases c <;> exact ⟨_, rfl⟩

/-- A frame handed on leaves the silo and no more (R32), so what is made of it decides. -/
theorem handedOn_pending {c : Instr} {cls kind : Nat} {take : Heard → State → State}
    (hc : takesFrame c = some (cls, kind, take)) (ht : exec c s = .next t)
    (hk : ∀ h (u : State), (take h u).pending = u.pending) : t.pending = s.pending := by
  obtain rfl | ⟨h, u, hh, rfl⟩ := exec_takesFrame hc ht
  · rfl
  · obtain ⟨rest, _, rfl⟩ := State.handOn_taking hh
    simp [hk]

theorem State.takeShed_pending (s : State) (order : Word) :
    (if s.station.builds then s.shedEvent order else s).pending = s.pending := by
  split <;> simp

theorem execPowerReset_pending {straps : Address} (ht : execPowerReset straps s = .next t) :
    t.pending = s.pending := by
  cases ht
  change (if _ then (s.strapped straps).latchFault _ else s.strapped straps).pending = _
  split <;> simp

/-- No command touches the commands that wait (log 2). -/
theorem exec_pending {c : Instr} (ht : exec c s = .next t) : t.pending = s.pending := by
  cases c with
  | powerReset straps => exact execPowerReset_pending ht
  | stationTimeTick => cases ht; simp
  | configReadComplete record =>
    obtain rfl | ⟨_, rfl | rfl | rfl⟩ := execConfigReadComplete_cases ht <;> simp
  | configReadNotAcknowledged => obtain rfl | ⟨_, rfl⟩ := execConfigReadNotAcknowledged_cases ht <;> simp
  | configReadTimeout => obtain rfl | ⟨_, rfl⟩ := execConfigReadTimeout_cases ht <;> simp
  | loopedFrameReceived bits => obtain rfl | ⟨_, rfl | rfl⟩ := execLoopedFrameReceived_cases ht <;> simp
  | selfLoopTimeout => obtain rfl | ⟨_, rfl⟩ := execSelfLoopTimeout_cases ht <;> simp
  | joinTimerExpiry => obtain rfl | ⟨_, rfl⟩ := execJoinTimerExpiry_cases ht <;> simp
  | frameSent => obtain ⟨_, rfl⟩ | ⟨_, e, _, rfl⟩ := execFrameSent_cases ht <;> simp
  | frameReceived stamp bits => obtain ⟨rfl, _⟩ | ⟨_, f, _, _, rfl⟩ := execFrameReceived_cases ht <;> simp
  | shed => exact handedOn_pending rfl ht fun h u => u.takeShed_pending h.order
  | ask | hold | drop => exact handedOn_pending rfl ht fun h u => u.takeClaim_pending h _
  | openSlot => exact handedOn_pending rfl ht fun h u => u.takeOpen_pending h
  | part => exact handedOn_pending rfl ht fun h u => u.takePart_pending h.frame
  | cancel => exact handedOn_pending rfl ht fun h u => u.takeCancel_pending h.frame
  | clear => exact handedOn_pending rfl ht fun h u => u.takeClear_pending h.frame
  | fetch => exact handedOn_pending rfl ht fun h u => u.takeFetch_pending h.frame
  | status => exact handedOn_pending rfl ht fun h u => u.takeStatus_pending h.frame
  | tighten => exact handedOn_pending rfl ht fun h u => u.takeTighten_pending h.frame
  | clearFault => exact handedOn_pending rfl ht fun h u => u.takeClearFault_pending h.frame
  | bayReset => exact handedOn_pending rfl ht fun h u => u.takeBayReset_pending h.frame
  | sendCollision | sampleSetArrival | setpointAcknowledgement | emergencyStopChange | timeOutTimerExpiry =>
    cases ht
    dsimp only
    (repeat' split) <;> simp
  | transmitStart | arbitrationLost | receivedInError | abortRunSeen | lineIdle | assemblyDeadlineExpiry
  | contestTimerExpiry | contestDecision | backoffTimerExpiry | refreshTimerExpiry | holdStaleTimerExpiry
  | peerEntryExpiry | reListenTimerExpiry | sampleReadBegin | sampleWatchdogExpiry | writeBegin | writeEnd
  | acknowledgementTimerExpiry | startWaitTimerExpiry | restTimerExpiry | soakMaximumTimerExpiry
  | shedHoldTimerExpiry | offTimeTimerExpiry | recoverWaitTimerExpiry =>
    cases ht
    (repeat' split) <;> simp

/-- Settles O2: an arm of the table answers a next state, and no operation writes the queue. -/
theorem everyCommandCompletes : Obligations.EveryCommandCompletes := fun c s =>
  have ⟨t, ht⟩ := exec_completes c s
  ⟨t, ht, exec_pending ht⟩

/-- Settles O1: on a queue with a front command, a step is that command with the queue's rest waiting. -/
theorem stepTakesFrontCommand : Obligations.StepTakesFrontCommand := fun _ _ _ => rfl

end Sys2Proof.Machine
end

section
/-!
PROOF. OPEN and the assembly deadline (R62, R67, R71).
-/

-- Elaborated one after the other: side by side these proofs ask for more threads than the check has memory for.
set_option Elab.async false

namespace Sys2Proof.Machine

variable {s : State} {h : Heard} {n : Fin 8}

/-! ### The tests of OPEN, in R67's order -/

theorem State.openFails_degraded (degraded : s.station = .degraded) (f : Frame) :
    s.openFails n f = some .notReady := by
  simp [State.openFails, degraded]

theorem State.openFails_busy (ready : s.station ≠ .degraded) (busy : s.slotTable.slot n ≠ .vacant) (f : Frame) :
    s.openFails n f = some .slotBusy := by
  simp [State.openFails, ready, busy]

theorem State.openFails_kindless (ready : s.station ≠ .degraded) (vacant : s.slotTable.slot n = .vacant) {f : Frame}
    (code : CheckKind.ofCode (byteAt f.payload 1) = none) : s.openFails n f = some .badKind := by
  simp [State.openFails, ready, vacant, code]

theorem State.openFails_kind (ready : s.station ≠ .degraded) (vacant : s.slotTable.slot n = .vacant) {f : Frame}
    {kind : CheckKind} (code : CheckKind.ofCode (byteAt f.payload 1) = some kind) :
    s.openFails n f =
      if byteAt f.payload 2 ≤ 3 ∧ kind.admitsParts (byteAt f.payload 3) = true then none else some .badParam := by
  unfold State.openFails
  by_cases priority : byteAt f.payload 2 ≤ 3
  · simp [ready, vacant, code, priority]
  · simp [ready, vacant, code, priority, Nat.lt_of_not_le priority]

/-- An OPEN that passes every test finds its slot VACANT. -/
theorem State.vacant_of_opens {f : Frame} (passes : s.openFails n f = none) : s.slotTable.slot n = .vacant := by
  have ready : s.station ≠ .degraded := fun degraded => by
    rw [State.openFails_degraded degraded] at passes
    cases passes
  by_contra busy
  rw [State.openFails_busy ready busy] at passes
  cases passes

/-! ### What an OPEN does -/

/-- The part with the assembly of slot `n` begun (R62, R67). -/
def State.withOpened (s : State) (h : Heard) (n : Fin 8) (kind : CheckKind) : State :=
  s.setSlotTable { s.slotTable.put n (openedSlot h kind (s.slotTable.arrival + 1)) with
    arrival := s.slotTable.arrival + 1 }

theorem State.takeOpen_refused (passes : s.requestFails h.frame = none) (named : requestSlot h.frame = some n)
    {r : Reason} (fails : s.openFails n h.frame = some r) :
    s.takeOpen h = s.refusing .slotTable h.frame r.code 255 := by
  simp only [State.takeOpen, passes, named, fails]
  exact s.refuse_eq_refusing _ _ _ _

/-- A VACANT slot is opened for a kind of check with a priority and a number of parts that suit it (R67). -/
theorem State.takeOpen_kind (passes : s.requestFails h.frame = none) (named : requestSlot h.frame = some n)
    (ready : s.station ≠ .degraded) (vacant : s.slotTable.slot n = .vacant) {kind : CheckKind}
    (code : CheckKind.ofCode (byteAt h.frame.payload 1) = some kind) :
    s.takeOpen h =
      if byteAt h.frame.payload 2 ≤ 3 ∧ kind.admitsParts (byteAt h.frame.payload 3) = true then s.withOpened h n kind
      else s.refusing .slotTable h.frame 6 255 := by
  have tests := State.openFails_kind ready vacant code
  split at tests
  case isTrue suits => simp only [State.takeOpen, passes, named, tests, code, if_pos suits]; rfl
  case isFalse unfit => rw [if_neg unfit]; exact State.takeOpen_refused passes named tests

theorem CheckKind.admitsParts_trip {kind : CheckKind} (trip : kind ≠ .derate) (parts : Nat) :
    kind.admitsParts parts = true ↔ parts = 3 := by
  cases kind <;> simp [CheckKind.admitsParts] at trip ⊢

theorem CheckKind.admitsParts_derate (parts : Nat) :
    CheckKind.derate.admitsParts parts = true ↔ 5 ≤ parts ∧ parts ≤ 12 := by
  simp [CheckKind.admitsParts]

theorem CheckKind.ofCode_none {code : Nat} (h1 : code ≠ 1) (h2 : code ≠ 2) (h3 : code ≠ 3) :
    CheckKind.ofCode code = none := by
  unfold CheckKind.ofCode
  split
  exacts [absurd rfl h1, absurd rfl h2, absurd rfl h3, rfl]

/-! ### The assembly deadline (R71) -/

theorem execAssemblyDeadlineExpiry_assembling {head : SlotHead} {expected : Nat} {parts : List (List Byte)}
    {deadline : Word} (assembling : s.slotTable.slot n = .assembling head expected parts deadline) :
    execAssemblyDeadlineExpiry n s = .next
      (if reached s.time deadline = true then
        (s.withVacated n).offerReplies .slotTable [s.deadlineRefuse n head.owner] else s) := by
  simp only [execAssemblyDeadlineExpiry, assembling, State.vacate_eq_withVacated]

/-- Settles O28: the first of R67's tests that fails refuses the OPEN, else the assembly begins; its deadline ends it. -/
theorem openAndDeadline : Obligations.OpenAndDeadline := by
  refine ⟨fun s h rest n hh passes named => ?_, fun s n head expected parts deadline assembling => ?_⟩
  · intro f s1 parts opened
    have first : s1.requestFails h.frame = none := State.requestFails_of_passes passes rest
    have slot : requestSlot h.frame = some n := requestSlot_of_number named
    rw [exec_of_handing (c := .openSlot) rfl hh]
    congr 1
    show s1.takeOpen h = _
    by_cases degraded : s.station = .degraded
    · rw [if_pos degraded]
      exact State.takeOpen_refused first slot (State.openFails_degraded (s := s1) degraded _)
    rw [if_neg degraded]
    by_cases busy : s.slotTable.slot n ≠ .vacant
    · rw [if_pos busy]
      exact State.takeOpen_refused first slot (State.openFails_busy (s := s1) degraded busy _)
    rw [if_neg busy]
    have vacant := not_not.mp busy
    have takes {kind : CheckKind} (code : CheckKind.ofCode (byteAt f.payload 1) = some kind) :=
      State.takeOpen_kind (s := s1) first slot degraded vacant code
    split
    case h_1 code | h_2 code =>
      rw [takes (by rw [code]; rfl)]
      simp only [CheckKind.admitsParts_trip, ne_eq, reduceCtorEq, not_false_eq_true]
      rfl
    case h_3 code =>
      rw [takes (by rw [code]; rfl)]
      simp only [CheckKind.admitsParts_derate]
      rfl
    case h_4 h1 h2 h3 =>
      exact State.takeOpen_refused first slot
        (State.openFails_kindless (s := s1) degraded vacant (CheckKind.ofCode_none h1 h2 h3))
  · exact execAssemblyDeadlineExpiry_assembling assembling

end Sys2Proof.Machine
end

section
/-!
PROOF. PART: what is stored, what breaks an assembly off, what the last PART validates, and where the slot enters the
start queue (R68 to R70, R73 to R75).
-/

-- Elaborated one after the other: side by side these proofs ask for more threads than the check has memory for.
set_option Elab.async false

namespace Sys2Proof.Machine

variable {s : State} {f : Frame} {n : Fin 8} {head : SlotHead} {expected : Nat} {parts : List (List Byte)}
  {deadline : Word}

/-! ### A PART by the state of its slot -/

/-- Another station's assembly takes no PART (R70). -/
theorem State.takePart_stranger (passes : s.requestFails f = none) (named : requestSlot f = some n)
    (assembling : s.slotTable.slot n = .assembling head expected parts deadline) (stranger : head.owner ≠ f.source) :
    s.takePart f = s.refusing .slotTable f 3 255 := by
  simp only [State.takePart, passes, named, assembling, beq_false_of_ne stranger]
  exact s.refuse_eq_refusing _ _ _ _

theorem State.takePart_owner (passes : s.requestFails f = none) (named : requestSlot f = some n)
    (assembling : s.slotTable.slot n = .assembling head expected parts deadline) (owner : head.owner = f.source) :
    s.takePart f = s.takeOwnPart f n head expected parts deadline := by
  simp only [State.takePart, passes, named, assembling, owner, beq_self_eq_true, if_true]

/-- A PART out of its order breaks the assembly off (R69). -/
theorem State.takeOwnPart_breaks (skipped : byteAt f.payload 1 ≠ parts.length) :
    s.takeOwnPart f n head expected parts deadline = (s.withVacated n).refusing .slotTable f 7 parts.length := by
  simp only [State.takeOwnPart, beq_false_of_ne skipped, State.vacate_eq_withVacated]
  exact (s.withVacated n).refuse_eq_refusing _ _ _ _

/-- A PART in its order is stored until the last (R68). -/
theorem State.takeOwnPart_stores (next : byteAt f.payload 1 = parts.length) (more : parts.length + 1 < expected) :
    s.takeOwnPart f n head expected parts deadline =
      s.withSlot n (.assembling head expected (parts ++ [f.payload.drop 2]) deadline) := by
  unfold State.takeOwnPart
  rw [if_pos (by simp [next])]
  exact if_pos (by simpa using more)

theorem State.takeOwnPart_last (next : byteAt f.payload 1 = parts.length) (last : expected ≤ parts.length + 1) :
    s.takeOwnPart f n head expected parts deadline = s.validateSlot f n head (parts ++ [f.payload.drop 2]) := by
  unfold State.takeOwnPart
  rw [if_pos (by simp [next])]
  exact if_neg (by simpa using last)

/-- Settles O29: the slot's state, its owner and the part's index decide. -/
theorem partStoresOrBreaks : Obligations.PartStoresOrBreaks := by
  intro s h rest n hh passes named f s1
  have first : s1.requestFails f = none := State.requestFails_of_passes passes rest
  have slot : requestSlot f = some n := requestSlot_of_number named
  have same : s1.slotTable.slot n = s.slotTable.slot n := rfl
  have taken : exec .part s = .next (s1.takePart f) := exec_of_handing (c := .part) rfl hh
  cases held : s.slotTable.slot n with
  | assembling head expected parts deadline =>
    rw [taken]
    refine ⟨fun stranger => ?_, fun owner skipped => ?_, fun owner next more => ?_⟩
    · rw [State.takePart_stranger first slot (same.trans held) stranger]
    · rw [State.takePart_owner first slot (same.trans held) owner, State.takeOwnPart_breaks skipped]
    · rw [State.takePart_owner first slot (same.trans held) owner, State.takeOwnPart_stores next more]
  | _ =>
    rw [taken]
    simp only [State.takePart, first, slot, same, held]
    exact next_refuse _ _ _

/-! ### The place in the start queue (R62, R74) -/

/-- The order of the start queue, as it is said of a slot that is to hold `head`. -/
theorem State.precedes_iff_goesBefore {m : Fin 8} {work : Work} (other : n ≠ m) :
    (s.slotTable.put n (.held head work)).precedes s.config.startOrder n m = true ↔ s.goesBefore n head m := by
  refine ⟨State.goesBefore_of_precedes other, fun goes => ?_⟩
  have own : (s.slotTable.put n (.held head work)).startKey n = (head.priority, head.arrival) := by
    unfold SlotTable.startKey
    rw [SlotTable.slot_put_self]; rfl
  have key : (s.slotTable.put n (.held head work)).startKey m = s.slotTable.startKey m := by
    unfold SlotTable.startKey
    rw [SlotTable.slot_put_ne _ other]
  unfold State.goesBefore at goes
  unfold SlotTable.precedes
  rw [own, key]
  generalize s.config.startOrder = order at goes ⊢
  generalize s.slotTable.startKey m = waiting at goes ⊢
  obtain ⟨priority, arrival⟩ := waiting
  cases order with
  | slotNumber => simpa using goes
  | priorityThenArrival =>
    obtain less | ⟨same, sooner | ⟨late, lower⟩⟩ := goes
    · simp [Nat.ne_of_lt less, less]
    · simp [same, sooner]
    · simp [same, late, lower]

/-! ### The last PART (R73 to R75) -/

theorem State.validateSlot_refused {reason : Reason} {detail : Nat}
    (outcome : validate s.config s.effectiveCurrent head.kind parts = .refused reason detail) :
    s.validateSlot f n head parts = (s.withVacated n).refusing .slotTable f reason.code detail := by
  simp only [State.validateSlot, outcome, State.vacate_eq_withVacated, State.refuse_eq_refusing]

theorem State.validateSlot_held {work : Work}
    (outcome : validate s.config s.effectiveCurrent head.kind parts = .held work) :
    s.validateSlot f n head parts = (s.queued f n head work).examineStart := by
  simp only [State.validateSlot, outcome]
  rfl

/-- Settles O30: the validation decides, and a slot that passes enters the queue before the first slot it precedes. -/
theorem lastPartValidates : Obligations.LastPartValidates := by
  intro s h rest n head expected parts deadline hh passes named assembling owner next last s1
  have slot : requestSlot h.frame = some n := requestSlot_of_number named
  have taken : exec .part s = .next (s1.validateSlot h.frame n head (parts ++ [h.frame.payload.drop 2])) := by
    rw [exec_of_handing (c := .part) rfl hh,
      State.takePart_owner (State.requestFails_of_passes passes rest) slot assembling owner,
      State.takeOwnPart_last next last]
  rw [taken]
  cases outcome : validate s.config s.effectiveCurrent head.kind (parts ++ [h.frame.payload.drop 2]) with
  | refused reason detail => rw [State.validateSlot_refused (s := s1) outcome]
  | held work =>
    obtain ⟨before, after, whole, placed, behind, ahead⟩ := enqueueSlot_place
      ((s.slotTable.put n (.held head work)).precedes s.config.startOrder) n s.slotTable.queue
    refine ⟨before, after, whole, fun fresh => ⟨fun m hm goes => ?_, fun m hm => ?_⟩, ?_⟩
    · have other : n ≠ m := by rintro rfl; exact fresh (whole ▸ List.mem_append_left _ hm)
      exact absurd ((State.precedes_iff_goesBefore other).mpr goes) (by rw [behind m hm]; decide)
    · have other : n ≠ m := by
        rintro rfl
        exact fresh (whole ▸ List.mem_append_right _ (List.mem_of_mem_head? hm))
      exact (State.precedes_iff_goesBefore other).mp (ahead m hm)
    · rw [State.validateSlot_held (s := s1) outcome, ← placed]
      rfl

end Sys2Proof.Machine
end

section
/-!
PROOF. CANCEL of one slot and of all slots (R64, R72, R77 to R79, R138).
-/

-- Elaborated one after the other: side by side these proofs ask for more threads than the check has memory for.
set_option Elab.async false

namespace Sys2Proof.Machine

variable {s t : State} {f : Frame} {n : Fin 8}

/-! ### The order to the engine (R78, R138) -/

/-- What the order to cancel makes of the part: an abort where the phase takes it, and nothing in SETTLE, in RECOVER
and in an abort that has not this cause of its own (R138, R141). -/
theorem State.orderAbort_cancelled (s : State) :
    (s.engine.phase.abortable = true →
      s.orderAbort .cancelled =
        { s with engine := (s.orderAbort .cancelled).engine, port := s.port.writeDrop } ∧
      (s.orderAbort .cancelled).engine.phase = .aborting ∧
      (s.orderAbort .cancelled).engine.cause = some .cancelled ∧
      (s.orderAbort .cancelled).engine.noResult = false ∧
      (s.orderAbort .cancelled).engine.check = s.engine.check) ∧
    (s.engine.phase = .settle ∨ s.engine.phase = .recover ∨
      s.engine.phase = .aborting ∧ s.engine.selfCause ≠ some .cancelled → s.orderAbort .cancelled = s) := by
  refine ⟨fun abortable => ?_, fun unheeded => ?_⟩
  · obtain ⟨whole, phase, cause, result, check, _⟩ := s.orderAbort_abortable .cancelled abortable nofun
    exact ⟨whole, phase, cause, result, check⟩
  · obtain settle | recover | ⟨aborting, other⟩ := unheeded
    · simp [State.orderAbort, settle]
    · simp [State.orderAbort, recover]
    · simp [State.orderAbort, aborting, State.secondCause, other, Cause.latching]

/-! ### CANCEL of all slots (R79) -/

/-- The part with every HELD slot vacated and the start queue emptied (R79). -/
def State.heldVacated (s : State) : State :=
  s.setSlotTable { s.slotTable with
    slots := s.slotTable.slots.map (fun x => if x.isHeld then .vacant else x), queue := [] }

theorem State.heldVacated_slot (s : State) (n : Fin 8) :
    s.heldVacated.slotTable.slot n =
      if (s.slotTable.slot n).isHeld = true then .vacant else s.slotTable.slot n :=
  Vector.getElem_map _ n.isLt

theorem SlotTable.any_isActive_iff (x : SlotTable) :
    x.slots.any Slot.isActive = true ↔ ∃ n : Fin 8, (x.slot n).isActive = true := by
  rw [Vector.any_eq_true]
  exact ⟨fun ⟨i, hi, active⟩ => ⟨⟨i, hi⟩, active⟩, fun ⟨n, active⟩ => ⟨n.val, n.isLt, active⟩⟩

theorem State.cancelAll_active (active : ∃ n : Fin 8, (s.slotTable.slot n).isActive = true) :
    s.cancelAll = s.heldVacated.orderAbort .cancelled :=
  if_pos (s.slotTable.any_isActive_iff.mpr active)

theorem State.cancelAll_inactive (inactive : ∀ n : Fin 8, (s.slotTable.slot n).isActive = false) :
    s.cancelAll = s.heldVacated :=
  if_neg fun any => by
    obtain ⟨n, active⟩ := s.slotTable.any_isActive_iff.mp any
    rw [inactive n] at active
    cases active

/-! ### The obligation -/

theorem State.takeCancel_slot (passes : s.requestFails f = none) (named : byteAt f.payload 0 = n.val) :
    s.takeCancel f = s.cancelSlot f n := by
  simp only [State.takeCancel, passes, requestSlot_of_number named]

theorem State.takeCancel_all (passes : s.requestFails f = none) (all : byteAt f.payload 0 = 15)
    (stations : f.target = 63) : s.takeCancel f = s.cancelAll := by
  have every : (f.target == Config.allStations && byteAt f.payload 0 == Config.allSlots) = true := by
    simp [all, stations, Config.allStations, Config.allSlots]
  simp only [State.takeCancel, passes, requestSlot_none (f := f) (by omega), every, if_true]

theorem State.answerSlot_eq (s : State) (f : Frame) (n : Fin 8) :
    s.answerSlot f n = if f.target = 63 then s else s.replySlot f.source n := by
  simp [State.answerSlot, Config.allStations]

/-- Settles O32: the slot's state decides what a CANCEL vacates, and the engine's phase what its order aborts. -/
theorem cancelRules : Obligations.CancelRules := by
  intro s h rest hh passes f s1 answered cancelled
  have first : s1.requestFails f = none := State.requestFails_of_passes passes rest
  have taken : exec .cancel s = .next (s1.takeCancel f) := exec_of_handing (c := .cancel) rfl hh
  have ordered (u : State) : cancelled u (u.orderAbort .cancelled) := u.orderAbort_cancelled
  rw [taken]
  refine ⟨fun n named => ?_, fun all stations => ?_⟩
  · have same : s1.slotTable.slot n = s.slotTable.slot n := rfl
    rw [State.takeCancel_slot first named]
    unfold State.cancelSlot
    rw [same]
    cases held : s.slotTable.slot n with
    | vacant | done => exact next_refuse _ _ _
    | assembling head expected parts deadline =>
      dsimp only
      by_cases own : head.owner = f.source
      · simp only [own, beq_self_eq_true, if_true, State.answerSlot_eq, State.vacate_eq_withVacated]
        rfl
      · simp only [own, beq_false_of_ne own, Bool.false_eq_true, if_false]
        exact next_refuse _ _ _
    | held head work => simp only [State.answerSlot_eq, State.vacate_eq_withVacated]; rfl
    | active head work =>
      refine ⟨s1.orderAbort .cancelled, ?_, ordered s1⟩
      simp only [State.answerSlot_eq]
      rfl
  · rw [State.takeCancel_all first all stations]
    refine ⟨s1.heldVacated, s1.cancelAll, rfl, rfl, s1.heldVacated_slot, State.cancelAll_inactive (s := s1), fun active => ?_⟩
    rw [State.cancelAll_active (s := s1) active]
    exact ordered _

end Sys2Proof.Machine
end

section
/-!
PROOF. Start queue, HELD slots and the ACTIVE slot under the shared operations: a check goes on with its slot, ends with
no slot ACTIVE, or starts with the queue's head (R74 to R76, R84, R85, R124). One lemma for each operation, in the order
of Machine/.
-/

-- Elaborated one after the other: side by side these proofs ask for more threads than the check has memory for.
set_option Elab.async false

namespace Sys2Proof.Machine

/-! ### The form by its parts -/

/-- What the form of the slots says, part by part (R74, R75, R124). -/
structure State.slotsFit (s : State) : Prop where
  nodup : s.slotTable.queue.Nodup
  queued : ∀ n, n ∈ s.slotTable.queue ↔ (s.slotTable.slot n).isHeld = true
  active : ∀ n, (s.slotTable.slot n).isActive = true →
    s.engine.phase ≠ .idle ∧ s.engine.check.map Check.slot = some n

/-- The slots fit, and none is ACTIVE. -/
structure State.slotsWait (s : State) : Prop where
  fit : s.slotsFit
  inactive : ∀ n, (s.slotTable.slot n).isActive = false

variable {s t : State}

theorem State.slotForm_iff_fit : s.slotForm ↔ s.slotsFit :=
  ⟨fun ⟨nodup, queued, active⟩ => ⟨nodup, queued, active⟩, fun h => ⟨h.nodup, h.queued, h.active⟩⟩

/-- An idle engine has no ACTIVE slot beside it (R75). -/
theorem State.slotsFit.waits (h : s.slotsFit) (idle : s.engine.phase = .idle) : s.slotsWait :=
  ⟨h, fun n => Bool.eq_false_iff.mpr fun active => (h.active n active).1 idle⟩

/-- While no slot is ACTIVE the form does not speak of the engine. -/
theorem State.slotsWait.of_slots (h : s.slotsWait) (slots : t.slotTable = s.slotTable := by simp) : t.slotsWait :=
  ⟨⟨by rw [slots]; exact h.fit.nodup, fun n => by rw [slots]; exact h.fit.queued n,
    fun n active => by rw [slots, h.inactive n] at active; cases active⟩, fun n => by rw [slots]; exact h.inactive n⟩

namespace State.slotsFit

/-- An operation that leaves slots and check, and does not enter IDLE. -/
theorem same (h : s.slotsFit) (slots : t.slotTable = s.slotTable := by simp)
    (check : t.engine.check = s.engine.check := by simp)
    (phase : t.engine.phase = .idle → s.engine.phase = .idle := by simp) : t.slotsFit where
  nodup := by rw [slots]; exact h.nodup
  queued n := by rw [slots]; exact h.queued n
  active n active := by
    rw [slots] at active
    obtain ⟨runs, own⟩ := h.active n active
    exact ⟨runs ∘ phase, by rw [check]; exact own⟩

theorem setEngine (h : s.slotsFit) (e : Engine) (check : e.check = s.engine.check := by simp)
    (phase : e.phase = .idle → s.engine.phase = .idle := by simp) : (s.setEngine e).slotsFit := h.same rfl check phase

/-! ### Slots replaced -/

/-- A slot that is not HELD replaced by one that is neither HELD nor ACTIVE. -/
theorem putSlot (h : s.slotsFit) (n : Fin 8) {x : Slot} (old : (s.slotTable.slot n).isHeld = false)
    (held : x.isHeld = false) (active : x.isActive = false) : (s.putSlot n x).slotsFit where
  nodup := h.nodup
  queued m := by
    by_cases hm : n = m
    · subst hm
      have put : (s.putSlot n x).slotTable.slot n = x := SlotTable.slot_put_self _ _ _
      rw [put, held, ← old]
      exact h.queued n
    · have kept : (s.putSlot n x).slotTable.slot m = s.slotTable.slot m := SlotTable.slot_put_ne x hm
      rw [kept]
      exact h.queued m
  active m hm := h.active m (State.startsNone.putSlot s n active m hm)

/-- A slot vacated loses its place in the queue with it (R77). -/
theorem vacate (h : s.slotsFit) (n : Fin 8) : (s.vacate n).slotsFit where
  nodup := h.nodup.filter _
  queued m := by
    have place : m ∈ (s.vacate n).slotTable.queue ↔ m ∈ s.slotTable.queue ∧ m ≠ n := by
      simp [State.vacate, dequeueSlot]
    rw [place, h.queued m]
    by_cases hm : n = m
    · subst hm
      have put : (s.vacate n).slotTable.slot n = .vacant := SlotTable.slot_put_self _ _ _
      simp [put, Slot.isHeld]
    · have kept : (s.vacate n).slotTable.slot m = s.slotTable.slot m := SlotTable.slot_put_ne _ hm
      simp [kept, Ne.symm hm]
  active m hm := h.active m (State.startsNone.vacate s n m hm)

/-- Slots changed one by one into slots that are HELD or ACTIVE as they were. -/
theorem mapSlots (h : s.slotsFit) {f : Slot → Slot} (held : ∀ x, (f x).isHeld = x.isHeld)
    (active : ∀ x, (f x).isActive = x.isActive) :
    (s.setSlotTable { s.slotTable with slots := s.slotTable.slots.map f }).slotsFit := by
  have mapped (n : Fin 8) : ({ s.slotTable with slots := s.slotTable.slots.map f } : SlotTable).slot n =
      f (s.slotTable.slot n) := by
    simp only [SlotTable.slot, Fin.getElem_fin, Vector.getElem_map]
  refine ⟨h.nodup, fun n => ?_, fun n hn => h.active n ?_⟩
  · simp only [State.setSlotTable_slotTable, mapped, held]
    exact h.queued n
  · simpa only [State.setSlotTable_slotTable, mapped, active] using hn

/-- Slots changed one by one with the queue emptied: no slot is left HELD, and none becomes ACTIVE. -/
theorem emptied (h : s.slotsFit) {f : Slot → Slot} (held : ∀ x, (f x).isHeld = false)
    (active : ∀ x, (f x).isActive = true → x.isActive = true) :
    (s.setSlotTable { s.slotTable with slots := s.slotTable.slots.map f, queue := [] }).slotsFit := by
  have mapped (n : Fin 8) : ({ s.slotTable with slots := s.slotTable.slots.map f, queue := [] } : SlotTable).slot n =
      f (s.slotTable.slot n) := by
    simp only [SlotTable.slot, Fin.getElem_fin, Vector.getElem_map]
  refine ⟨List.nodup_nil, fun n => ?_, fun n hn => h.active n ?_⟩
  · simp [mapped, held]
  · simp only [State.setSlotTable_slotTable, mapped] at hn
    exact active _ hn

theorem releaseLocks (h : s.slotsFit) (hits : Nat → Bool) : (s.releaseLocks hits).slotsFit := by
  refine h.mapSlots (f := Slot.release hits) (fun x => ?_) (fun x => ?_)
  all_goals
    unfold Slot.release
    split
    · split <;> rfl
    · rfl

/-! ### The start (R74, R75, R125) -/

/-- A validated slot enters the queue once, which it was not in (R74). -/
theorem enqueue (h : s.slotsFit) {n : Fin 8} (old : (s.slotTable.slot n).isHeld = false) (f : Frame) (head : SlotHead)
    (work : Work) : (s.queued f n head work).slotsFit := by
  obtain ⟨slots, engine, _⟩ := s.queued_frame f n head work
  generalize s.queued f n head work = t at slots engine
  have outside : n ∉ s.slotTable.queue := fun hn => by rw [(h.queued n).mp hn] at old; cases old
  obtain ⟨before, after, whole, placed, _⟩ :=
    enqueueSlot_place ((s.slotTable.put n (.held head work)).precedes s.config.startOrder) n s.slotTable.queue
  have perm : t.slotTable.queue.Perm (n :: s.slotTable.queue) := by
    rw [slots]
    refine (List.Perm.of_eq placed).trans ?_
    rw [whole]
    exact List.perm_middle
  have other {m : Fin 8} (hm : n ≠ m) : t.slotTable.slot m = s.slotTable.slot m := by
    rw [slots]; exact SlotTable.slot_put_ne _ hm
  have own : t.slotTable.slot n = .held head work := by rw [slots]; exact SlotTable.slot_put_self _ _ _
  refine ⟨perm.nodup_iff.mpr (List.nodup_cons.mpr ⟨outside, h.nodup⟩), fun m => ?_, fun m hm => ?_⟩
  · rw [perm.mem_iff, List.mem_cons]
    by_cases hm : n = m
    · subst hm; simp [own, Slot.isHeld]
    · rw [other hm, h.queued m]; simp [Ne.symm hm]
  · by_cases hn : n = m
    · subst hn; rw [own] at hm; cases hm
    · rw [engine]; exact h.active m (other hn ▸ hm)

theorem withdrawNeed (h : s.slotsFit) : s.withdrawNeed.slotsFit := h.same

theorem dropCarry (h : s.slotsFit) : s.dropCarry.slotsFit := by
  unfold State.dropCarry
  split
  · exact (h.setEngine { s.engine with carry := false }).withdrawNeed
  · exact h

/-- The head of the queue starts with no other slot ACTIVE, and the engine takes it over (R75, R125). -/
theorem examineStart (h : s.slotsFit) : s.examineStart.slotsFit := by
  unfold State.examineStart
  split
  case h_1 => exact h
  case h_2 n head work found =>
    obtain ⟨may, _, held⟩ := State.startable_held found
    obtain ⟨idle, _⟩ := s.mayStart_iff.mp may
    have vacated := h.vacate n
    generalize hu : s.setSlotTable { s.slotTable.put n (.active head work) with
      queue := dequeueSlot n s.slotTable.queue } = u
    have queue : u.slotTable.queue = (s.vacate n).slotTable.queue := by rw [← hu]; rfl
    have own : u.slotTable.slot n = .active head work := by rw [← hu]; exact SlotTable.slot_put_self _ _ _
    have other {m : Fin 8} (hm : n ≠ m) : u.slotTable.slot m = (s.vacate n).slotTable.slot m := by
      rw [← hu]; exact (SlotTable.slot_put_ne _ hm).trans (SlotTable.slot_put_ne _ hm).symm
    have slots : (u.handOver n head work).slotTable = u.slotTable := by simp
    refine ⟨?_, fun m => ?_, fun m hm => ?_⟩
    · rw [slots, queue]; exact vacated.nodup
    · rw [slots, queue, vacated.queued m]
      by_cases hm : n = m
      · subst hm
        have gone : (s.vacate n).slotTable.slot n = .vacant := SlotTable.slot_put_self _ _ _
        simp [own, gone, Slot.isHeld]
      · rw [other hm]
    · rw [slots] at hm
      by_cases hn : n = m
      · subst hn
        rw [State.handOver_check]
        exact ⟨by obtain quiet | aborting := State.handOver_phase u n head work <;> simp [*], rfl⟩
      · rw [other hn] at hm
        exact absurd idle (vacated.active m hm).1

/-! ### The end of a check (R76, R124, R137, R140) -/

/-- Once the check's slot is no longer ACTIVE, no slot is. -/
theorem waitsOver (h : s.slotsFit) (ended : s.checkOver s) : s.slotsWait :=
  ⟨h, fun n => Bool.eq_false_iff.mpr fun active => by
    obtain ⟨c, hc, rfl⟩ := Option.map_eq_some_iff.mp (h.active n active).2
    rw [ended c hc] at active
    cases active⟩

theorem handBack (h : s.slotsFit) (r : ResultRecord) : (s.handBack r).slotsWait := by
  refine State.slotsFit.waitsOver ?_ (by simpa [State.checkOver] using (s.handBack_follows r).2)
  unfold State.handBack State.slotDone
  split
  · exact h
  · split
    case h_1 c _ _ head work active =>
      have done := h.putSlot c.slot (x := .done head work r none) (by rw [active]; rfl) rfl rfl
      exact done.same
    case h_2 => exact h

theorem vacateActive (h : s.slotsFit) : s.vacateActive.slotsWait := by
  refine State.slotsFit.waitsOver ?_ (by simpa [State.checkOver] using s.vacateActive_follows.2)
  unfold State.vacateActive
  split
  · exact h
  case h_2 c _ =>
    split
    case isTrue active =>
      refine h.putSlot _ ?_ rfl rfl
      cases hs : s.slotTable.slot c.slot with
      | held head work => rw [hs] at active; cases active
      | _ => rfl
    case isFalse => exact h

theorem reportIdle (h : s.slotsFit) : s.reportIdle.slotsFit := by
  have completed : s.completeReset.slotsFit := h.same
  unfold State.reportIdle
  dsimp only
  split
  · exact completed.examineStart
  · exact completed.dropCarry

end State.slotsFit

theorem State.slotsWait.finishCheck (h : s.slotsWait) (carry : Bool) : (s.finishCheck carry).slotsFit := by
  have ended : ((s.setEngine { Engine.reset with carry := carry }).setPort { s.port with ceiling := 0 }).slotsWait :=
    h.of_slots rfl
  exact ended.fit.reportIdle

namespace State.slotsFit

theorem release (h : s.slotsFit) : s.release.slotsFit := by
  have left : (s.setEngine (s.engine.leaveClaiming s.time)).slotsFit := h.setEngine _
  unfold State.release
  dsimp only
  refine State.slotsWait.finishCheck (State.slotsFit.handBack ?_ _) _
  split
  · exact left
  · exact left.withdrawNeed

theorem notRun (h : s.slotsFit) (cause : Cause) : (s.notRun cause).slotsFit := (h.setEngine _).release

theorem requestOpen (h : s.slotsFit) : s.requestOpen.slotsFit := h.same

theorem finishAbort (h : s.slotsFit) (mismatched : Bool) : (s.finishAbort mismatched).slotsFit := by
  have opened : (if s.engine.abortOpens mismatched then s.requestOpen else s).slotsFit := by
    split
    · exact h.requestOpen
    · exact h
  unfold State.finishAbort
  generalize (if s.engine.abortOpens mismatched then s.requestOpen else s) = u at opened
  refine State.slotsWait.finishCheck ?_ _
  split
  · exact opened.withdrawNeed.vacateActive
  · exact opened.withdrawNeed.handBack _

/-! ### Aborts (R138 to R143) -/

theorem enterAbort (h : s.slotsFit) (cause : Option Cause) (noResult : Bool) :
    (s.enterAbort cause noResult).slotsFit := h.same (check := s.enterAbort_check cause noResult)

theorem beginAbort (h : s.slotsFit) (cause : Option Cause) (noResult : Bool) :
    (s.beginAbort cause noResult).slotsFit := by
  unfold State.beginAbort
  dsimp only
  split
  · exact (h.enterAbort _ _).finishAbort _
  · exact h.enterAbort _ _

theorem secondCause (h : s.slotsFit) (cause : Cause) : (s.secondCause cause).slotsFit := by
  unfold State.secondCause
  dsimp only
  split
  · exact h.setEngine _
  · split
    · exact h.setEngine _
    · split
      · split
        · exact (h.setEngine _).finishAbort _
        · exact h.setEngine _
      · exact h

theorem orderAbort (h : s.slotsFit) (cause : Cause) : (s.orderAbort cause).slotsFit := by
  unfold State.orderAbort
  split
  case h_12 => exact h.secondCause cause
  case h_1 => split; exacts [h.dropCarry, h]
  case h_9 | h_10 => split; exacts [h, h.beginAbort _ _]
  case h_11 => exact h
  all_goals exact h.beginAbort _ _

theorem resetEngine (h : s.slotsFit) : s.resetEngine.slotsFit := by
  unfold State.resetEngine
  split
  case h_1 => exact h.dropCarry.reportIdle
  case h_2 => exact h.setEngine _
  all_goals exact h.beginAbort _ _

theorem closeWasRefused (h : s.slotsFit) : s.closeWasRefused.slotsFit :=
  (h.enterAbort s.guardUnit.latch false).setEngine _

theorem quietContactor (h : s.slotsFit) : s.quietContactor.slotsFit := by
  unfold State.quietContactor
  split
  · exact h.setEngine _
  · split
    · exact h.closeWasRefused
    · exact h.same

/-! ### Loading (R129 to R135, R147, R152) -/

theorem writeSetpoint (h : s.slotsFit) (v : Nat) : (s.writeSetpoint v).slotsFit := h.same

theorem settle (h : s.slotsFit) (d : Determined) : (s.settle d).slotsFit := (h.setEngine _).writeSetpoint _

theorem beginRamp (h : s.slotsFit) (r : Ramp) : (s.beginRamp r).slotsFit := (h.setEngine _).writeSetpoint _

theorem beginPreload (h : s.slotsFit) (p : TimeParams) : (s.beginPreload p).slotsFit :=
  (h.setEngine _).writeSetpoint _

theorem granted (h : s.slotsFit) (atOnce : Bool) : (s.granted atOnce).slotsFit := by
  unfold State.granted
  split
  case h_1 c _ _ =>
    have claimed := h.setEngine { s.engine.leaveClaiming s.time with
      claimAmount := c.need, carried := s.engine.carried || (atOnce && c.params.isTrip) }
    dsimp only
    split
    · exact claimed.beginRamp _
    · exact claimed.beginPreload _
    · split
      · exact State.slotsFit.beginRamp (claimed.setEngine _) _
      · exact State.slotsFit.withdrawNeed (claimed.setEngine _)
  case h_2 => exact h

theorem enterClaiming (h : s.slotsFit) (c : Check) : (s.enterClaiming c).slotsFit := by
  have stated : ((s.setEngine { s.engine with
      phase := .claiming, claimingSince := s.time, carry := false }).stateNeed c.need c.priority).slotsFit := h.same
  unfold State.enterClaiming
  dsimp only
  split
  · exact stated.granted _
  · exact stated

theorem restShown (h : s.slotsFit) (c : Check) : (s.restShown c).slotsFit := by
  have shown := h.setEngine { s.engine with rest := none, restCount := 0 }
  unfold State.restShown
  dsimp only
  split
  · exact shown.setEngine _
  all_goals exact shown.enterClaiming _

/-! ### Shed events (R133, R134) -/

theorem engineShed (h : s.slotsFit) : s.engineShed.slotsFit := by
  unfold State.engineShed
  split
  case h_1 | h_2 | h_3 => split; exacts [(h.setEngine _).writeSetpoint _, h.beginAbort _ _]
  case h_4 => exact h.setEngine _
  all_goals exact h

theorem shedEvent (h : s.slotsFit) (order : Word) : (s.shedEvent order).slotsFit :=
  State.slotsFit.engineShed (h.same rfl rfl id)

theorem ownShed (h : s.slotsFit) (e : Entry) (order : Word) : (s.ownShed e order).slotsFit := by
  unfold State.ownShed
  split
  · exact h.engineShed
  · exact h.shedEvent _

/-! ### Sample sets (R127, R130, R148 to R158, R171 to R174) -/

theorem countRest (h : s.slotsFit) (c : Check) (x : SampleSet) : (s.countRest c x).slotsFit := by
  unfold State.countRest
  dsimp only
  generalize (if x.atRest s.config.nominalVoltage then s.engine.restCount + 1 else 0) = n
  split
  · exact h.restShown _
  · exact h.setEngine _

theorem quietSet (h : s.slotsFit) (c : Check) (x : SampleSet) : (s.quietSet c x).slotsFit := by
  unfold State.quietSet
  split
  · exact h
  · split
    · exact State.slotsFit.countRest (h.setEngine _) _ _
    · exact h
  · exact h.countRest _ _

theorem soakSet (h : s.slotsFit) (c : Check) (p : DerateParams) (x : SampleSet) : (s.soakSet c p x).slotsFit := by
  unfold State.soakSet
  split
  · exact h.requestOpen.notRun _
  · have soaked := h.setEngine { s.engine with derate := s.engine.derate.soak p x.temperature }
    dsimp only
    split
    · exact soaked.enterClaiming _
    · exact soaked

theorem planEnd (h : s.slotsFit) (d : Determined) : (s.planEnd d).slotsFit := by
  unfold State.planEnd
  split
  · exact h.settle _
  · exact h.setEngine _

theorem rampDwellEnd (h : s.slotsFit) (p : Params) (r : Ramp) : (s.rampDwellEnd p r).slotsFit := by
  unfold State.rampDwellEnd
  dsimp only
  split
  · exact (h.setEngine _).writeSetpoint _
  · exact State.slotsFit.planEnd (h.setEngine _) _

theorem countDwell (h : s.slotsFit) (length : Nat) {atEnd : State → State}
    (ends : ∀ u : State, u.slotsFit → (atEnd u).slotsFit) : (s.countDwell length atEnd).slotsFit := by
  have counted : s.dwellCounted.slotsFit := h.setEngine _
  obtain ⟨_, he⟩ | ⟨_, _, he⟩ | ⟨_, _, he⟩ := s.countDwell_cases length atEnd <;> rw [he]
  exacts [h, counted, ends _ counted]

theorem dwellSet (h : s.slotsFit) (p : Params) : (s.dwellSet p).slotsFit := by
  unfold State.dwellSet
  split
  case h_1 | h_2 => exact h.countDwell _ fun _ counted => counted.rampDwellEnd _ _
  case h_3 => exact h.countDwell _ fun _ counted => (counted.setEngine _).writeSetpoint _
  case h_4 => split; exacts [h.setEngine _, h]
  case h_5 => exact h

theorem runBroken (h : s.slotsFit) (p : Params) : (s.runBroken p).slotsFit := by
  have broken := h.setEngine { s.engine with
    runCount := 0, trip := { s.engine.trip with origin := none }
    derate := { s.engine.derate with origin := none } }
  unfold State.runBroken
  dsimp only
  split
  · exact broken.settle _
  · exact broken.dwellSet _

theorem collapseSet (h : s.slotsFit) (p : Params) (tail : TripTail) (before : Nat) (x : SampleSet) :
    (s.collapseSet p tail before x).slotsFit := by
  unfold State.collapseSet
  dsimp only
  split
  · split
    · exact h.settle _
    · exact State.slotsFit.dwellSet (h.setEngine _) _
  · exact h.runBroken _

theorem raisePower (h : s.slotsFit) (x : SampleSet) : (s.raisePower x).slotsFit := by
  unfold State.raisePower
  split
  · exact h.setEngine _
  · exact h

theorem foldSet (h : s.slotsFit) (p : DerateParams) (x : SampleSet) : (s.foldSet p x).slotsFit := by
  unfold State.foldSet
  dsimp only
  split
  · split
    · exact (h.raisePower x).settle _
    · exact State.slotsFit.dwellSet ((h.raisePower x).setEngine _) _
  · exact (h.raisePower x).runBroken _

theorem loadingSet (h : s.slotsFit) (c : Check) (before : Nat) (x : SampleSet) :
    (s.loadingSet c before x).slotsFit := by
  have marked : (s.markTripped x).slotsFit := h.setEngine _
  unfold State.loadingSet
  dsimp only
  split
  · exact marked.collapseSet _ _ _ _
  · exact marked.collapseSet _ _ _ _
  · exact marked.foldSet _ _

theorem engineSet (h : s.slotsFit) (x : SampleSet) : (s.engineSet x).slotsFit := by
  unfold State.engineSet
  split
  · exact h
  · have taken : (s.setEngine (s.engine.takeIn x)).slotsFit := h.setEngine _
    dsimp only
    split
    case h_1 => exact taken.quietSet _ _
    case h_2 | h_3 => exact taken.soakSet _ _ _
    case h_4 | h_5 | h_6 | h_7 => exact taken.loadingSet _ _ _
    case h_8 => exact taken.setEngine _
    case h_9 => split; exacts [taken.release, taken]
    case h_10 => exact taken

/-! ### Answers to setpoints (R126, R130, R135, R139, R153) -/

theorem newestAcknowledged (h : s.slotsFit) (c : Check) : (s.newestAcknowledged c).slotsFit := by
  have taken := h.setEngine { s.engine with awaiting := false }
  have begun := h.setEngine { s.engine with awaiting := false, dwellStart := some s.time, dwellCount := 0 }
  unfold State.newestAcknowledged
  dsimp only
  split
  case h_1 | h_2 => exact begun
  case h_3 => exact State.slotsFit.setEngine begun _
  case h_4 => split; exacts [(State.slotsFit.setEngine taken _).requestOpen, taken.release]
  case h_5 => exact taken

theorem setpointAcknowledged (h : s.slotsFit) (c : Check) : (s.setpointAcknowledged c).slotsFit := by
  unfold State.setpointAcknowledged
  split
  · exact h.newestAcknowledged c
  · split
    · exact h.setEngine _
    · exact h

theorem dropAcknowledged (h : s.slotsFit) : s.dropAcknowledged.slotsFit := by
  unfold State.dropAcknowledged
  dsimp only
  split
  case h_1 =>
    split
    · split
      · exact h.quietContactor.finishAbort _
      · exact h.quietContactor
    · exact h
  case h_2 => exact h.finishAbort _
  case h_3 => exact h

theorem engineAcknowledged (h : s.slotsFit) (sp : Setpoint) : (s.engineAcknowledged sp).slotsFit := by
  unfold State.engineAcknowledged
  split
  · exact h.dropAcknowledged
  · split
    · exact h
    · exact h.setpointAcknowledged _

/-! ### The guard unit, and what the port offers (R108, R181 to R184) -/

theorem latchFault (h : s.slotsFit) (cause : Cause) : (s.latchFault cause).slotsFit := by
  unfold State.latchFault
  split
  · exact State.slotsFit.orderAbort h.same _
  · exact State.slotsFit.orderAbort h.same _

theorem latchFaults (h : s.slotsFit) (causes : List Cause) : (causes.foldl State.latchFault s).slotsFit := by
  induction causes generalizing s with
  | nil => exact h
  | cons cause rest ih => exact ih (h.latchFault cause)

theorem guardSet (h : s.slotsFit) (x : SampleSet) : (s.guardSet x).slotsFit := by
  unfold State.guardSet
  split
  · exact h
  · split
    · exact State.slotsFit.latchFaults h.same _
    · exact h

theorem clearLatch (h : s.slotsFit) : s.clearLatch.slotsFit :=
  (State.slotsFit.examineStart (s := s.unlatched) (h.same rfl rfl id)).latchFaults _

theorem offerSet (h : s.slotsFit) (x : SampleSet) (order : SetOrder) : (s.offerSet x order).slotsFit := by
  unfold State.offerSet
  split
  · exact ((h.guardSet x).engineSet x).same
  · exact ((h.engineSet x).guardSet x).same

theorem answerMatches (h : s.slotsFit) (sp : Setpoint) : (s.answerMatches sp).slotsFit := by
  have applied : (s.setPort { s.port with applied := sp.value }).slotsFit := h.same rfl rfl id
  unfold State.answerMatches
  exact (applied.engineAcknowledged sp).same

theorem answerDiffers (h : s.slotsFit) (sp : Setpoint) : (s.answerDiffers sp).slotsFit := by
  unfold State.answerDiffers
  dsimp only
  split
  · exact (h.latchFault _).finishAbort _
  · exact h.latchFault _

end State.slotsFit
end Sys2Proof.Machine
end

section
/-!
PROOF. Start queue, HELD slots and the ACTIVE slot under every command (R67 to R85).
-/

-- Elaborated one after the other: side by side these proofs ask for more threads than the check has memory for.
set_option Elab.async false

namespace Sys2Proof.Machine

variable {s t : State}

namespace State.slotsFit

/-! ### Requests -/

theorem refuse (h : s.slotsFit) (block : Block) (f : Frame) (r : Reason) (d : Nat) :
    (s.refuse block f r d).slotsFit := h.same

theorem replySlot (h : s.slotsFit) (target : Address) (n : Fin 8) : (s.replySlot target n).slotsFit := h.same

theorem answerSlot (h : s.slotsFit) (f : Frame) (n : Fin 8) : (s.answerSlot f n).slotsFit := by
  unfold State.answerSlot
  split
  · exact h
  · exact h.replySlot _ _

/-- An OPEN begins an assembly in a slot that was VACANT (R67). -/
theorem takeOpen (h : s.slotsFit) (x : Heard) : (s.takeOpen x).slotsFit := by
  unfold State.takeOpen
  split
  · exact h.refuse _ _ _ _
  · split
    · exact h.refuse _ _ _ _
    case h_2 n _ =>
      split
      case h_1 kind passes _ =>
        have opened := h.putSlot n (x := openedSlot x kind (s.slotTable.arrival + 1)) (by rw [State.vacant_of_opens passes]; rfl)
          rfl rfl
        exact ⟨opened.nodup, opened.queued, opened.active⟩
      all_goals exact h.refuse _ _ _ _

/-- A PART of an assembly stores, breaks it off, or completes it (R68, R69, R73). -/
theorem takeOwnPart (h : s.slotsFit) {n : Fin 8} (old : (s.slotTable.slot n).isHeld = false) (f : Frame)
    (head : SlotHead) (expected : Nat) (parts : List (List Byte)) (deadline : Word) :
    (s.takeOwnPart f n head expected parts deadline).slotsFit := by
  unfold State.takeOwnPart
  dsimp only
  split
  · split
    · exact h.putSlot n old rfl rfl
    · unfold State.validateSlot
      split
      · exact (h.vacate n).refuse _ _ _ _
      case h_2 work _ => exact (h.enqueue old f head work).examineStart
  · exact (h.vacate n).refuse _ _ _ _

theorem takePart (h : s.slotsFit) (f : Frame) : (s.takePart f).slotsFit := by
  unfold State.takePart
  split
  · exact h.refuse _ _ _ _
  · split
    · exact h.refuse _ _ _ _
    · split
      case h_2 assembles =>
        split
        · exact h.takeOwnPart (by rw [assembles]; rfl) _ _ _ _ _
        · exact h.refuse _ _ _ _
      all_goals exact h.refuse _ _ _ _

theorem cancelSlot (h : s.slotsFit) (f : Frame) (n : Fin 8) : (s.cancelSlot f n).slotsFit := by
  unfold State.cancelSlot
  split
  case h_1 | h_2 => exact h.refuse _ _ _ _
  case h_3 => split; exacts [(h.vacate n).answerSlot f n, h.refuse _ _ _ _]
  case h_4 => exact (h.vacate n).answerSlot f n
  case h_5 => exact (h.orderAbort _).answerSlot f n

theorem cancelAll (h : s.slotsFit) : s.cancelAll.slotsFit := by
  have vacated : s.heldVacated.slotsFit := by
    refine h.emptied (fun x => ?_) (fun x hx => ?_)
    · cases x <;> rfl
    · split at hx
      · cases hx
      · exact hx
  by_cases active : ∃ n : Fin 8, (s.slotTable.slot n).isActive = true
  · rw [State.cancelAll_active active]
    exact vacated.orderAbort _
  · rw [State.cancelAll_inactive fun n => Bool.eq_false_iff.mpr (not_exists.mp active n)]
    exact vacated

theorem takeCancel (h : s.slotsFit) (f : Frame) : (s.takeCancel f).slotsFit := by
  unfold State.takeCancel
  split
  · exact h.refuse _ _ _ _
  · split
    · exact h.cancelSlot _ _
    · split
      · exact h.cancelAll
      · exact h.refuse _ _ _ _

theorem takeClear (h : s.slotsFit) (f : Frame) : (s.takeClear f).slotsFit := by
  unfold State.takeClear
  split
  · exact h.refuse _ _ _ _
  · split
    · exact h.refuse _ _ _ _
    · split
      case h_6 => exact (h.vacate _).replySlot _ _
      all_goals exact h.refuse _ _ _ _

/-- A FETCH locks a slot that is DONE at most (R82). -/
theorem takeFetch (h : s.slotsFit) (f : Frame) : (s.takeFetch f).slotsFit := by
  unfold State.takeFetch
  split
  · exact h.refuse _ _ _ _
  · split
    · exact h.refuse _ _ _ _
    case h_2 n _ =>
      split
      case h_5 => exact h.refuse _ _ _ _
      case h_6 ends =>
        have offered (group : List Frame) : (s.offerReplies .slotTable group).slotsFit := h.same
        unfold State.fetchResult
        dsimp only
        split
        · exact (offered _).putSlot n (by simp [ends, Slot.isHeld]) rfl rfl
        · exact offered _
      all_goals exact h.replySlot _ _

theorem takeClearFault (h : s.slotsFit) (f : Frame) : (s.takeClearFault f).slotsFit := by
  unfold State.takeClearFault
  split
  · exact h.refuse _ _ _ _
  · split
    · exact h.refuse _ _ _ _
    · split
      · exact h.refuse _ _ _ _
      · exact h.clearLatch.same

end State.slotsFit

/-- A table with every slot VACANT and nothing queued. -/
theorem State.slotsWait_of_vacant (queue : s.slotTable.queue = []) (vacant : ∀ n, s.slotTable.slot n = .vacant) :
    s.slotsWait := by
  refine ⟨⟨by rw [queue]; exact List.nodup_nil, fun n => ?_, fun n hn => ?_⟩, fun n => by rw [vacant]; rfl⟩
  · rw [queue, vacant]; exact ⟨nofun, nofun⟩
  · rw [vacant] at hn; cases hn

theorem State.slotsFit.takeBayReset (h : s.slotsFit) (f : Frame) : (s.takeBayReset f).slotsFit := by
  unfold State.takeBayReset
  split
  · exact h.refuse _ _ _ _
  · refine State.slotsFit.resetEngine (State.slotsWait.fit (State.slotsWait_of_vacant rfl fun n => ?_))
    simp only [SlotTable.vacateAll, SlotTable.slot, State.setLine_slotTable, State.setSlotTable_slotTable,
      Fin.getElem_fin, Vector.getElem_replicate]

/-! ### The bay line (R13, R28, R83, R85) -/

namespace State.slotsFit

theorem reportFailed (h : s.slotsFit) (e : Entry) : (s.reportFailed e).slotsFit := by
  unfold State.reportFailed
  split
  · exact h.releaseLocks _
  · exact h

theorem reportCompleted (h : s.slotsFit) (e : Entry) (order : Word) : (s.reportCompleted e order).slotsFit := by
  unfold State.reportCompleted
  dsimp only
  split
  · exact h.same
  · split
    · exact h.ownShed _ _
    · exact h.releaseLocks _

/-- Silencing vacates every slot but the ACTIVE one, whose check it aborts (R85, R143). -/
theorem silence (h : s.slotsFit) : s.silence.slotsFit := by
  have idle := h.emptied (f := fun x => if x.isActive then x else .vacant) (fun x => by cases x <;> rfl) fun x hx => by
    split at hx
    · assumption
    · cases hx
  have quieted : s.quieted.slotsFit := idle.same rfl rfl id
  unfold State.silence
  dsimp only
  split
  · show (s.quieted.orderAbort .stationSilenced).tryBar.slotsFit
    exact (quieted.orderAbort .stationSilenced).same
  · exact h.same rfl rfl id

end State.slotsFit

theorem handedOn_slotsFit {c : Instr} {cls kind : Nat} {take : Heard → State → State} (h : s.slotsFit)
    (hc : takesFrame c = some (cls, kind, take)) (ht : exec c s = .next t)
    (hk : ∀ x (u : State), u.slotsFit → (take x u).slotsFit) : t.slotsFit := by
  obtain rfl | ⟨x, u, hh, rfl⟩ := exec_takesFrame hc ht
  · exact h
  · obtain ⟨rest, _, rfl⟩ := State.handOn_taking hh
    exact hk _ _ (h.same rfl rfl id)

/-! ### Every command -/

namespace State.slotsFit

theorem powerReset {straps : Address} (ht : execPowerReset straps s = .next t) : t.slotsFit := by
  have same : (s.strapped straps).slotTable = State.reset.slotTable := by
    unfold State.strapped State.takeStraps
    split <;> rfl
  have vacant : (s.strapped straps).slotsFit :=
    (State.slotsWait_of_vacant (by rw [same]; rfl) fun n => by rw [same, reset_slot]).fit
  cases ht
  split
  · exact vacant.latchFault _
  · exact vacant

theorem frameReceived (h : s.slotsFit) {stamp : Word} {bits : List Bool}
    (ht : execFrameReceived stamp bits s = .next t) : t.slotsFit := by
  obtain ⟨rfl, _⟩ | ⟨start, f, _, _, rfl⟩ := execFrameReceived_cases ht
  · exact h
  · unfold State.hearFrame State.siloFrame
    dsimp only
    split
    · split
      · exact h.same
      · exact h.same
    · exact h.same rfl rfl id
    · exact h.same rfl rfl id

theorem sendCollision (h : s.slotsFit) (ht : execSendCollision s = .next t) : t.slotsFit := by
  have lined (l : Line) : (s.setLine l).slotsFit := h.same rfl rfl id
  cases ht
  split
  · exact h
  · dsimp only
    split
    · exact (lined _).silence
    · exact (lined _).reportFailed _

theorem assemblyDeadline (h : s.slotsFit) {n : Fin 8} (ht : execAssemblyDeadlineExpiry n s = .next t) :
    t.slotsFit := by
  cases ht
  split
  case h_1 =>
    split
    · exact (h.vacate n).same
    · exact h
  all_goals exact h

theorem contestDecision (h : s.slotsFit) (ht : execContestDecision s = .next t) : t.slotsFit := by
  cases ht
  split
  · split
    · split
      · exact State.slotsFit.granted h.same _
      · exact h.same (by simp [State.yieldContest]) (by simp [State.yieldContest]) (by simp [State.yieldContest])
    · exact h
  · exact h

theorem sampleSetArrival (h : s.slotsFit) {r : ReportedSet} {o : SetOrder}
    (ht : execSampleSetArrival r o s = .next t) : t.slotsFit := by
  have taken : (s.takeSet r.taken).slotsFit := h.same
  cases ht
  split
  · dsimp only
    split
    · exact State.slotsFit.offerSet taken.same _ _
    · exact taken.offerSet _ _
  · exact h

theorem setpointAcknowledgement (h : s.slotsFit) {v : Nat} (ht : execSetpointAcknowledgement v s = .next t) :
    t.slotsFit := by
  have answered : (s.setPort { s.port with onPort := none, ackTimer := none }).slotsFit := h.same rfl rfl id
  cases ht
  split
  · exact h.latchFault _
  · dsimp only
    split
    · exact answered.answerMatches _
    · exact answered.answerDiffers _

theorem timeOutTimer (h : s.slotsFit) (ht : execTimeOutTimerExpiry s = .next t) : t.slotsFit := by
  have stopped := h.setEngine { s.engine with trip := { s.engine.trip with timeOut := none } }
  cases ht
  split
  · dsimp only
    split
    · exact stopped.planEnd _
    · exact stopped
  · exact h

theorem offTimeOver (h : s.slotsFit) (c : Check) : (s.offTimeOver c).slotsFit := by
  unfold State.offTimeOver
  dsimp only
  split
  · split
    · exact h.closeWasRefused.finishAbort _
    · exact h.closeWasRefused
  · exact h.same

theorem shedHoldTimer (h : s.slotsFit) (ht : execShedHoldTimerExpiry s = .next t) : t.slotsFit := by
  cases ht
  split
  · refine h.setEngine _ ?_ ?_
    all_goals
      unfold Engine.resume
      dsimp only
      split <;> simp
  · exact h

end State.slotsFit

/-- Every command keeps start queue and slots in step. -/
theorem exec_slotsFit {c : Instr} (h : s.slotsFit) (ht : exec c s = .next t) : t.slotsFit := by
  have lined (l : Line) : (s.setLine l).slotsFit := h.same rfl rfl id
  have claimed (x : Headroom) : (s.setHeadroom x).slotsFit := h.same rfl rfl id
  have ported (p : Port) : (s.setPort p).slotsFit := h.same rfl rfl id
  cases c with
  | powerReset straps => exact State.slotsFit.powerReset ht
  | stationTimeTick => cases ht; exact h.same rfl rfl id
  | configReadComplete record =>
    obtain rfl | ⟨_, rfl | rfl | rfl⟩ := execConfigReadComplete_cases ht
    exacts [h, h.same rfl rfl id, h.same rfl rfl id, h.same rfl rfl id]
  | configReadNotAcknowledged =>
    obtain rfl | ⟨_, rfl⟩ := execConfigReadNotAcknowledged_cases ht
    exacts [h, h.same rfl rfl id]
  | configReadTimeout =>
    obtain rfl | ⟨_, rfl⟩ := execConfigReadTimeout_cases ht
    exacts [h, h.same rfl rfl id]
  | loopedFrameReceived bits =>
    obtain rfl | ⟨_, rfl | rfl⟩ := execLoopedFrameReceived_cases ht
    exacts [h, h.same rfl rfl id, h.same rfl rfl id]
  | selfLoopTimeout =>
    obtain rfl | ⟨_, rfl⟩ := execSelfLoopTimeout_cases ht
    exacts [h, h.same rfl rfl id]
  | joinTimerExpiry =>
    obtain rfl | ⟨_, rfl⟩ := execJoinTimerExpiry_cases ht
    exacts [h, State.slotsFit.examineStart (s := s.joined) (h.same rfl rfl id)]
  | frameSent =>
    obtain ⟨_, rfl⟩ | ⟨_, e, _, rfl⟩ := execFrameSent_cases ht
    exacts [h, (lined _).reportCompleted _ _]
  | arbitrationLost =>
    cases ht
    split
    exacts [h, (lined _).reportFailed _]
  | sendCollision => exact h.sendCollision ht
  | frameReceived stamp bits => exact h.frameReceived ht
  | shed =>
    refine handedOn_slotsFit h rfl ht fun x u hu => ?_
    split
    exacts [hu.shedEvent _, hu]
  | ask | hold | drop =>
    refine handedOn_slotsFit h rfl ht fun x u hu => ?_
    unfold State.takeClaim
    (repeat' split) <;> exact hu.same
  | openSlot => exact handedOn_slotsFit h rfl ht fun x u hu => hu.takeOpen x
  | part => exact handedOn_slotsFit h rfl ht fun x u hu => hu.takePart x.frame
  | cancel => exact handedOn_slotsFit h rfl ht fun x u hu => hu.takeCancel x.frame
  | clear => exact handedOn_slotsFit h rfl ht fun x u hu => hu.takeClear x.frame
  | fetch => exact handedOn_slotsFit h rfl ht fun x u hu => hu.takeFetch x.frame
  | status =>
    refine handedOn_slotsFit h rfl ht fun x u hu => ?_
    unfold State.takeStatus
    split <;> exact hu.same
  | tighten =>
    refine handedOn_slotsFit h rfl ht fun x u hu => ?_
    unfold State.takeTighten
    (repeat' split) <;> exact hu.same
  | clearFault => exact handedOn_slotsFit h rfl ht fun x u hu => hu.takeClearFault x.frame
  | bayReset => exact handedOn_slotsFit h rfl ht fun x u hu => hu.takeBayReset x.frame
  | assemblyDeadlineExpiry n => exact h.assemblyDeadline ht
  | contestDecision => exact h.contestDecision ht
  | holdStaleTimerExpiry =>
    cases ht
    split
    exacts [(claimed _).orderAbort _, h]
  | sampleSetArrival r o => exact h.sampleSetArrival ht
  | sampleWatchdogExpiry =>
    cases ht
    split
    exacts [(ported _).latchFault _, h]
  | setpointAcknowledgement v => exact h.setpointAcknowledgement ht
  | acknowledgementTimerExpiry =>
    cases ht
    split
    · exact h
    · split
      exacts [(ported _).latchFault _, h]
  | emergencyStopChange level =>
    cases ht
    split
    · exact h
    · dsimp only
      split
      exacts [(ported _).latchFault _, ported _]
  | startWaitTimerExpiry | restTimerExpiry =>
    cases ht
    split
    exacts [(State.slotsFit.requestOpen (h.setEngine _)).notRun _, h]
  | soakMaximumTimerExpiry => cases ht; split; exacts [h.notRun _, h]
  | shedHoldTimerExpiry => exact h.shedHoldTimer ht
  | timeOutTimerExpiry => exact h.timeOutTimer ht
  | offTimeTimerExpiry =>
    cases ht
    split
    · exact h
    · split
      exacts [State.slotsFit.offTimeOver (h.setEngine _) _, h]
  | recoverWaitTimerExpiry =>
    cases ht
    split
    · have aborted := h.requestOpen.enterAbort (some .recoverFailed) false
      dsimp only
      generalize s.requestOpen.enterAbort (some .recoverFailed) false = u at aborted ⊢
      exact State.slotsFit.latchFault (aborted.setEngine { u.engine with selfCause := some .recoverFailed } rfl id) _
    · exact h
  | transmitStart | receivedInError | abortRunSeen | lineIdle | contestTimerExpiry | backoffTimerExpiry
  | refreshTimerExpiry | peerEntryExpiry | reListenTimerExpiry | sampleReadBegin | writeBegin | writeEnd =>
    cases ht
    (repeat' split) <;> exact h.same

/-- Settles O35: every command keeps queue, HELD slots and the ACTIVE slot in step, and a step is one command. -/
theorem slotFormKept : Obligations.SlotFormKept := fun _ _ form ht =>
  State.slotForm_iff_fit.mpr (step_keeps_form (P := State.slotsFit)
    (fun _ _ h => ⟨h.nodup, h.queued, h.active⟩) (fun _ _ _ => exec_slotsFit) (State.slotForm_iff_fit.mp form) ht)

end Sys2Proof.Machine
end

section
/-!
PROOF. What a matching acknowledgement does for the engine: the answer to the newest setpoint by phase, the answer to a
drop in QUIET and in ABORTING, and the result that SETTLE and an abort end in (R76, R97, R126, R130, R135, R139, R140,
R153).
-/

-- Elaborated one after the other: side by side these proofs ask for more threads than the check has memory for.
set_option Elab.async false

namespace Sys2Proof.Machine

variable {s : State} {c : Check} {o : OnPort}

/-! ### The answer to the newest setpoint -/

theorem State.engineAcknowledged_newest (check : s.engine.check = some c) {sp : Setpoint} (load : sp.drop = false)
    (newest : s.port.pending = none) : s.engineAcknowledged sp = s.newestAcknowledged c := by
  simp [State.engineAcknowledged, State.setpointAcknowledged, load, check, newest]

/-- A dwell of RAMP or PRELOAD counts from the acknowledgement of its setpoint (R130). -/
theorem State.newestAcknowledged_dwell (phase : s.engine.phase = .ramp ∨ s.engine.phase = .preload) :
    s.newestAcknowledged c = { s with engine := { s.engine with
      awaiting := false, dwellStart := some s.time, dwellCount := 0 } } := by
  unfold State.newestAcknowledged
  obtain phase | phase := phase <;> rw [phase] <;> rfl

/-- Io acknowledged fixes the step instant and the time-out (R153). -/
theorem State.newestAcknowledged_step {p : TimeParams} (params : c.params = .tripTime p)
    (phase : s.engine.phase = .step) :
    s.newestAcknowledged c = { s with engine := { s.engine with
      awaiting := false, dwellStart := some s.time, dwellCount := 0
      trip := { s.engine.trip with
        stepInstant := some s.time, timeOut := some (later s.time (p.timeOut * 10)) } } } := by
  unfold State.newestAcknowledged
  rw [phase, params]
  rfl

/-- The zero of SETTLE acknowledged begins the recovery of a load that tripped (R135, R136). -/
theorem State.newestAcknowledged_tripped (phase : s.engine.phase = .settle) (tripped : s.engine.tripped = true) :
    s.newestAcknowledged c = (s.setEngine { s.engine with awaiting := false }).enterRecover c.params := by
  unfold State.newestAcknowledged
  rw [phase]
  simp only [tripped, if_true]

/-- The zero of SETTLE acknowledged ends the check of a load that did not trip (R135). -/
theorem State.newestAcknowledged_held (phase : s.engine.phase = .settle) (held : s.engine.tripped = false) :
    s.newestAcknowledged c = (s.setEngine { s.engine with awaiting := false }).release := by
  unfold State.newestAcknowledged
  rw [phase]
  simp only [held, Bool.false_eq_true, if_false]

theorem State.enterRecover_parts (s : State) (p : Params) :
    (s.enterRecover p).port.standing = .opened ∧
    (s.enterRecover p).engine = { s.engine with phase := .recover, offTime := some (later s.time p.offUnits) } :=
  ⟨rfl, by simp [State.enterRecover]⟩

/-! ### The answer to a drop -/

/-- QUIET closes the contactor at the answer to its drop, unless a hold refuses the close (R126). -/
theorem State.dropAcknowledged_quiet (phase : s.engine.phase = .quiet) (waits : s.engine.quiet = .drop)
    (opened : s.port.standing = .opened) (free : s.port.hold = false) :
    s.dropAcknowledged = { s with
      engine := { s.engine with
        quiet := .powerGood, restCount := 0, startWait := some (later s.time (s.config.startWait * 10000)) }
      port := { s.port with standing := .closed, confirmedOpen := false } } := by
  have closes := State.quietContactor_opened opened free
  unfold State.dropAcknowledged
  simp only [phase, waits, closes, beq_self_eq_true, if_true]
  rfl

theorem State.dropAcknowledged_aborting (phase : s.engine.phase = .aborting) :
    s.dropAcknowledged = s.finishAbort false := by
  simp only [State.dropAcknowledged, phase]

/-! ### What an ended check hands back -/

/-- A check of `s` has ended in `t`: its slot is DONE with a record that reports the check, and its owner is told. -/
def State.handsBack (s t : State) (n : Fin 8) (head : SlotHead) (work : Work) : Prop :=
  ∃ r, t.slotTable.slot n = .done head work r none ∧ r.endStamp = s.time ∧ s.reports r ∧ s.noted t n head r ∧
    r.cause = s.engine.cause.getD .none ∧
    (s.engine.verdict = none → r.verdict = .aborted ∧ r.measured = 0) ∧
    ∀ d ∈ s.engine.verdict, r.verdict = d.verdict ∧ r.measured = d.measured

theorem State.handsBack_of_record {t : State} {n : Fin 8} {head : SlotHead} {work : Work}
    (slot : t.slotTable.slot n =
      .done head work ((s.engine.leaveClaiming s.time).resultRecord s.time) none)
    (noted : s.noted t n head ((s.engine.leaveClaiming s.time).resultRecord s.time)) :
    s.handsBack t.portReport n head work := by
  refine ⟨_, by simpa using slot, rfl, s.reports_resultRecord, ?_, ?_, fun none => ?_, fun d verdict => ?_⟩
  · exact State.noted_of_line noted (State.portReport_replies rfl)
  · simp [Engine.resultRecord]
  · simp [Engine.resultRecord, none]
  · simp [Engine.resultRecord, Option.mem_def.mp verdict]

theorem State.release_handsBack (check : s.engine.check = some c) {head : SlotHead} {work : Work}
    (active : s.slotTable.slot c.slot = .active head work) : s.handsBack s.release.portReport c.slot head work :=
  State.handsBack_of_record (State.release_done check active) (State.release_noted check active)

theorem State.finishAbort_handsBack (check : s.engine.check = some c) (phase : s.engine.phase = .aborting)
    (result : s.engine.noResult = false) (mismatched : Bool) {head : SlotHead} {work : Work}
    (active : s.slotTable.slot c.slot = .active head work) :
    s.handsBack (s.finishAbort mismatched).portReport c.slot head work := by
  have record : s.engine.leaveClaiming s.time = s.engine := by simp [Engine.leaveClaiming, phase]
  refine State.handsBack_of_record ?_ ?_ <;> rw [record]
  exacts [State.finishAbort_done mismatched result check active, State.finishAbort_noted mismatched check active result]

/-! ### The contactor at the end of an abort (R139) -/

theorem Cause.opens_iff (cause : Cause) : cause.opens = true ↔
    cause ∈ [Cause.estop, .guardV, .guardI, .loadStageSilent, .loadStageMismatch, .samplesLost, .recoverFailed] := by
  cases cause <;> simp [Cause.opens]

theorem Engine.abortOpens_iff (e : Engine) : e.abortOpens false = true ↔
    e.mustOpen = true ∨ ∃ cause ∈ e.cause, cause ∈ [Cause.estop, .guardV, .guardI, .loadStageSilent,
      .loadStageMismatch, .samplesLost, .recoverFailed] := by
  simp only [Engine.abortOpens, Bool.or_false, Bool.or_eq_true, Option.any_eq_true, Cause.opens_iff]
  rw [or_comm]
  rfl

/-- With no slot queued an abort that ends leaves the contactor as its causes ask (R139, R140). -/
theorem State.finishAbort_standing (queue : s.slotTable.queue = []) :
    (s.finishAbort false).port.standing =
      if s.engine.abortOpens false = true then .opened else s.port.standing := by
  have opened : (if s.engine.abortOpens false = true then s.requestOpen else s).port.standing =
      if s.engine.abortOpens false = true then .opened else s.port.standing := by
    split <;> rfl
  have slots : (if s.engine.abortOpens false = true then s.requestOpen else s).slotTable = s.slotTable := by
    split <;> simp
  unfold State.finishAbort
  rw [← opened]
  generalize (if s.engine.abortOpens false = true then s.requestOpen else s) = u at slots
  dsimp only
  split
  · obtain ⟨_, _, stands⟩ := State.finishCheck_idle (s := u.withdrawNeed.vacateActive) false (by simp [slots, queue])
    rw [stands]; simp
  · obtain ⟨_, _, stands⟩ := State.finishCheck_idle
      (s := u.withdrawNeed.handBack (u.engine.resultRecord u.time)) false (by simp [slots, queue])
    rw [stands]; simp

/-! ### The obligation -/

/-- Settles O53: the answer is the newest setpoint's or a drop's, the phase decides what it moves, and a check that ends
with it hands its record back. -/
theorem acknowledgementMovesEngine : Obligations.AcknowledgementMovesEngine := by
  intro s o on e v s1 out
  have answered : out = .next (s1.engineAcknowledged o.setpoint).portReport := execSetpointAcknowledgement_matches on
  rw [answered]
  refine ⟨fun c check load newest => ?_, fun drop phase waits opened free => ?_, fun drop phase result c check => ?_⟩
  · rw [State.engineAcknowledged_newest (s := s1) check load newest]
    refine ⟨fun phase => ?_, fun p params phase => ?_, fun phase tripped => ?_, fun phase held => ?_⟩
    · rw [State.newestAcknowledged_dwell (s := s1) phase]
    · rw [State.newestAcknowledged_step (s := s1) params phase]
    · rw [State.newestAcknowledged_tripped (s := s1) phase tripped]
      obtain ⟨opened, engine⟩ := State.enterRecover_parts (s1.setEngine { s1.engine with awaiting := false }) c.params
      refine ⟨_, rfl, by simpa using opened, ?_⟩
      simp only [State.portReport_frame, engine]
      cases c.params <;> rfl
    · rw [State.newestAcknowledged_held (s := s1) phase held]
      refine ⟨_, rfl, fun head work active => ?_⟩
      obtain ⟨r, slot, stamp, reports, noted, cause, _, verdict⟩ :=
        State.release_handsBack (s := s1.setEngine { s1.engine with awaiting := false }) check active
      exact ⟨r, slot, stamp, reports, noted, cause, verdict⟩
  · have acknowledged : s1.engineAcknowledged o.setpoint = s1.dropAcknowledged := by
      simp only [State.engineAcknowledged, drop, if_true]
    rw [acknowledged, State.dropAcknowledged_quiet (s := s1) phase waits opened free]
    rfl
  · have acknowledged : s1.engineAcknowledged o.setpoint = s1.finishAbort false := by
      rw [← State.dropAcknowledged_aborting (s := s1) phase]
      simp only [State.engineAcknowledged, drop, if_true]
    rw [acknowledged]
    refine ⟨_, rfl, fun queue => ?_, fun head work active => ?_⟩
    · have stands : (s1.finishAbort false).portReport.port.standing =
          if e.abortOpens false = true then .opened else s.port.standing := by
        simpa using State.finishAbort_standing (s := s1) queue
      rw [stands]
      refine ⟨fun opens => if_pos (e.abortOpens_iff.mpr opens), fun calm mild => if_neg fun opens => ?_⟩
      obtain must | ⟨cause, first, latching⟩ := e.abortOpens_iff.mp opens
      · rw [calm] at must; cases must
      · exact mild cause first latching
    · obtain ⟨r, slot, _, reports, noted, cause, none, verdict⟩ :=
        State.finishAbort_handsBack (s := s1) check phase result false active
      exact ⟨r, slot, reports, noted, cause, none, verdict⟩

end Sys2Proof.Machine
end
